-- ==== Sys2Proof/Word.lean ====
section
/-! DEFINITION. The word types of the machine: bytes, the 80-bit extended-real image, the stack index. -/

namespace Sys2Proof

/-- One byte of memory or of the instruction stream. -/
abbrev Byte := BitVec 8

/-- An 80-bit register image: bit 79 sign, bits 78..64 exponent, bits 63..0 significand (R20). -/
abbrev Ext := BitVec 80

/-- The stack index `i` of `ST(i)`, `i = 0..7`, relative to TOP (R21). -/
abbrev StIndex := BitVec 3

end Sys2Proof
end

