-- ==== Sys2Proof/Config.lean ====
section
/-! DEFINITION. What an implementation fixes and what the spec leaves open: the model's named arguments
(R7) as plain data, and the free values, which are opaque constants without a body. -/

namespace Sys2Proof

/-- The rounding control field, CW bits 11..10 (R43). -/
inductive RC
  /-- 00: round to nearest or even. -/
  | nearest
  /-- 01: round down, toward minus infinity. -/
  | down
  /-- 10: round up, toward plus infinity. -/
  | up
  /-- 11: chop, truncate toward zero. -/
  | chop
deriving DecidableEq, Repr

/-- `reserved_esc`: what the NPX does with an ESC encoding Appendix A marks reserved (R122, 93 U1). -/
inductive ReservedEsc
  /-- The recommended reading: no meaning. -/
  | refuse
  /-- The other reading of 92 (OPEN row): an FNOP-like no-operation with all NPX state a draw. -/
  | draw
deriving DecidableEq, Repr

/-- `cw_reserved_readback`: what CW bits 15..13, 7, 6 read as after a load (R44, 93 U14). -/
inductive CwReadback
  /-- Bit 6 reads 1; bits 15..13 and 7 read 0, whatever was loaded. -/
  | fixed
  /-- Bit 6 reads 1; bits 15..13 and 7 read as written. -/
  | asWritten
deriving DecidableEq, Repr

/-- How ERROR# and BUSY# are wired (R390, R392). -/
inductive Platform
  /-- Figure 3.2: the pins go to the 80386 pins of the same names. -/
  | standard
  /-- Appendix F: ERROR# drives IRQ13 and latches BUSY#. -/
  | pcAt
deriving DecidableEq, Repr

/-- `self_modifying_code`: whether a program may execute bytes it has written (R426, 92 D16). -/
inductive SelfModifyingCode
  /-- The host fetches coherently: what memory holds is what is executed. -/
  | coherent
  /-- A program that executes a byte it has stored is refused. -/
  | refuse
deriving DecidableEq, Repr

/-- The parameters of R7 that are fixed for one machine and that no instruction changes. -/
structure Params where
  reservedEsc : ReservedEsc
  cwReadback : CwReadback
  /-- `fnstcw_checks_error` (R331, R371, 90 C10): whether FNSTCW takes interrupt 16 when ES = 1. -/
  fnstcwChecksError : Bool
  platform : Platform
  selfModifyingCode : SelfModifyingCode
deriving DecidableEq, Repr

/-- The four condition-code bits (R30). -/
inductive CcBit
  | c0 | c1 | c2 | c3
deriving DecidableEq, Repr

/-- Every single value the spec leaves to a `draw`, by name. -/
inductive Draw
  /-- A condition-code bit that is UNDEFINED after an instruction (R37, 93 U12). -/
  | cc (b : CcBit)
  /-- The data pointer's offset after an ESC instruction without a memory operand (R47, 93 U2). -/
  | dataOffset
  /-- The data pointer's selector after an ESC instruction without a memory operand (R47, 93 U2). -/
  | dataSelector
  /-- The RESERVED 16-bit field at a byte offset of an environment image (R335, 93 U15). -/
  | reservedField (off : Nat)
  /-- The register FBLD loads from an operand with a digit A to F (R182, 93 U5). -/
  | bcdDigits
  /-- The result image of a PC-controlled instruction while PC = 01 (93 U3). -/
  | pcImage
  /-- The result exceptions and C1 of a PC-controlled instruction while PC = 01 (93 U3). -/
  | pcOverflow | pcUnderflow | pcInexact | pcC1
  /-- The unmasked overflow or underflow result whose adjusted exponent is still outside the format
  (R166, R167 give none). -/
  | beyondAdjust
  /-- The result image of F2XM1 and FYL2XP1 outside their operand ranges (93 U7, U8). -/
  | rangeImage
  /-- PE, UE and C1 of F2XM1 and FYL2XP1 outside their operand ranges (93 U7, U8). -/
  | rangeInexact | rangeUnderflow | rangeC1
  /-- After interrupt 9 (R381, 93 U11): the return address, the pointers, the NPX state, stored bytes. -/
  | overrunRetSelector | overrunRetOffset
  | overrunFip | overrunFcs | overrunFdp | overrunFds | overrunFop
  | overrunReg (k : Nat) | overrunEmpty | overrunMoved | overrunStatus | overrunControl
  | overrunBytes
  /-- The NPX state after a reserved encoding under `ReservedEsc.draw` (93 U1). -/
  | reservedReg (k : Nat) | reservedEmpty | reservedStatus | reservedControl
  /-- The data registers after a hardware RESET (R64, 93 U10). -/
  | resetReg (k : Nat)
  /-- The bytes that a store with an unmasked exception may write on the PC/AT connection (R392). -/
  | pcAtBytes
deriving DecidableEq, Repr

/-- The free values: `Config.draw w what n` is the value drawn for `what` by the instruction whose
number is `n` (the counter `State.draws`). Nothing constrains it. -/
opaque Config.draw (w : Nat) (what : Draw) (n : Nat) : BitVec w

/-- A drawn bit. -/
def Config.drawBit (what : Draw) (n : Nat) : Bool := (Config.draw 1 what n).getLsbD 0

/-- `fprem_N(D)` is `32 + fpremExtra D`, hence an integer from 32 to 63 (R283). -/
opaque Config.fpremExtra (d : Nat) : BitVec 5

/-- The number of exponent steps one incomplete FPREM or FPREM1 removes (R283). -/
def Config.fpremN (d : Nat) : Nat := 32 + (Config.fpremExtra d).toNat

/-- The one-operand functions of the record `transc` (R300). -/
inductive Transc1
  | sin | cos | tan | exp2m1
deriving DecidableEq, Repr

/-- The two-operand functions of the record `transc` (R300), `ylog2x` apart. -/
inductive Transc2
  | atan2 | ylog2xp1
deriving DecidableEq, Repr

/-- What a function of `transc` answers (R300): an image, and whether and in which direction it was rounded. The
image as drawn may be any; the machine reads it as a Zero, Denormal or Normal image. -/
structure TranscValue where
  img : Ext
  inexact : Bool
  roundup : Bool
deriving DecidableEq, Repr, Inhabited

/-- What `transc.ylog2x` answers (R300, R308). Its result passes the tests for overflow and underflow, so its exponent is
not bounded by the format: the number is `1.frac` times a power of two, `exp` above the smallest. -/
structure TranscLog where
  neg : Bool
  exp : BitVec 16
  frac : BitVec 63
  inexact : Bool
  roundup : Bool
deriving DecidableEq, Repr, Inhabited

/-- The uninterpreted one-operand functions (R300). -/
opaque Config.transc1 (f : Transc1) (x : Ext) (rc : RC) : TranscValue

/-- The uninterpreted two-operand functions (R300), `y` = ST(1), `x` = ST(0). -/
opaque Config.transc2 (f : Transc2) (y x : Ext) (rc : RC) : TranscValue

/-- The uninterpreted function `ylog2x` (R300, R308), `y` = ST(1), `x` = ST(0). -/
opaque Config.ylog2x (y x : Ext) (rc : RC) : TranscLog

end Sys2Proof
end

