-- ==== Sys2Proof/Syntax.lean ====
section
/-! DEFINITION. The instructions: one constructor per row of spec/opcode_table.json, with the prefix bytes
in front of it (R106), its stack index or its memory operand (R104, R108 to R110). -/

namespace Sys2Proof

/-- An operand-size or address-size attribute, 16 or 32 bits (R106). -/
inductive Size
  | s16 | s32
deriving DecidableEq, Repr

/-- The 80386 general registers (R26), in the order of their encoding numbers 0 to 7 (R109). -/
inductive Reg32
  | eax | ecx | edx | ebx | esp | ebp | esi | edi
deriving DecidableEq, Repr

/-- The segment registers (R26). -/
inductive SegReg
  | es | cs | ss | ds | fs | gs
deriving DecidableEq, Repr

/-- The prefixes that matter to an ESC instruction (R106). -/
inductive Prefix
  /-- 66H, operand-size override. -/
  | opSize
  /-- 67H, address-size override. -/
  | addrSize
  /-- 26H, 2EH, 36H, 3EH, 64H, 65H: segment override. -/
  | seg (r : SegReg)
deriving DecidableEq, Repr

/-- The scale field of a SIB byte: index times 1, 2, 4 or 8 (R109). -/
inductive Scale
  | x1 | x2 | x4 | x8
deriving DecidableEq, Repr

/-- The register part of a 16-bit address, in the order of the R/M field (R110). -/
inductive Base16
  | bxSi | bxDi | bpSi | bpDi | si | di | bp | bx
deriving DecidableEq, Repr

/-- The displacement after a MOD field 00, 01 or 10: none, one byte (sign-extended), or `n` bits. -/
inductive Disp (n : Nat)
  | none
  | byte (d : BitVec 8)
  | full (d : BitVec n)
deriving DecidableEq, Repr

/-- A memory operand (MOD not 11): R110 for 16-bit addressing, R108 and R109 for 32-bit addressing. -/
inductive MemArg
  /-- 16-bit: a register part and a displacement. -/
  | a16 (base : Base16) (d : Disp 16)
  /-- 16-bit: MOD 00, R/M 110, a 16-bit displacement alone. -/
  | direct16 (d : BitVec 16)
  /-- 32-bit: one base register and a displacement. -/
  | a32 (base : Reg32) (d : Disp 32)
  /-- 32-bit: MOD 00, R/M 101, a 32-bit displacement alone. -/
  | direct32 (d : BitVec 32)
  /-- 32-bit with a SIB byte: base, scaled index (none for index 100) and displacement. -/
  | sib (scale : Scale) (index : Option Reg32) (base : Reg32) (d : Disp 32)
  /-- 32-bit with a SIB byte of base 101 and MOD 00: scaled index and a 32-bit displacement. -/
  | sibNoBase (scale : Scale) (index : Option Reg32) (d : BitVec 32)
deriving DecidableEq, Repr

/-- The instructions. `pre` is the list of prefix bytes in front of the opcode, `i` the stack index of
`ST(i)`, `m` the memory operand, `k` the free low bits of a reserved range of second bytes. -/
inductive Instr
  /-- FADD single-real: D8 /0 (R262). -/
  | faddSingleReal (pre : List Prefix) (m : MemArg)
  /-- FMUL single-real: D8 /1 (R266). -/
  | fmulSingleReal (pre : List Prefix) (m : MemArg)
  /-- FCOM single-real: D8 /2 (R231). -/
  | fcomSingleReal (pre : List Prefix) (m : MemArg)
  /-- FCOMP single-real: D8 /3 (R232). -/
  | fcompSingleReal (pre : List Prefix) (m : MemArg)
  /-- FSUB single-real: D8 /4 (R263). -/
  | fsubSingleReal (pre : List Prefix) (m : MemArg)
  /-- FSUBR single-real: D8 /5 (R264). -/
  | fsubrSingleReal (pre : List Prefix) (m : MemArg)
  /-- FDIV single-real: D8 /6 (R267). -/
  | fdivSingleReal (pre : List Prefix) (m : MemArg)
  /-- FDIVR single-real: D8 /7 (R268). -/
  | fdivrSingleReal (pre : List Prefix) (m : MemArg)
  /-- FADD ST,ST(i): D8 C0+i (R262). -/
  | faddStSti (pre : List Prefix) (i : StIndex)
  /-- FMUL ST,ST(i): D8 C8+i (R266). -/
  | fmulStSti (pre : List Prefix) (i : StIndex)
  /-- FCOM ST(i): D8 D0+i (R231). -/
  | fcomSti (pre : List Prefix) (i : StIndex)
  /-- FCOMP ST(i): D8 D8+i (R232). -/
  | fcompSti (pre : List Prefix) (i : StIndex)
  /-- FSUB ST,ST(i): D8 E0+i (R263). -/
  | fsubStSti (pre : List Prefix) (i : StIndex)
  /-- FSUBR ST,ST(i): D8 E8+i (R264). -/
  | fsubrStSti (pre : List Prefix) (i : StIndex)
  /-- FDIV ST,ST(i): D8 F0+i (R267). -/
  | fdivStSti (pre : List Prefix) (i : StIndex)
  /-- FDIVR ST,ST(i): D8 F8+i (R268). -/
  | fdivrStSti (pre : List Prefix) (i : StIndex)
  /-- FLD single-real: D9 /0 (R201). -/
  | fldSingleReal (pre : List Prefix) (m : MemArg)
  /-- (reserved) D9 /1: D9 /1 (R122). -/
  | reservedD9mem1 (pre : List Prefix) (m : MemArg)
  /-- FST single-real: D9 /2 (R206). -/
  | fstSingleReal (pre : List Prefix) (m : MemArg)
  /-- FSTP single-real: D9 /3 (R207). -/
  | fstpSingleReal (pre : List Prefix) (m : MemArg)
  /-- FLDENV: D9 /4 (R336). -/
  | fldenv (pre : List Prefix) (m : MemArg)
  /-- FLDCW: D9 /5 (R330). -/
  | fldcw (pre : List Prefix) (m : MemArg)
  /-- FSTENV: D9 /6 (R337). -/
  | fstenv (pre : List Prefix) (m : MemArg)
  /-- FSTCW: D9 /7 (R331). -/
  | fstcw (pre : List Prefix) (m : MemArg)
  /-- FLD ST(i): D9 C0+i (R204). -/
  | fldSti (pre : List Prefix) (i : StIndex)
  /-- FXCH ST(i): D9 C8+i (R211). -/
  | fxchSti (pre : List Prefix) (i : StIndex)
  /-- FNOP: D9 D0 (R348). -/
  | fnop (pre : List Prefix)
  /-- (reserved) D9 D1: D9 D1 (R122). -/
  | reservedD9rD1 (pre : List Prefix)
  /-- (reserved) D9 D2..D3: D9 D2+k (R122). -/
  | reservedD9rD2toD3 (pre : List Prefix) (k : BitVec 1)
  /-- (reserved) D9 D4..D7: D9 D4+k (R122). -/
  | reservedD9rD4toD7 (pre : List Prefix) (k : BitVec 2)
  /-- (reserved) D9 D8..DF: D9 D8+k (R122). -/
  | reservedD9rD8toDF (pre : List Prefix) (k : BitVec 3)
  /-- FCHS: D9 E0 (R291). -/
  | fchs (pre : List Prefix)
  /-- FABS: D9 E1 (R290). -/
  | fabs (pre : List Prefix)
  /-- (reserved) D9 E2: D9 E2 (R122). -/
  | reservedD9rE2 (pre : List Prefix)
  /-- (reserved) D9 E3: D9 E3 (R122). -/
  | reservedD9rE3 (pre : List Prefix)
  /-- FTST: D9 E4 (R236). -/
  | ftst (pre : List Prefix)
  /-- FXAM: D9 E5 (R240). -/
  | fxam (pre : List Prefix)
  /-- (reserved) D9 E6: D9 E6 (R122). -/
  | reservedD9rE6 (pre : List Prefix)
  /-- (reserved) D9 E7: D9 E7 (R122). -/
  | reservedD9rE7 (pre : List Prefix)
  /-- FLD1: D9 E8 (R252). -/
  | fld1 (pre : List Prefix)
  /-- FLDL2T: D9 E9 (R254). -/
  | fldl2t (pre : List Prefix)
  /-- FLDL2E: D9 EA (R255). -/
  | fldl2e (pre : List Prefix)
  /-- FLDPI: D9 EB (R253). -/
  | fldpi (pre : List Prefix)
  /-- FLDLG2: D9 EC (R256). -/
  | fldlg2 (pre : List Prefix)
  /-- FLDLN2: D9 ED (R257). -/
  | fldln2 (pre : List Prefix)
  /-- FLDZ: D9 EE (R251). -/
  | fldz (pre : List Prefix)
  /-- (reserved) D9 EF: D9 EF (R122). -/
  | reservedD9rEF (pre : List Prefix)
  /-- F2XM1: D9 F0 (R307). -/
  | f2xm1 (pre : List Prefix)
  /-- FYL2X: D9 F1 (R308). -/
  | fyl2x (pre : List Prefix)
  /-- FPTAN: D9 F2 (R303). -/
  | fptan (pre : List Prefix)
  /-- FPATAN: D9 F3 (R306). -/
  | fpatan (pre : List Prefix)
  /-- FXTRACT: D9 F4 (R288). -/
  | fxtract (pre : List Prefix)
  /-- FPREM1: D9 F5 (R285). -/
  | fprem1 (pre : List Prefix)
  /-- FDECSTP: D9 F6 (R346). -/
  | fdecstp (pre : List Prefix)
  /-- FINCSTP: D9 F7 (R345). -/
  | fincstp (pre : List Prefix)
  /-- FPREM: D9 F8 (R284). -/
  | fprem (pre : List Prefix)
  /-- FYL2XP1: D9 F9 (R309). -/
  | fyl2xp1 (pre : List Prefix)
  /-- FSQRT: D9 FA (R280). -/
  | fsqrt (pre : List Prefix)
  /-- FSINCOS: D9 FB (R305). -/
  | fsincos (pre : List Prefix)
  /-- FRNDINT: D9 FC (R287). -/
  | frndint (pre : List Prefix)
  /-- FSCALE: D9 FD (R282). -/
  | fscale (pre : List Prefix)
  /-- FSIN: D9 FE (R302). -/
  | fsin (pre : List Prefix)
  /-- FCOS: D9 FF (R301). -/
  | fcos (pre : List Prefix)
  /-- FIADD short-integer: DA /0 (R270). -/
  | fiaddShortInteger (pre : List Prefix) (m : MemArg)
  /-- FIMUL short-integer: DA /1 (R274). -/
  | fimulShortInteger (pre : List Prefix) (m : MemArg)
  /-- FICOM short-integer: DA /2 (R234). -/
  | ficomShortInteger (pre : List Prefix) (m : MemArg)
  /-- FICOMP short-integer: DA /3 (R235). -/
  | ficompShortInteger (pre : List Prefix) (m : MemArg)
  /-- FISUB short-integer: DA /4 (R271). -/
  | fisubShortInteger (pre : List Prefix) (m : MemArg)
  /-- FISUBR short-integer: DA /5 (R272). -/
  | fisubrShortInteger (pre : List Prefix) (m : MemArg)
  /-- FIDIV short-integer: DA /6 (R275). -/
  | fidivShortInteger (pre : List Prefix) (m : MemArg)
  /-- FIDIVR short-integer: DA /7 (R276). -/
  | fidivrShortInteger (pre : List Prefix) (m : MemArg)
  /-- (reserved) DA C0..DF: DA C0+k (R122). -/
  | reservedDArC0toDF (pre : List Prefix) (k : BitVec 5)
  /-- (reserved) DA E0..E7: DA E0+k (R122). -/
  | reservedDArE0toE7 (pre : List Prefix) (k : BitVec 3)
  /-- (reserved) DA E8: DA E8 (R122). -/
  | reservedDArE8 (pre : List Prefix)
  /-- FUCOMPP: DA E9 (R239). -/
  | fucompp (pre : List Prefix)
  /-- (reserved) DA EA..EB: DA EA+k (R122). -/
  | reservedDArEAtoEB (pre : List Prefix) (k : BitVec 1)
  /-- (reserved) DA EC..EF: DA EC+k (R122). -/
  | reservedDArECtoEF (pre : List Prefix) (k : BitVec 2)
  /-- (reserved) DA F0..FF: DA F0+k (R122). -/
  | reservedDArF0toFF (pre : List Prefix) (k : BitVec 4)
  /-- FILD short-integer: DB /0 (R212). -/
  | fildShortInteger (pre : List Prefix) (m : MemArg)
  /-- (reserved) DB /1: DB /1 (R122). -/
  | reservedDBmem1 (pre : List Prefix) (m : MemArg)
  /-- FIST short-integer: DB /2 (R214). -/
  | fistShortInteger (pre : List Prefix) (m : MemArg)
  /-- FISTP short-integer: DB /3 (R215). -/
  | fistpShortInteger (pre : List Prefix) (m : MemArg)
  /-- (reserved) DB /4: DB /4 (R122). -/
  | reservedDBmem4 (pre : List Prefix) (m : MemArg)
  /-- FLD extended-real: DB /5 (R203). -/
  | fldExtendedReal (pre : List Prefix) (m : MemArg)
  /-- (reserved) DB /6: DB /6 (R122). -/
  | reservedDBmem6 (pre : List Prefix) (m : MemArg)
  /-- FSTP extended-real: DB /7 (R209). -/
  | fstpExtendedReal (pre : List Prefix) (m : MemArg)
  /-- (reserved) DB C0..DF: DB C0+k (R122). -/
  | reservedDBrC0toDF (pre : List Prefix) (k : BitVec 5)
  /-- FENI: DB E0 (R349). -/
  | feni (pre : List Prefix)
  /-- FDISI: DB E1 (R349). -/
  | fdisi (pre : List Prefix)
  /-- FCLEX: DB E2 (R333). -/
  | fclex (pre : List Prefix)
  /-- FINIT: DB E3 (R325). -/
  | finit (pre : List Prefix)
  /-- FSETPM: DB E4 (R349). -/
  | fsetpm (pre : List Prefix)
  /-- (reserved) DB E5: DB E5 (R122). -/
  | reservedDBrE5 (pre : List Prefix)
  /-- (reserved) DB E6..E7: DB E6+k (R122). -/
  | reservedDBrE6toE7 (pre : List Prefix) (k : BitVec 1)
  /-- (reserved) DB E8..EF: DB E8+k (R122). -/
  | reservedDBrE8toEF (pre : List Prefix) (k : BitVec 3)
  /-- (reserved) DB F0..FF: DB F0+k (R122). -/
  | reservedDBrF0toFF (pre : List Prefix) (k : BitVec 4)
  /-- FADD double-real: DC /0 (R262). -/
  | faddDoubleReal (pre : List Prefix) (m : MemArg)
  /-- FMUL double-real: DC /1 (R266). -/
  | fmulDoubleReal (pre : List Prefix) (m : MemArg)
  /-- FCOM double-real: DC /2 (R231). -/
  | fcomDoubleReal (pre : List Prefix) (m : MemArg)
  /-- FCOMP double-real: DC /3 (R232). -/
  | fcompDoubleReal (pre : List Prefix) (m : MemArg)
  /-- FSUB double-real: DC /4 (R263). -/
  | fsubDoubleReal (pre : List Prefix) (m : MemArg)
  /-- FSUBR double-real: DC /5 (R264). -/
  | fsubrDoubleReal (pre : List Prefix) (m : MemArg)
  /-- FDIV double-real: DC /6 (R267). -/
  | fdivDoubleReal (pre : List Prefix) (m : MemArg)
  /-- FDIVR double-real: DC /7 (R268). -/
  | fdivrDoubleReal (pre : List Prefix) (m : MemArg)
  /-- FADD ST(i),ST: DC C0+i (R262). -/
  | faddStiSt (pre : List Prefix) (i : StIndex)
  /-- FMUL ST(i),ST: DC C8+i (R266). -/
  | fmulStiSt (pre : List Prefix) (i : StIndex)
  /-- (reserved) DC D0..DF: DC D0+k (R122). -/
  | reservedDCrD0toDF (pre : List Prefix) (k : BitVec 4)
  /-- FSUBR ST(i),ST: DC E0+i (R264). -/
  | fsubrStiSt (pre : List Prefix) (i : StIndex)
  /-- FSUB ST(i),ST: DC E8+i (R263). -/
  | fsubStiSt (pre : List Prefix) (i : StIndex)
  /-- FDIVR ST(i),ST: DC F0+i (R268). -/
  | fdivrStiSt (pre : List Prefix) (i : StIndex)
  /-- FDIV ST(i),ST: DC F8+i (R267). -/
  | fdivStiSt (pre : List Prefix) (i : StIndex)
  /-- FLD double-real: DD /0 (R202). -/
  | fldDoubleReal (pre : List Prefix) (m : MemArg)
  /-- (reserved) DD /1: DD /1 (R122). -/
  | reservedDDmem1 (pre : List Prefix) (m : MemArg)
  /-- FST double-real: DD /2 (R206). -/
  | fstDoubleReal (pre : List Prefix) (m : MemArg)
  /-- FSTP double-real: DD /3 (R207). -/
  | fstpDoubleReal (pre : List Prefix) (m : MemArg)
  /-- FRSTOR: DD /4 (R339). -/
  | frstor (pre : List Prefix) (m : MemArg)
  /-- (reserved) DD /5: DD /5 (R122). -/
  | reservedDDmem5 (pre : List Prefix) (m : MemArg)
  /-- FSAVE: DD /6 (R340). -/
  | fsave (pre : List Prefix) (m : MemArg)
  /-- FSTSW: DD /7 (R328). -/
  | fstsw (pre : List Prefix) (m : MemArg)
  /-- FFREE ST(i): DD C0+i (R347). -/
  | ffreeSti (pre : List Prefix) (i : StIndex)
  /-- (reserved) DD C8..CF: DD C8+k (R122). -/
  | reservedDDrC8toCF (pre : List Prefix) (k : BitVec 3)
  /-- FST ST(i): DD D0+i (R208). -/
  | fstSti (pre : List Prefix) (i : StIndex)
  /-- FSTP ST(i): DD D8+i (R210). -/
  | fstpSti (pre : List Prefix) (i : StIndex)
  /-- FUCOM ST(i): DD E0+i (R237). -/
  | fucomSti (pre : List Prefix) (i : StIndex)
  /-- FUCOMP ST(i): DD E8+i (R238). -/
  | fucompSti (pre : List Prefix) (i : StIndex)
  /-- (reserved) DD F0..FF: DD F0+k (R122). -/
  | reservedDDrF0toFF (pre : List Prefix) (k : BitVec 4)
  /-- FIADD word-integer: DE /0 (R270). -/
  | fiaddWordInteger (pre : List Prefix) (m : MemArg)
  /-- FIMUL word-integer: DE /1 (R274). -/
  | fimulWordInteger (pre : List Prefix) (m : MemArg)
  /-- FICOM word-integer: DE /2 (R234). -/
  | ficomWordInteger (pre : List Prefix) (m : MemArg)
  /-- FICOMP word-integer: DE /3 (R235). -/
  | ficompWordInteger (pre : List Prefix) (m : MemArg)
  /-- FISUB word-integer: DE /4 (R271). -/
  | fisubWordInteger (pre : List Prefix) (m : MemArg)
  /-- FISUBR word-integer: DE /5 (R272). -/
  | fisubrWordInteger (pre : List Prefix) (m : MemArg)
  /-- FIDIV word-integer: DE /6 (R275). -/
  | fidivWordInteger (pre : List Prefix) (m : MemArg)
  /-- FIDIVR word-integer: DE /7 (R276). -/
  | fidivrWordInteger (pre : List Prefix) (m : MemArg)
  /-- FADDP ST(i),ST: DE C0+i (R265). -/
  | faddpStiSt (pre : List Prefix) (i : StIndex)
  /-- FMULP ST(i),ST: DE C8+i (R269). -/
  | fmulpStiSt (pre : List Prefix) (i : StIndex)
  /-- (reserved) DE D0..D7: DE D0+k (R122). -/
  | reservedDErD0toD7 (pre : List Prefix) (k : BitVec 3)
  /-- (reserved) DE D8: DE D8 (R122). -/
  | reservedDErD8 (pre : List Prefix)
  /-- FCOMPP: DE D9 (R233). -/
  | fcompp (pre : List Prefix)
  /-- (reserved) DE DA..DB: DE DA+k (R122). -/
  | reservedDErDAtoDB (pre : List Prefix) (k : BitVec 1)
  /-- (reserved) DE DC..DF: DE DC+k (R122). -/
  | reservedDErDCtoDF (pre : List Prefix) (k : BitVec 2)
  /-- FSUBRP ST(i),ST: DE E0+i (R277). -/
  | fsubrpStiSt (pre : List Prefix) (i : StIndex)
  /-- FSUBP ST(i),ST: DE E8+i (R273). -/
  | fsubpStiSt (pre : List Prefix) (i : StIndex)
  /-- FDIVRP ST(i),ST: DE F0+i (R279). -/
  | fdivrpStiSt (pre : List Prefix) (i : StIndex)
  /-- FDIVP ST(i),ST: DE F8+i (R278). -/
  | fdivpStiSt (pre : List Prefix) (i : StIndex)
  /-- FILD word-integer: DF /0 (R212). -/
  | fildWordInteger (pre : List Prefix) (m : MemArg)
  /-- (reserved) DF /1: DF /1 (R122). -/
  | reservedDFmem1 (pre : List Prefix) (m : MemArg)
  /-- FIST word-integer: DF /2 (R214). -/
  | fistWordInteger (pre : List Prefix) (m : MemArg)
  /-- FISTP word-integer: DF /3 (R215). -/
  | fistpWordInteger (pre : List Prefix) (m : MemArg)
  /-- FBLD packed-decimal: DF /4 (R217). -/
  | fbldPackedDecimal (pre : List Prefix) (m : MemArg)
  /-- FILD long-integer: DF /5 (R213). -/
  | fildLongInteger (pre : List Prefix) (m : MemArg)
  /-- FBSTP packed-decimal: DF /6 (R218). -/
  | fbstpPackedDecimal (pre : List Prefix) (m : MemArg)
  /-- FISTP long-integer: DF /7 (R216). -/
  | fistpLongInteger (pre : List Prefix) (m : MemArg)
  /-- (reserved) DF C0..DF: DF C0+k (R122). -/
  | reservedDFrC0toDF (pre : List Prefix) (k : BitVec 5)
  /-- FSTSW AX: DF E0 (R327). -/
  | fstswAx (pre : List Prefix)
  /-- (reserved) DF E1: DF E1 (R122). -/
  | reservedDFrE1 (pre : List Prefix)
  /-- (reserved) DF E2..E3: DF E2+k (R122). -/
  | reservedDFrE2toE3 (pre : List Prefix) (k : BitVec 1)
  /-- (reserved) DF E4..E7: DF E4+k (R122). -/
  | reservedDFrE4toE7 (pre : List Prefix) (k : BitVec 2)
  /-- (reserved) DF E8..EF: DF E8+k (R122). -/
  | reservedDFrE8toEF (pre : List Prefix) (k : BitVec 3)
  /-- (reserved) DF F0..FF: DF F0+k (R122). -/
  | reservedDFrF0toFF (pre : List Prefix) (k : BitVec 4)
  /-- WAIT: 9B (R350). -/
  | wait (pre : List Prefix)
deriving DecidableEq, Repr

end Sys2Proof
end

