-- ==== Sys2Proof/WellFormed.lean ====
section
/-! DEFINITION. Which terms of `Instr` stand for byte sequences of the machine: the length limit, the
addressing forms the ModRM and SIB bytes can express (R108 to R110), the address-size attribute (R106). -/

namespace Sys2Proof

/-- The other attribute. -/
def Size.toggle : Size → Size
  | .s16 => .s32
  | .s32 => .s16

/-- The address-size attribute of an instruction: the default one, toggled by a 67H prefix (R106). -/
def addressSizeOf (dflt : Size) (pre : List Prefix) : Size :=
  if pre.contains .addrSize then dflt.toggle else dflt

/-- The operand-size attribute of an instruction: the default one, toggled by a 66H prefix (R106). -/
def operandSizeOf (dflt : Size) (pre : List Prefix) : Size :=
  if pre.contains .opSize then dflt.toggle else dflt

/-- The bytes a displacement of full width `w` bytes takes. -/
def Disp.bytes {n : Nat} (w : Nat) : Disp n → Nat
  | .none => 0
  | .byte _ => 1
  | .full _ => w

/-- The bytes that follow the ModRM byte: SIB and displacement (R105). -/
def MemArg.extraBytes : MemArg → Nat
  | .a16 _ d => d.bytes 2
  | .direct16 _ => 2
  | .a32 _ d => d.bytes 4
  | .direct32 _ => 4
  | .sib _ _ _ d => 1 + d.bytes 4
  | .sibNoBase _ _ _ => 5

/-- The address size an addressing form belongs to. -/
def MemArg.size : MemArg → Size
  | .a16 _ _ => .s16
  | .direct16 _ => .s16
  | .a32 _ _ => .s32
  | .direct32 _ => .s32
  | .sib _ _ _ _ => .s32
  | .sibNoBase _ _ _ => .s32

/-- [BP] without displacement has no encoding: MOD 00, R/M 110 is the direct form (R110). -/
def bpHasDisp : MemArg → Bool
  | .a16 .bp .none => false
  | _ => true

/-- [EBP] without displacement has no encoding: MOD 00 with R/M 101 is the direct form, and with
base 101 the form without a base (R108, R109). -/
def ebpHasDisp : MemArg → Bool
  | .a32 .ebp .none => false
  | .sib _ _ .ebp .none => false
  | _ => true

/-- ESP as the base needs a SIB byte: R/M 100 says that a SIB byte follows (R108). -/
def espUsesSib : MemArg → Bool
  | .a32 .esp _ => false
  | _ => true

/-- ESP is no index register: index 100 means no index (R109). -/
def indexNotEsp : MemArg → Bool
  | .sib _ (some .esp) _ _ => false
  | .sibNoBase _ (some .esp) _ => false
  | _ => true

/-- A memory operand the ModRM and SIB bytes can express. -/
def MemArg.wf (m : MemArg) : Bool :=
  bpHasDisp m && ebpHasDisp m && espUsesSib m && indexNotEsp m

/-- The prefixes of an instruction, the number of its opcode bytes (two for an ESC instruction, one for
WAIT: R100, R124), and its memory operand, if it has one. -/
def Instr.parts : Instr → List Prefix × Nat × Option MemArg
  | .faddSingleReal pre m => (pre, 2, some m)
  | .fmulSingleReal pre m => (pre, 2, some m)
  | .fcomSingleReal pre m => (pre, 2, some m)
  | .fcompSingleReal pre m => (pre, 2, some m)
  | .fsubSingleReal pre m => (pre, 2, some m)
  | .fsubrSingleReal pre m => (pre, 2, some m)
  | .fdivSingleReal pre m => (pre, 2, some m)
  | .fdivrSingleReal pre m => (pre, 2, some m)
  | .faddStSti pre _ => (pre, 2, none)
  | .fmulStSti pre _ => (pre, 2, none)
  | .fcomSti pre _ => (pre, 2, none)
  | .fcompSti pre _ => (pre, 2, none)
  | .fsubStSti pre _ => (pre, 2, none)
  | .fsubrStSti pre _ => (pre, 2, none)
  | .fdivStSti pre _ => (pre, 2, none)
  | .fdivrStSti pre _ => (pre, 2, none)
  | .fldSingleReal pre m => (pre, 2, some m)
  | .reservedD9mem1 pre m => (pre, 2, some m)
  | .fstSingleReal pre m => (pre, 2, some m)
  | .fstpSingleReal pre m => (pre, 2, some m)
  | .fldenv pre m => (pre, 2, some m)
  | .fldcw pre m => (pre, 2, some m)
  | .fstenv pre m => (pre, 2, some m)
  | .fstcw pre m => (pre, 2, some m)
  | .fldSti pre _ => (pre, 2, none)
  | .fxchSti pre _ => (pre, 2, none)
  | .fnop pre => (pre, 2, none)
  | .reservedD9rD1 pre => (pre, 2, none)
  | .reservedD9rD2toD3 pre _ => (pre, 2, none)
  | .reservedD9rD4toD7 pre _ => (pre, 2, none)
  | .reservedD9rD8toDF pre _ => (pre, 2, none)
  | .fchs pre => (pre, 2, none)
  | .fabs pre => (pre, 2, none)
  | .reservedD9rE2 pre => (pre, 2, none)
  | .reservedD9rE3 pre => (pre, 2, none)
  | .ftst pre => (pre, 2, none)
  | .fxam pre => (pre, 2, none)
  | .reservedD9rE6 pre => (pre, 2, none)
  | .reservedD9rE7 pre => (pre, 2, none)
  | .fld1 pre => (pre, 2, none)
  | .fldl2t pre => (pre, 2, none)
  | .fldl2e pre => (pre, 2, none)
  | .fldpi pre => (pre, 2, none)
  | .fldlg2 pre => (pre, 2, none)
  | .fldln2 pre => (pre, 2, none)
  | .fldz pre => (pre, 2, none)
  | .reservedD9rEF pre => (pre, 2, none)
  | .f2xm1 pre => (pre, 2, none)
  | .fyl2x pre => (pre, 2, none)
  | .fptan pre => (pre, 2, none)
  | .fpatan pre => (pre, 2, none)
  | .fxtract pre => (pre, 2, none)
  | .fprem1 pre => (pre, 2, none)
  | .fdecstp pre => (pre, 2, none)
  | .fincstp pre => (pre, 2, none)
  | .fprem pre => (pre, 2, none)
  | .fyl2xp1 pre => (pre, 2, none)
  | .fsqrt pre => (pre, 2, none)
  | .fsincos pre => (pre, 2, none)
  | .frndint pre => (pre, 2, none)
  | .fscale pre => (pre, 2, none)
  | .fsin pre => (pre, 2, none)
  | .fcos pre => (pre, 2, none)
  | .fiaddShortInteger pre m => (pre, 2, some m)
  | .fimulShortInteger pre m => (pre, 2, some m)
  | .ficomShortInteger pre m => (pre, 2, some m)
  | .ficompShortInteger pre m => (pre, 2, some m)
  | .fisubShortInteger pre m => (pre, 2, some m)
  | .fisubrShortInteger pre m => (pre, 2, some m)
  | .fidivShortInteger pre m => (pre, 2, some m)
  | .fidivrShortInteger pre m => (pre, 2, some m)
  | .reservedDArC0toDF pre _ => (pre, 2, none)
  | .reservedDArE0toE7 pre _ => (pre, 2, none)
  | .reservedDArE8 pre => (pre, 2, none)
  | .fucompp pre => (pre, 2, none)
  | .reservedDArEAtoEB pre _ => (pre, 2, none)
  | .reservedDArECtoEF pre _ => (pre, 2, none)
  | .reservedDArF0toFF pre _ => (pre, 2, none)
  | .fildShortInteger pre m => (pre, 2, some m)
  | .reservedDBmem1 pre m => (pre, 2, some m)
  | .fistShortInteger pre m => (pre, 2, some m)
  | .fistpShortInteger pre m => (pre, 2, some m)
  | .reservedDBmem4 pre m => (pre, 2, some m)
  | .fldExtendedReal pre m => (pre, 2, some m)
  | .reservedDBmem6 pre m => (pre, 2, some m)
  | .fstpExtendedReal pre m => (pre, 2, some m)
  | .reservedDBrC0toDF pre _ => (pre, 2, none)
  | .feni pre => (pre, 2, none)
  | .fdisi pre => (pre, 2, none)
  | .fclex pre => (pre, 2, none)
  | .finit pre => (pre, 2, none)
  | .fsetpm pre => (pre, 2, none)
  | .reservedDBrE5 pre => (pre, 2, none)
  | .reservedDBrE6toE7 pre _ => (pre, 2, none)
  | .reservedDBrE8toEF pre _ => (pre, 2, none)
  | .reservedDBrF0toFF pre _ => (pre, 2, none)
  | .faddDoubleReal pre m => (pre, 2, some m)
  | .fmulDoubleReal pre m => (pre, 2, some m)
  | .fcomDoubleReal pre m => (pre, 2, some m)
  | .fcompDoubleReal pre m => (pre, 2, some m)
  | .fsubDoubleReal pre m => (pre, 2, some m)
  | .fsubrDoubleReal pre m => (pre, 2, some m)
  | .fdivDoubleReal pre m => (pre, 2, some m)
  | .fdivrDoubleReal pre m => (pre, 2, some m)
  | .faddStiSt pre _ => (pre, 2, none)
  | .fmulStiSt pre _ => (pre, 2, none)
  | .reservedDCrD0toDF pre _ => (pre, 2, none)
  | .fsubrStiSt pre _ => (pre, 2, none)
  | .fsubStiSt pre _ => (pre, 2, none)
  | .fdivrStiSt pre _ => (pre, 2, none)
  | .fdivStiSt pre _ => (pre, 2, none)
  | .fldDoubleReal pre m => (pre, 2, some m)
  | .reservedDDmem1 pre m => (pre, 2, some m)
  | .fstDoubleReal pre m => (pre, 2, some m)
  | .fstpDoubleReal pre m => (pre, 2, some m)
  | .frstor pre m => (pre, 2, some m)
  | .reservedDDmem5 pre m => (pre, 2, some m)
  | .fsave pre m => (pre, 2, some m)
  | .fstsw pre m => (pre, 2, some m)
  | .ffreeSti pre _ => (pre, 2, none)
  | .reservedDDrC8toCF pre _ => (pre, 2, none)
  | .fstSti pre _ => (pre, 2, none)
  | .fstpSti pre _ => (pre, 2, none)
  | .fucomSti pre _ => (pre, 2, none)
  | .fucompSti pre _ => (pre, 2, none)
  | .reservedDDrF0toFF pre _ => (pre, 2, none)
  | .fiaddWordInteger pre m => (pre, 2, some m)
  | .fimulWordInteger pre m => (pre, 2, some m)
  | .ficomWordInteger pre m => (pre, 2, some m)
  | .ficompWordInteger pre m => (pre, 2, some m)
  | .fisubWordInteger pre m => (pre, 2, some m)
  | .fisubrWordInteger pre m => (pre, 2, some m)
  | .fidivWordInteger pre m => (pre, 2, some m)
  | .fidivrWordInteger pre m => (pre, 2, some m)
  | .faddpStiSt pre _ => (pre, 2, none)
  | .fmulpStiSt pre _ => (pre, 2, none)
  | .reservedDErD0toD7 pre _ => (pre, 2, none)
  | .reservedDErD8 pre => (pre, 2, none)
  | .fcompp pre => (pre, 2, none)
  | .reservedDErDAtoDB pre _ => (pre, 2, none)
  | .reservedDErDCtoDF pre _ => (pre, 2, none)
  | .fsubrpStiSt pre _ => (pre, 2, none)
  | .fsubpStiSt pre _ => (pre, 2, none)
  | .fdivrpStiSt pre _ => (pre, 2, none)
  | .fdivpStiSt pre _ => (pre, 2, none)
  | .fildWordInteger pre m => (pre, 2, some m)
  | .reservedDFmem1 pre m => (pre, 2, some m)
  | .fistWordInteger pre m => (pre, 2, some m)
  | .fistpWordInteger pre m => (pre, 2, some m)
  | .fbldPackedDecimal pre m => (pre, 2, some m)
  | .fildLongInteger pre m => (pre, 2, some m)
  | .fbstpPackedDecimal pre m => (pre, 2, some m)
  | .fistpLongInteger pre m => (pre, 2, some m)
  | .reservedDFrC0toDF pre _ => (pre, 2, none)
  | .fstswAx pre => (pre, 2, none)
  | .reservedDFrE1 pre => (pre, 2, none)
  | .reservedDFrE2toE3 pre _ => (pre, 2, none)
  | .reservedDFrE4toE7 pre _ => (pre, 2, none)
  | .reservedDFrE8toEF pre _ => (pre, 2, none)
  | .reservedDFrF0toFF pre _ => (pre, 2, none)
  | .wait pre => (pre, 1, none)

/-- The prefix bytes of an instruction. -/
def Instr.prefixes (i : Instr) : List Prefix := i.parts.1

/-- The memory operand of an instruction, if it has one. -/
def Instr.memArg? (i : Instr) : Option MemArg := i.parts.2.2

/-- The length of an instruction in bytes (R105). -/
def Instr.length (i : Instr) : Nat :=
  i.prefixes.length + i.parts.2.1 + (match i.memArg? with | some m => m.extraBytes | none => 0)

/-- The longest instruction the fetch takes in (assumption 30). -/
def maxLength : Nat := 15

/-- The instruction fits the fetch window. -/
def lengthOk (i : Instr) : Bool := decide (i.length ≤ maxLength)

/-- The memory operand is expressible. -/
def memArgOk (i : Instr) : Bool :=
  match i.memArg? with
  | some m => m.wf
  | none => true

/-- The memory operand's form is that of the address-size attribute in effect. -/
def addressSizeOk (dflt : Size) (i : Instr) : Bool :=
  match i.memArg? with
  | some m => m.size == addressSizeOf dflt i.prefixes
  | none => true

/-- The well-formed instructions under a default address-size attribute. -/
def Instr.wf (dflt : Size) (i : Instr) : Bool := lengthOk i && memArgOk i && addressSizeOk dflt i

end Sys2Proof
end

