-- ==== Sys2Proof/Decode.lean ====
section
/-! DEFINITION. From bytes to instructions and back: the prefixes (R106), the ModRM, SIB and displacement
bytes (R108 to R110), the opcode map (R114 to R121), and the encoder written from the same tables. -/

namespace Sys2Proof

/-- Why a byte sequence is no instruction of this machine. -/
inductive DecodeError
  /-- The first byte after the prefixes is neither an ESC opcode nor WAIT (R100, R124): another 80386
  instruction, outside the scope (R5). -/
  | notNpx (b : Byte)
  /-- A LOCK or REP prefix: not among the prefixes of R106. -/
  | lockOrRep (b : Byte)
  /-- The bytes end before the instruction does. -/
  | truncated
deriving DecidableEq, Repr

/-! ### Prefixes (R106) -/

/-- The prefix a byte stands for. -/
def prefixOf? (b : Byte) : Option Prefix :=
  match b.toNat with
  | 0x66 => some .opSize
  | 0x67 => some .addrSize
  | 0x26 => some (.seg .es)
  | 0x2E => some (.seg .cs)
  | 0x36 => some (.seg .ss)
  | 0x3E => some (.seg .ds)
  | 0x64 => some (.seg .fs)
  | 0x65 => some (.seg .gs)
  | _ => none

/-- The byte of a prefix. -/
def prefixByte : Prefix → Byte
  | .opSize => 0x66
  | .addrSize => 0x67
  | .seg .es => 0x26
  | .seg .cs => 0x2E
  | .seg .ss => 0x36
  | .seg .ds => 0x3E
  | .seg .fs => 0x64
  | .seg .gs => 0x65

/-- The longest run of prefix bytes, and the bytes after it. -/
def splitPrefixes : List Byte → List Prefix × List Byte
  | [] => ([], [])
  | b :: bs =>
    match prefixOf? b with
    | some p => (p :: (splitPrefixes bs).1, (splitPrefixes bs).2)
    | none => ([], b :: bs)

/-! ### Registers, scales, displacements -/

/-- Register number to register (R109). -/
def reg32Of (n : BitVec 3) : Reg32 :=
  match n.toNat with
  | 0 => .eax
  | 1 => .ecx
  | 2 => .edx
  | 3 => .ebx
  | 4 => .esp
  | 5 => .ebp
  | 6 => .esi
  | _ => .edi

/-- Register to register number (R109). -/
def reg32Code : Reg32 → BitVec 3
  | .eax => 0
  | .ecx => 1
  | .edx => 2
  | .ebx => 3
  | .esp => 4
  | .ebp => 5
  | .esi => 6
  | .edi => 7

/-- R/M field to the register part of a 16-bit address (R110). -/
def base16Of (n : BitVec 3) : Base16 :=
  match n.toNat with
  | 0 => .bxSi
  | 1 => .bxDi
  | 2 => .bpSi
  | 3 => .bpDi
  | 4 => .si
  | 5 => .di
  | 6 => .bp
  | _ => .bx

/-- The register part of a 16-bit address to its R/M field (R110). -/
def base16Code : Base16 → BitVec 3
  | .bxSi => 0
  | .bxDi => 1
  | .bpSi => 2
  | .bpDi => 3
  | .si => 4
  | .di => 5
  | .bp => 6
  | .bx => 7

/-- The scale field of a SIB byte (R109). -/
def scaleOf (n : BitVec 2) : Scale :=
  match n.toNat with
  | 0 => .x1
  | 1 => .x2
  | 2 => .x4
  | _ => .x8

/-- The scale field of a SIB byte (R109). -/
def scaleCode : Scale → BitVec 2
  | .x1 => 0
  | .x2 => 1
  | .x4 => 2
  | .x8 => 3

/-- The index field of a SIB byte: 100 means no index (R109). -/
def indexOf (n : BitVec 3) : Option Reg32 := if n = 4 then none else some (reg32Of n)

/-- The index field of a SIB byte: 100 means no index (R109). -/
def indexCode : Option Reg32 → BitVec 3
  | none => 4
  | some r => reg32Code r

/-- The ModRM byte, and the SIB byte, of its three fields (R103, R109). -/
def packByte (a : BitVec 2) (b c : BitVec 3) : Byte := a ++ b ++ c

/-- Bits 7..6 of a byte. -/
def bits76 (b : Byte) : BitVec 2 := b.extractLsb' 6 2

/-- Bits 5..3 of a byte. -/
def bits53 (b : Byte) : BitVec 3 := b.extractLsb' 3 3

/-- Bits 2..0 of a byte. -/
def bits20 (b : Byte) : BitVec 3 := b.extractLsb' 0 3

/-- The bytes of a 16-bit displacement, least significant first (R73). -/
def bytes16 (d : BitVec 16) : List Byte := [d.extractLsb' 0 8, d.extractLsb' 8 8]

/-- The bytes of a 32-bit displacement, least significant first (R73). -/
def bytes32 (d : BitVec 32) : List Byte :=
  [d.extractLsb' 0 8, d.extractLsb' 8 8, d.extractLsb' 16 8, d.extractLsb' 24 8]

/-- A 16-bit displacement from the stream. -/
def take16 : List Byte → Option (BitVec 16 × List Byte)
  | b0 :: b1 :: bs => some (b1 ++ b0, bs)
  | _ => none

/-- A 32-bit displacement from the stream. -/
def take32 : List Byte → Option (BitVec 32 × List Byte)
  | b0 :: b1 :: b2 :: b3 :: bs => some (b3 ++ b2 ++ b1 ++ b0, bs)
  | _ => none

/-- The displacement that MOD 00, 01 or 10 calls for with 16-bit addressing (R110). -/
def takeDisp16 (mod : BitVec 2) (bs : List Byte) : Option (Disp 16 × List Byte) :=
  match mod.toNat, bs with
  | 0, bs => some (.none, bs)
  | 1, b :: bs => some (.byte b, bs)
  | 1, [] => none
  | _, bs => (take16 bs).map fun p => (.full p.1, p.2)

/-- The displacement that MOD 00, 01 or 10 calls for with 32-bit addressing (R108). -/
def takeDisp32 (mod : BitVec 2) (bs : List Byte) : Option (Disp 32 × List Byte) :=
  match mod.toNat, bs with
  | 0, bs => some (.none, bs)
  | 1, b :: bs => some (.byte b, bs)
  | 1, [] => none
  | _, bs => (take32 bs).map fun p => (.full p.1, p.2)

/-- The MOD field of a displacement. -/
def dispMod {n : Nat} : Disp n → BitVec 2
  | .none => 0
  | .byte _ => 1
  | .full _ => 2

/-- The bytes of a displacement. -/
def dispBytes {n : Nat} (w : BitVec n → List Byte) : Disp n → List Byte
  | .none => []
  | .byte b => [b]
  | .full d => w d

/-! ### Memory operands -/

/-- 16-bit addressing (R110). -/
def decodeMem16 (mod : BitVec 2) (rm : BitVec 3) (bs : List Byte) : Option (MemArg × List Byte) :=
  if mod = 0 ∧ rm = 6 then (take16 bs).map fun p => (.direct16 p.1, p.2)
  else (takeDisp16 mod bs).map fun p => (.a16 (base16Of rm) p.1, p.2)

/-- The SIB byte and what follows it (R109). -/
def decodeSib (mod : BitVec 2) (sib : Byte) (bs : List Byte) : Option (MemArg × List Byte) :=
  if mod = 0 ∧ bits20 sib = 5 then
    (take32 bs).map fun p => (.sibNoBase (scaleOf (bits76 sib)) (indexOf (bits53 sib)) p.1, p.2)
  else
    (takeDisp32 mod bs).map fun p =>
      (.sib (scaleOf (bits76 sib)) (indexOf (bits53 sib)) (reg32Of (bits20 sib)) p.1, p.2)

/-- 32-bit addressing (R108). -/
def decodeMem32 (mod : BitVec 2) (rm : BitVec 3) (bs : List Byte) : Option (MemArg × List Byte) :=
  if rm = 4 then
    match bs with
    | sib :: bs => decodeSib mod sib bs
    | [] => none
  else if mod = 0 ∧ rm = 5 then (take32 bs).map fun p => (.direct32 p.1, p.2)
  else (takeDisp32 mod bs).map fun p => (.a32 (reg32Of rm) p.1, p.2)

/-- The memory operand of MOD, R/M and the bytes after the ModRM byte (R107). -/
def decodeMemArg (asz : Size) (mod : BitVec 2) (rm : BitVec 3) (bs : List Byte) :
    Option (MemArg × List Byte) :=
  match asz with
  | .s16 => decodeMem16 mod rm bs
  | .s32 => decodeMem32 mod rm bs

/-- The MOD field of a memory operand. -/
def MemArg.modField : MemArg → BitVec 2
  | .a16 _ d => dispMod d
  | .direct16 _ => 0
  | .a32 _ d => dispMod d
  | .direct32 _ => 0
  | .sib _ _ _ d => dispMod d
  | .sibNoBase _ _ _ => 0

/-- The R/M field of a memory operand. -/
def MemArg.rmField : MemArg → BitVec 3
  | .a16 b _ => base16Code b
  | .direct16 _ => 6
  | .a32 b _ => reg32Code b
  | .direct32 _ => 5
  | .sib _ _ _ _ => 4
  | .sibNoBase _ _ _ => 4

/-- The ModRM byte of a memory operand under the opcode extension `reg`. -/
def MemArg.modrm (m : MemArg) (reg : BitVec 3) : Byte := packByte m.modField reg m.rmField

/-- The bytes after the ModRM byte: SIB and displacement. -/
def MemArg.tail : MemArg → List Byte
  | .a16 _ d => dispBytes bytes16 d
  | .direct16 d => bytes16 d
  | .a32 _ d => dispBytes bytes32 d
  | .direct32 d => bytes32 d
  | .sib s i b d => packByte (scaleCode s) (indexCode i) (reg32Code b) :: dispBytes bytes32 d
  | .sibNoBase s i d => packByte (scaleCode s) (indexCode i) 5 :: bytes32 d

/-! ### The opcode map -/

/-- Memory forms of group D8 (R114). -/
def decodeMemD8 (reg : BitVec 3) (pre : List Prefix) (m : MemArg) : Instr :=
  match reg.toNat with
  | 0 => .faddSingleReal pre m
  | 1 => .fmulSingleReal pre m
  | 2 => .fcomSingleReal pre m
  | 3 => .fcompSingleReal pre m
  | 4 => .fsubSingleReal pre m
  | 5 => .fsubrSingleReal pre m
  | 6 => .fdivSingleReal pre m
  | _ => .fdivrSingleReal pre m

/-- Memory forms of group D9 (R115). -/
def decodeMemD9 (reg : BitVec 3) (pre : List Prefix) (m : MemArg) : Instr :=
  match reg.toNat with
  | 0 => .fldSingleReal pre m
  | 1 => .reservedD9mem1 pre m
  | 2 => .fstSingleReal pre m
  | 3 => .fstpSingleReal pre m
  | 4 => .fldenv pre m
  | 5 => .fldcw pre m
  | 6 => .fstenv pre m
  | _ => .fstcw pre m

/-- Memory forms of group DA (R116). -/
def decodeMemDA (reg : BitVec 3) (pre : List Prefix) (m : MemArg) : Instr :=
  match reg.toNat with
  | 0 => .fiaddShortInteger pre m
  | 1 => .fimulShortInteger pre m
  | 2 => .ficomShortInteger pre m
  | 3 => .ficompShortInteger pre m
  | 4 => .fisubShortInteger pre m
  | 5 => .fisubrShortInteger pre m
  | 6 => .fidivShortInteger pre m
  | _ => .fidivrShortInteger pre m

/-- Memory forms of group DB (R117). -/
def decodeMemDB (reg : BitVec 3) (pre : List Prefix) (m : MemArg) : Instr :=
  match reg.toNat with
  | 0 => .fildShortInteger pre m
  | 1 => .reservedDBmem1 pre m
  | 2 => .fistShortInteger pre m
  | 3 => .fistpShortInteger pre m
  | 4 => .reservedDBmem4 pre m
  | 5 => .fldExtendedReal pre m
  | 6 => .reservedDBmem6 pre m
  | _ => .fstpExtendedReal pre m

/-- Memory forms of group DC (R118). -/
def decodeMemDC (reg : BitVec 3) (pre : List Prefix) (m : MemArg) : Instr :=
  match reg.toNat with
  | 0 => .faddDoubleReal pre m
  | 1 => .fmulDoubleReal pre m
  | 2 => .fcomDoubleReal pre m
  | 3 => .fcompDoubleReal pre m
  | 4 => .fsubDoubleReal pre m
  | 5 => .fsubrDoubleReal pre m
  | 6 => .fdivDoubleReal pre m
  | _ => .fdivrDoubleReal pre m

/-- Memory forms of group DD (R119). -/
def decodeMemDD (reg : BitVec 3) (pre : List Prefix) (m : MemArg) : Instr :=
  match reg.toNat with
  | 0 => .fldDoubleReal pre m
  | 1 => .reservedDDmem1 pre m
  | 2 => .fstDoubleReal pre m
  | 3 => .fstpDoubleReal pre m
  | 4 => .frstor pre m
  | 5 => .reservedDDmem5 pre m
  | 6 => .fsave pre m
  | _ => .fstsw pre m

/-- Memory forms of group DE (R120). -/
def decodeMemDE (reg : BitVec 3) (pre : List Prefix) (m : MemArg) : Instr :=
  match reg.toNat with
  | 0 => .fiaddWordInteger pre m
  | 1 => .fimulWordInteger pre m
  | 2 => .ficomWordInteger pre m
  | 3 => .ficompWordInteger pre m
  | 4 => .fisubWordInteger pre m
  | 5 => .fisubrWordInteger pre m
  | 6 => .fidivWordInteger pre m
  | _ => .fidivrWordInteger pre m

/-- Memory forms of group DF (R121). -/
def decodeMemDF (reg : BitVec 3) (pre : List Prefix) (m : MemArg) : Instr :=
  match reg.toNat with
  | 0 => .fildWordInteger pre m
  | 1 => .reservedDFmem1 pre m
  | 2 => .fistWordInteger pre m
  | 3 => .fistpWordInteger pre m
  | 4 => .fbldPackedDecimal pre m
  | 5 => .fildLongInteger pre m
  | 6 => .fbstpPackedDecimal pre m
  | _ => .fistpLongInteger pre m

/-- Register forms of group D8 (R114). -/
def decodeRegD8 (b2 : Byte) (pre : List Prefix) : Instr :=
  match (bits53 b2).toNat with
  | 0 => .faddStSti pre (bits20 b2)
  | 1 => .fmulStSti pre (bits20 b2)
  | 2 => .fcomSti pre (bits20 b2)
  | 3 => .fcompSti pre (bits20 b2)
  | 4 => .fsubStSti pre (bits20 b2)
  | 5 => .fsubrStSti pre (bits20 b2)
  | 6 => .fdivStSti pre (bits20 b2)
  | _ => .fdivrStSti pre (bits20 b2)

/-- Register forms of group D9 (R115). -/
def decodeRegD9 (b2 : Byte) (pre : List Prefix) : Instr :=
  match (bits53 b2).toNat with
  | 0 => .fldSti pre (bits20 b2)
  | 1 => .fxchSti pre (bits20 b2)
  | 2 =>
    match (bits20 b2).toNat with
    | 0 => .fnop pre
    | 1 => .reservedD9rD1 pre
    | 2 => .reservedD9rD2toD3 pre (b2.extractLsb' 0 1)
    | 3 => .reservedD9rD2toD3 pre (b2.extractLsb' 0 1)
    | _ => .reservedD9rD4toD7 pre (b2.extractLsb' 0 2)
  | 3 => .reservedD9rD8toDF pre (b2.extractLsb' 0 3)
  | 4 =>
    match (bits20 b2).toNat with
    | 0 => .fchs pre
    | 1 => .fabs pre
    | 2 => .reservedD9rE2 pre
    | 3 => .reservedD9rE3 pre
    | 4 => .ftst pre
    | 5 => .fxam pre
    | 6 => .reservedD9rE6 pre
    | _ => .reservedD9rE7 pre
  | 5 =>
    match (bits20 b2).toNat with
    | 0 => .fld1 pre
    | 1 => .fldl2t pre
    | 2 => .fldl2e pre
    | 3 => .fldpi pre
    | 4 => .fldlg2 pre
    | 5 => .fldln2 pre
    | 6 => .fldz pre
    | _ => .reservedD9rEF pre
  | 6 =>
    match (bits20 b2).toNat with
    | 0 => .f2xm1 pre
    | 1 => .fyl2x pre
    | 2 => .fptan pre
    | 3 => .fpatan pre
    | 4 => .fxtract pre
    | 5 => .fprem1 pre
    | 6 => .fdecstp pre
    | _ => .fincstp pre
  | _ =>
    match (bits20 b2).toNat with
    | 0 => .fprem pre
    | 1 => .fyl2xp1 pre
    | 2 => .fsqrt pre
    | 3 => .fsincos pre
    | 4 => .frndint pre
    | 5 => .fscale pre
    | 6 => .fsin pre
    | _ => .fcos pre

/-- Register forms of group DA (R116). -/
def decodeRegDA (b2 : Byte) (pre : List Prefix) : Instr :=
  match (bits53 b2).toNat with
  | 0 => .reservedDArC0toDF pre (b2.extractLsb' 0 5)
  | 1 => .reservedDArC0toDF pre (b2.extractLsb' 0 5)
  | 2 => .reservedDArC0toDF pre (b2.extractLsb' 0 5)
  | 3 => .reservedDArC0toDF pre (b2.extractLsb' 0 5)
  | 4 => .reservedDArE0toE7 pre (b2.extractLsb' 0 3)
  | 5 =>
    match (bits20 b2).toNat with
    | 0 => .reservedDArE8 pre
    | 1 => .fucompp pre
    | 2 => .reservedDArEAtoEB pre (b2.extractLsb' 0 1)
    | 3 => .reservedDArEAtoEB pre (b2.extractLsb' 0 1)
    | _ => .reservedDArECtoEF pre (b2.extractLsb' 0 2)
  | 6 => .reservedDArF0toFF pre (b2.extractLsb' 0 4)
  | _ => .reservedDArF0toFF pre (b2.extractLsb' 0 4)

/-- Register forms of group DB (R117). -/
def decodeRegDB (b2 : Byte) (pre : List Prefix) : Instr :=
  match (bits53 b2).toNat with
  | 0 => .reservedDBrC0toDF pre (b2.extractLsb' 0 5)
  | 1 => .reservedDBrC0toDF pre (b2.extractLsb' 0 5)
  | 2 => .reservedDBrC0toDF pre (b2.extractLsb' 0 5)
  | 3 => .reservedDBrC0toDF pre (b2.extractLsb' 0 5)
  | 4 =>
    match (bits20 b2).toNat with
    | 0 => .feni pre
    | 1 => .fdisi pre
    | 2 => .fclex pre
    | 3 => .finit pre
    | 4 => .fsetpm pre
    | 5 => .reservedDBrE5 pre
    | _ => .reservedDBrE6toE7 pre (b2.extractLsb' 0 1)
  | 5 => .reservedDBrE8toEF pre (b2.extractLsb' 0 3)
  | 6 => .reservedDBrF0toFF pre (b2.extractLsb' 0 4)
  | _ => .reservedDBrF0toFF pre (b2.extractLsb' 0 4)

/-- Register forms of group DC (R118). -/
def decodeRegDC (b2 : Byte) (pre : List Prefix) : Instr :=
  match (bits53 b2).toNat with
  | 0 => .faddStiSt pre (bits20 b2)
  | 1 => .fmulStiSt pre (bits20 b2)
  | 2 => .reservedDCrD0toDF pre (b2.extractLsb' 0 4)
  | 3 => .reservedDCrD0toDF pre (b2.extractLsb' 0 4)
  | 4 => .fsubrStiSt pre (bits20 b2)
  | 5 => .fsubStiSt pre (bits20 b2)
  | 6 => .fdivrStiSt pre (bits20 b2)
  | _ => .fdivStiSt pre (bits20 b2)

/-- Register forms of group DD (R119). -/
def decodeRegDD (b2 : Byte) (pre : List Prefix) : Instr :=
  match (bits53 b2).toNat with
  | 0 => .ffreeSti pre (bits20 b2)
  | 1 => .reservedDDrC8toCF pre (b2.extractLsb' 0 3)
  | 2 => .fstSti pre (bits20 b2)
  | 3 => .fstpSti pre (bits20 b2)
  | 4 => .fucomSti pre (bits20 b2)
  | 5 => .fucompSti pre (bits20 b2)
  | 6 => .reservedDDrF0toFF pre (b2.extractLsb' 0 4)
  | _ => .reservedDDrF0toFF pre (b2.extractLsb' 0 4)

/-- Register forms of group DE (R120). -/
def decodeRegDE (b2 : Byte) (pre : List Prefix) : Instr :=
  match (bits53 b2).toNat with
  | 0 => .faddpStiSt pre (bits20 b2)
  | 1 => .fmulpStiSt pre (bits20 b2)
  | 2 => .reservedDErD0toD7 pre (b2.extractLsb' 0 3)
  | 3 =>
    match (bits20 b2).toNat with
    | 0 => .reservedDErD8 pre
    | 1 => .fcompp pre
    | 2 => .reservedDErDAtoDB pre (b2.extractLsb' 0 1)
    | 3 => .reservedDErDAtoDB pre (b2.extractLsb' 0 1)
    | _ => .reservedDErDCtoDF pre (b2.extractLsb' 0 2)
  | 4 => .fsubrpStiSt pre (bits20 b2)
  | 5 => .fsubpStiSt pre (bits20 b2)
  | 6 => .fdivrpStiSt pre (bits20 b2)
  | _ => .fdivpStiSt pre (bits20 b2)

/-- Register forms of group DF (R121). -/
def decodeRegDF (b2 : Byte) (pre : List Prefix) : Instr :=
  match (bits53 b2).toNat with
  | 0 => .reservedDFrC0toDF pre (b2.extractLsb' 0 5)
  | 1 => .reservedDFrC0toDF pre (b2.extractLsb' 0 5)
  | 2 => .reservedDFrC0toDF pre (b2.extractLsb' 0 5)
  | 3 => .reservedDFrC0toDF pre (b2.extractLsb' 0 5)
  | 4 =>
    match (bits20 b2).toNat with
    | 0 => .fstswAx pre
    | 1 => .reservedDFrE1 pre
    | 2 => .reservedDFrE2toE3 pre (b2.extractLsb' 0 1)
    | 3 => .reservedDFrE2toE3 pre (b2.extractLsb' 0 1)
    | _ => .reservedDFrE4toE7 pre (b2.extractLsb' 0 2)
  | 5 => .reservedDFrE8toEF pre (b2.extractLsb' 0 3)
  | 6 => .reservedDFrF0toFF pre (b2.extractLsb' 0 4)
  | _ => .reservedDFrF0toFF pre (b2.extractLsb' 0 4)

/-- A memory form: group (low three bits of the first byte) and `reg` field select it (R104). -/
def decodeMemForm (grp reg : BitVec 3) (pre : List Prefix) (m : MemArg) : Instr :=
  match grp.toNat with
  | 0 => decodeMemD8 reg pre m
  | 1 => decodeMemD9 reg pre m
  | 2 => decodeMemDA reg pre m
  | 3 => decodeMemDB reg pre m
  | 4 => decodeMemDC reg pre m
  | 5 => decodeMemDD reg pre m
  | 6 => decodeMemDE reg pre m
  | _ => decodeMemDF reg pre m

/-- The five instruction forms of the data sheet (R102): 1 and 2 have a memory operand, 3 a stack register, 4 and 5 no
operand. -/
inductive EscForm
  | one | two | three | four | five
deriving DecidableEq, Repr

/-- The form of an opcode byte pair, none for what is no ESC instruction and for the four words that R102 gives by
Appendix A alone: FNOP, FUCOMPP, FCOMPP, FSTSW AX. The forms are descriptive: the decoder goes by R104. -/
def escForm (b1 b2 : Byte) : Option EscForm :=
  if b1.extractLsb' 3 5 ≠ 0b11011 then none
  else if bits76 b2 ≠ 3 then (if b1.getLsbD 0 && b2.getLsbD 5 then some .one else some .two)
  else if b1 ++ b2 = 0xD9D0#16 ∨ b1 ++ b2 = 0xDAE9#16 ∨ b1 ++ b2 = 0xDED9#16 ∨ b1 ++ b2 = 0xDFE0#16 then none
  else if b1 = 0xD9 ∧ b2.getLsbD 5 = true then some .four
  else if b1 = 0xDB ∧ b2.getLsbD 5 = true then some .five
  else some .three

/-- A register form: group and second byte select it (R102, R104). -/
def decodeRegForm (grp : BitVec 3) (b2 : Byte) (pre : List Prefix) : Instr :=
  match grp.toNat with
  | 0 => decodeRegD8 b2 pre
  | 1 => decodeRegD9 b2 pre
  | 2 => decodeRegDA b2 pre
  | 3 => decodeRegDB b2 pre
  | 4 => decodeRegDC b2 pre
  | 5 => decodeRegDD b2 pre
  | 6 => decodeRegDE b2 pre
  | _ => decodeRegDF b2 pre

/-- The bytes after an ESC opcode of group `grp` (R102, R104). -/
def decodeEsc (asz : Size) (pre : List Prefix) (grp : BitVec 3) : List Byte → Except DecodeError (Instr × List Byte)
  | [] => .error .truncated
  | b2 :: bs =>
    if bits76 b2 = 3 then .ok (decodeRegForm grp b2 pre, bs)
    else
      match decodeMemArg asz (bits76 b2) (bits20 b2) bs with
      | some p => .ok (decodeMemForm grp (bits53 b2) pre p.1, p.2)
      | none => .error .truncated

/-- The bytes after the prefixes. -/
def decodeOpcode (dflt : Size) (pre : List Prefix) : List Byte → Except DecodeError (Instr × List Byte)
  | [] => .error .truncated
  | b1 :: bs =>
    if b1 = 0x9B then .ok (.wait pre, bs)
    else if b1.extractLsb' 3 5 = 27 then decodeEsc (addressSizeOf dflt pre) pre (bits20 b1) bs
    else if b1 = 0xF0 ∨ b1 = 0xF2 ∨ b1 = 0xF3 then .error (.lockOrRep b1)
    else .error (.notNpx b1)

/-- The instruction at the head of a byte sequence, under a default address-size attribute, and the bytes
after it (R100, R101, R104). -/
def decode (dflt : Size) (bs : List Byte) : Except DecodeError (Instr × List Byte) :=
  decodeOpcode dflt (splitPrefixes bs).1 (splitPrefixes bs).2

/-! ### The encoder -/

/-- The opcode of an instruction: a memory form (group and `reg`), a register form (group and second
byte), or WAIT. -/
inductive Opcode
  | mem (grp reg : BitVec 3)
  | reg (grp : BitVec 3) (b2 : Byte)
  | wait
deriving DecidableEq, Repr

/-- A second byte with the low bits `k` free. -/
def withLow {n : Nat} (base : Byte) (k : BitVec n) : Byte := base ||| k.setWidth 8

/-- The opcode of each instruction, from R114 to R121 and R124. -/
def Instr.opcode : Instr → Opcode
  | .faddSingleReal _ _ => .mem 0 0
  | .fmulSingleReal _ _ => .mem 0 1
  | .fcomSingleReal _ _ => .mem 0 2
  | .fcompSingleReal _ _ => .mem 0 3
  | .fsubSingleReal _ _ => .mem 0 4
  | .fsubrSingleReal _ _ => .mem 0 5
  | .fdivSingleReal _ _ => .mem 0 6
  | .fdivrSingleReal _ _ => .mem 0 7
  | .faddStSti _ i => .reg 0 (withLow 0xC0 i)
  | .fmulStSti _ i => .reg 0 (withLow 0xC8 i)
  | .fcomSti _ i => .reg 0 (withLow 0xD0 i)
  | .fcompSti _ i => .reg 0 (withLow 0xD8 i)
  | .fsubStSti _ i => .reg 0 (withLow 0xE0 i)
  | .fsubrStSti _ i => .reg 0 (withLow 0xE8 i)
  | .fdivStSti _ i => .reg 0 (withLow 0xF0 i)
  | .fdivrStSti _ i => .reg 0 (withLow 0xF8 i)
  | .fldSingleReal _ _ => .mem 1 0
  | .reservedD9mem1 _ _ => .mem 1 1
  | .fstSingleReal _ _ => .mem 1 2
  | .fstpSingleReal _ _ => .mem 1 3
  | .fldenv _ _ => .mem 1 4
  | .fldcw _ _ => .mem 1 5
  | .fstenv _ _ => .mem 1 6
  | .fstcw _ _ => .mem 1 7
  | .fldSti _ i => .reg 1 (withLow 0xC0 i)
  | .fxchSti _ i => .reg 1 (withLow 0xC8 i)
  | .fnop _ => .reg 1 0xD0
  | .reservedD9rD1 _ => .reg 1 0xD1
  | .reservedD9rD2toD3 _ k => .reg 1 (withLow 0xD2 k)
  | .reservedD9rD4toD7 _ k => .reg 1 (withLow 0xD4 k)
  | .reservedD9rD8toDF _ k => .reg 1 (withLow 0xD8 k)
  | .fchs _ => .reg 1 0xE0
  | .fabs _ => .reg 1 0xE1
  | .reservedD9rE2 _ => .reg 1 0xE2
  | .reservedD9rE3 _ => .reg 1 0xE3
  | .ftst _ => .reg 1 0xE4
  | .fxam _ => .reg 1 0xE5
  | .reservedD9rE6 _ => .reg 1 0xE6
  | .reservedD9rE7 _ => .reg 1 0xE7
  | .fld1 _ => .reg 1 0xE8
  | .fldl2t _ => .reg 1 0xE9
  | .fldl2e _ => .reg 1 0xEA
  | .fldpi _ => .reg 1 0xEB
  | .fldlg2 _ => .reg 1 0xEC
  | .fldln2 _ => .reg 1 0xED
  | .fldz _ => .reg 1 0xEE
  | .reservedD9rEF _ => .reg 1 0xEF
  | .f2xm1 _ => .reg 1 0xF0
  | .fyl2x _ => .reg 1 0xF1
  | .fptan _ => .reg 1 0xF2
  | .fpatan _ => .reg 1 0xF3
  | .fxtract _ => .reg 1 0xF4
  | .fprem1 _ => .reg 1 0xF5
  | .fdecstp _ => .reg 1 0xF6
  | .fincstp _ => .reg 1 0xF7
  | .fprem _ => .reg 1 0xF8
  | .fyl2xp1 _ => .reg 1 0xF9
  | .fsqrt _ => .reg 1 0xFA
  | .fsincos _ => .reg 1 0xFB
  | .frndint _ => .reg 1 0xFC
  | .fscale _ => .reg 1 0xFD
  | .fsin _ => .reg 1 0xFE
  | .fcos _ => .reg 1 0xFF
  | .fiaddShortInteger _ _ => .mem 2 0
  | .fimulShortInteger _ _ => .mem 2 1
  | .ficomShortInteger _ _ => .mem 2 2
  | .ficompShortInteger _ _ => .mem 2 3
  | .fisubShortInteger _ _ => .mem 2 4
  | .fisubrShortInteger _ _ => .mem 2 5
  | .fidivShortInteger _ _ => .mem 2 6
  | .fidivrShortInteger _ _ => .mem 2 7
  | .reservedDArC0toDF _ k => .reg 2 (withLow 0xC0 k)
  | .reservedDArE0toE7 _ k => .reg 2 (withLow 0xE0 k)
  | .reservedDArE8 _ => .reg 2 0xE8
  | .fucompp _ => .reg 2 0xE9
  | .reservedDArEAtoEB _ k => .reg 2 (withLow 0xEA k)
  | .reservedDArECtoEF _ k => .reg 2 (withLow 0xEC k)
  | .reservedDArF0toFF _ k => .reg 2 (withLow 0xF0 k)
  | .fildShortInteger _ _ => .mem 3 0
  | .reservedDBmem1 _ _ => .mem 3 1
  | .fistShortInteger _ _ => .mem 3 2
  | .fistpShortInteger _ _ => .mem 3 3
  | .reservedDBmem4 _ _ => .mem 3 4
  | .fldExtendedReal _ _ => .mem 3 5
  | .reservedDBmem6 _ _ => .mem 3 6
  | .fstpExtendedReal _ _ => .mem 3 7
  | .reservedDBrC0toDF _ k => .reg 3 (withLow 0xC0 k)
  | .feni _ => .reg 3 0xE0
  | .fdisi _ => .reg 3 0xE1
  | .fclex _ => .reg 3 0xE2
  | .finit _ => .reg 3 0xE3
  | .fsetpm _ => .reg 3 0xE4
  | .reservedDBrE5 _ => .reg 3 0xE5
  | .reservedDBrE6toE7 _ k => .reg 3 (withLow 0xE6 k)
  | .reservedDBrE8toEF _ k => .reg 3 (withLow 0xE8 k)
  | .reservedDBrF0toFF _ k => .reg 3 (withLow 0xF0 k)
  | .faddDoubleReal _ _ => .mem 4 0
  | .fmulDoubleReal _ _ => .mem 4 1
  | .fcomDoubleReal _ _ => .mem 4 2
  | .fcompDoubleReal _ _ => .mem 4 3
  | .fsubDoubleReal _ _ => .mem 4 4
  | .fsubrDoubleReal _ _ => .mem 4 5
  | .fdivDoubleReal _ _ => .mem 4 6
  | .fdivrDoubleReal _ _ => .mem 4 7
  | .faddStiSt _ i => .reg 4 (withLow 0xC0 i)
  | .fmulStiSt _ i => .reg 4 (withLow 0xC8 i)
  | .reservedDCrD0toDF _ k => .reg 4 (withLow 0xD0 k)
  | .fsubrStiSt _ i => .reg 4 (withLow 0xE0 i)
  | .fsubStiSt _ i => .reg 4 (withLow 0xE8 i)
  | .fdivrStiSt _ i => .reg 4 (withLow 0xF0 i)
  | .fdivStiSt _ i => .reg 4 (withLow 0xF8 i)
  | .fldDoubleReal _ _ => .mem 5 0
  | .reservedDDmem1 _ _ => .mem 5 1
  | .fstDoubleReal _ _ => .mem 5 2
  | .fstpDoubleReal _ _ => .mem 5 3
  | .frstor _ _ => .mem 5 4
  | .reservedDDmem5 _ _ => .mem 5 5
  | .fsave _ _ => .mem 5 6
  | .fstsw _ _ => .mem 5 7
  | .ffreeSti _ i => .reg 5 (withLow 0xC0 i)
  | .reservedDDrC8toCF _ k => .reg 5 (withLow 0xC8 k)
  | .fstSti _ i => .reg 5 (withLow 0xD0 i)
  | .fstpSti _ i => .reg 5 (withLow 0xD8 i)
  | .fucomSti _ i => .reg 5 (withLow 0xE0 i)
  | .fucompSti _ i => .reg 5 (withLow 0xE8 i)
  | .reservedDDrF0toFF _ k => .reg 5 (withLow 0xF0 k)
  | .fiaddWordInteger _ _ => .mem 6 0
  | .fimulWordInteger _ _ => .mem 6 1
  | .ficomWordInteger _ _ => .mem 6 2
  | .ficompWordInteger _ _ => .mem 6 3
  | .fisubWordInteger _ _ => .mem 6 4
  | .fisubrWordInteger _ _ => .mem 6 5
  | .fidivWordInteger _ _ => .mem 6 6
  | .fidivrWordInteger _ _ => .mem 6 7
  | .faddpStiSt _ i => .reg 6 (withLow 0xC0 i)
  | .fmulpStiSt _ i => .reg 6 (withLow 0xC8 i)
  | .reservedDErD0toD7 _ k => .reg 6 (withLow 0xD0 k)
  | .reservedDErD8 _ => .reg 6 0xD8
  | .fcompp _ => .reg 6 0xD9
  | .reservedDErDAtoDB _ k => .reg 6 (withLow 0xDA k)
  | .reservedDErDCtoDF _ k => .reg 6 (withLow 0xDC k)
  | .fsubrpStiSt _ i => .reg 6 (withLow 0xE0 i)
  | .fsubpStiSt _ i => .reg 6 (withLow 0xE8 i)
  | .fdivrpStiSt _ i => .reg 6 (withLow 0xF0 i)
  | .fdivpStiSt _ i => .reg 6 (withLow 0xF8 i)
  | .fildWordInteger _ _ => .mem 7 0
  | .reservedDFmem1 _ _ => .mem 7 1
  | .fistWordInteger _ _ => .mem 7 2
  | .fistpWordInteger _ _ => .mem 7 3
  | .fbldPackedDecimal _ _ => .mem 7 4
  | .fildLongInteger _ _ => .mem 7 5
  | .fbstpPackedDecimal _ _ => .mem 7 6
  | .fistpLongInteger _ _ => .mem 7 7
  | .reservedDFrC0toDF _ k => .reg 7 (withLow 0xC0 k)
  | .fstswAx _ => .reg 7 0xE0
  | .reservedDFrE1 _ => .reg 7 0xE1
  | .reservedDFrE2toE3 _ k => .reg 7 (withLow 0xE2 k)
  | .reservedDFrE4toE7 _ k => .reg 7 (withLow 0xE4 k)
  | .reservedDFrE8toEF _ k => .reg 7 (withLow 0xE8 k)
  | .reservedDFrF0toFF _ k => .reg 7 (withLow 0xF0 k)
  | .wait _ => .wait

/-- The first byte of an ESC instruction: 11011 and the group (R100). -/
def escByte (grp : BitVec 3) : Byte := (27 : BitVec 5) ++ grp

/-- The bytes of the opcode and, for a memory form, of its operand. -/
def opcodeBytes (m : Option MemArg) : Opcode → List Byte
  | .mem grp reg =>
    match m with
    | some m => escByte grp :: m.modrm reg :: m.tail
    | none => [escByte grp]
  | .reg grp b2 => [escByte grp, b2]
  | .wait => [0x9B]

/-- The bytes of an instruction, in increasing address order (R101). -/
def encode (i : Instr) : List Byte :=
  i.prefixes.map prefixByte ++ opcodeBytes i.memArg? i.opcode

/-! ### The opcode table's words -/

/-- `n` bytes of `w`, the byte at bits 7..0 first. -/
def lowBytes : Nat → Nat → List Byte
  | 0, _ => []
  | n + 1, w => BitVec.ofNat 8 w :: lowBytes n (w / 256)

/-- The bytes of an instruction whose bits are `w`, numbered as spec/opcode_table.json numbers them: the
16-bit pattern has the first opcode byte in bits 15..8 and the second in bits 7..0 (R8, R104); a row of
8 bits (WAIT) has its one byte there; bits from 16 up are the bytes that follow, in order. Every byte
above `nbits`, up to `maxLength` bytes, is zero. -/
def tableWordBytes (nbits w : Nat) : List Byte :=
  if nbits ≤ 8 then BitVec.ofNat 8 w :: List.replicate (maxLength - 1) 0
  else BitVec.ofNat 8 (w / 256) :: BitVec.ofNat 8 w :: lowBytes (maxLength - 2) (w % 2 ^ nbits / 65536)

/-- The default address-size attribute right after reset (assumption 1). -/
def resetAddressSize : Size := .s16

/-- The instruction the decoder reads from an opcode-table word. -/
def decodeTableWord (nbits w : Nat) : Option Instr :=
  match decode resetAddressSize (tableWordBytes nbits w) with
  | .ok p => some p.1
  | .error _ => none

end Sys2Proof
end

