-- ==== Sys2Proof/Machine/State.lean ====
section
/-! DEFINITION. The state of the machine as plain data: the NPX registers, the pointers, the 80386 registers
and inputs, memory, the interrupts taken, the launch data and the parameters. And the state after reset. -/

namespace Sys2Proof.Machine

/-- The status word (R30) without B and ES, which R31 and R33 make functions of the rest. -/
structure StatusWord where
  /-- Invalid operation, bit 0. -/
  ie : Bool
  /-- Denormalized operand, bit 1. -/
  de : Bool
  /-- Zero divide, bit 2. -/
  ze : Bool
  /-- Overflow, bit 3. -/
  oe : Bool
  /-- Underflow, bit 4. -/
  ue : Bool
  /-- Precision, bit 5. -/
  pe : Bool
  /-- Stack flag, bit 6 (R34). -/
  sf : Bool
  /-- Condition code, bit 8. -/
  c0 : Bool
  /-- Condition code, bit 9. -/
  c1 : Bool
  /-- Condition code, bit 10. -/
  c2 : Bool
  /-- Condition code, bit 14. -/
  c3 : Bool
  /-- Top of stack, bits 13..11 (R32). -/
  top : BitVec 3
deriving DecidableEq, Repr

/-- The state inside the 80387. -/
structure Npx where
  /-- R0 to R7 by physical number (R20). -/
  regs : Vector Ext 8
  /-- One bit per register: tagged empty (R25). -/
  empty : Vector Bool 8
  sw : StatusWord
  /-- The control word (R42). -/
  cw : BitVec 16
deriving DecidableEq, Repr

/-- The instruction pointer, data pointer and opcode of the last numeric instruction (R46, 92 D11). -/
structure Pointers where
  fip : BitVec 32
  fcs : BitVec 16
  fdp : BitVec 32
  fds : BitVec 16
  fop : BitVec 11
deriving DecidableEq, Repr

/-- The 80386 general registers (R26). -/
structure Gprs where
  eax : BitVec 32
  ecx : BitVec 32
  edx : BitVec 32
  ebx : BitVec 32
  esp : BitVec 32
  ebp : BitVec 32
  esi : BitVec 32
  edi : BitVec 32
deriving DecidableEq, Repr

/-- The offsets from `lo` to `hi`, both included. -/
structure OffsetRange where
  lo : BitVec 32
  hi : BitVec 32
deriving DecidableEq, Repr

/-- A segment register: the selector (R26) and what the host supplies with it, the base of `translate`
and the set of valid, accessible offsets of `seg_limit` (R71, R78, 92 D4). -/
structure Segment where
  selector : BitVec 16
  base : BitVec 32
  valid : List OffsetRange
deriving DecidableEq, Repr

/-- The segment registers (R26). -/
structure Segments where
  es : Segment
  cs : Segment
  ss : Segment
  ds : Segment
  fs : Segment
  gs : Segment
deriving DecidableEq, Repr

/-- `cpu_mode` (R7, 92 D1). -/
inductive CpuMode
  | realAddress | protectedMode | virtual8086
deriving DecidableEq, Repr

/-- The 80386 as far as the NPX meets it: its registers (R26), the CR0 bits (R50), the mode and the
default attributes of the code segment (R106, 92 D1, D2). -/
structure Cpu where
  gprs : Gprs
  segs : Segments
  eip : BitVec 32
  /-- No field of it is described and no instruction of this model reads or writes it (R26). -/
  eflags : BitVec 32
  mode : CpuMode
  operandSize : Size
  addressSize : Size
  em : Bool
  ts : Bool
  mp : Bool
deriving DecidableEq, Repr

/-- A selector and an offset. -/
structure FarPtr where
  sel : BitVec 16
  off : BitVec 32
deriving DecidableEq, Repr

/-- The four interrupts the 80386 raises on behalf of the NPX (R383). -/
inductive Interrupt
  /-- Interrupt 7 (R376). -/
  | deviceNotAvailable
  /-- Interrupt 9 (R381). -/
  | segmentOverrun
  /-- Interrupt 13 (R382). -/
  | generalProtection
  /-- Interrupt 16 (R380). -/
  | numericException
deriving DecidableEq, Repr

/-- An interrupt taken and not yet returned from: the event `Interrupt(n, ret)` of R360. -/
structure Taken where
  vector : Interrupt
  /-- The return address pushed onto the stack of the handler (R383). -/
  ret : FarPtr
  /-- The code segment the interrupted program ran in. -/
  code : Segment
deriving DecidableEq, Repr

/-- Where a handler begins, as the launch supplies it (R427, 92 D17). -/
structure Handler where
  code : Segment
  eip : BitVec 32
deriving DecidableEq, Repr

/-- Offsets of a segment on which the host reports a fault of its own (`host_mem_fault`, R79). -/
structure HostFaultRange where
  seg : SegReg
  range : OffsetRange
  onRead : Bool
  onWrite : Bool
deriving DecidableEq, Repr

/-- What the launch and the host supply and no instruction changes (R427, R79). -/
structure Launch where
  handler7 : Option Handler
  handler9 : Option Handler
  handler13 : Option Handler
  handler16 : Option Handler
  /-- `end_address`: the run ends when EIP reaches it. -/
  endAddress : Option (BitVec 32)
  hostFaults : List HostFaultRange
deriving DecidableEq, Repr

/-- Memory: the bytes of the 32-bit linear address space that differ from `unlistedByte`, by strictly
rising address. -/
abbrev Memory := List Host.Cell

/-- The number of linear addresses. -/
abbrev addressSpace : Nat := 4294967296

/-- What a byte of memory that nothing has written reads as (assumption 7). -/
def unlistedByte : Byte := 0

/-- The addresses of a cell list rise strictly from above `lo`. -/
def risesFrom : Nat → Memory → Bool
  | _, [] => true
  | lo, c :: m => decide (lo ≤ c.1) && risesFrom (c.1 + 1) m

/-- The canonical form: addresses strictly rising and inside the address space, no cell equal to what an
unlisted address reads as. -/
def Memory.wf (m : Memory) : Bool :=
  risesFrom 0 m && m.all fun c => decide (c.1 < addressSpace) && decide (c.2 ≠ unlistedByte)

/-- Why the machine stops. -/
inductive Fault
  /-- Raised by `step` when EIP is the end address the launch named (R427). Safe: the run is over. -/
  | runEnded
  /-- Raised by `step` after an interrupt for which the launch supplied no handler (R427). Safe: the run
  is over. -/
  | interruptWithoutHandler
  /-- Raised by an instruction with a memory operand on which the host reports a fault of its own (R79,
  93 U19). Safe: what the 80386 does then is not in the spec. -/
  | hostMemoryFault
deriving DecidableEq, Repr

/-- Why a step has no meaning. -/
inductive Refusal
  /-- Raised by an arm of `exec` for an instruction without a meaning. Safe. -/
  | notModelled (mnemonic : String)
  /-- Raised by a reserved ESC encoding under `ReservedEsc.refuse` (R122). Safe. -/
  | reservedEncoding
  /-- Raised by `step` when the bytes at CS:EIP are no instruction of R2 (R5). Safe. -/
  | undecodable (e : DecodeError)
  /-- Raised by `step` when the instruction's bytes cross the code-segment limit (92 D3). Safe. -/
  | codeSegmentLimit
  /-- Raised by `step` under `SelfModifyingCode.refuse` when an instruction's bytes have been stored by the program
  itself (R426, 92 D16). Safe. -/
  | selfModifyingCode
deriving DecidableEq, Repr

/-- The states of the NPX's bus logic (R411, R431): idle, READY#-sensitive, first state of a pipelined cycle. -/
inductive BusState
  | ti | trs | tp
deriving DecidableEq, Repr

/-- The whole machine. -/
structure State where
  npx : Npx
  ptrs : Pointers
  cpu : Cpu
  mem : Memory
  /-- BUSY# active (R53). -/
  busy : Bool
  /-- PEREQ active (R54). -/
  pereq : Bool
  /-- The state of the bus logic (R411, R431). -/
  bus : BusState
  /-- The latch that extends BUSY# on the PC/AT connection (R392). -/
  busyLatch : Bool
  /-- PEREQ is reactivated by the PC/AT connection (R82, R392). -/
  pereqLatch : Bool
  /-- The interrupt request IRQ13 of the PC/AT connection (R392). -/
  irq13 : Bool
  /-- The interrupts taken and not yet returned from, newest first (R383). -/
  taken : List Taken
  launch : Launch
  params : Params
  /-- The model's own record under `SelfModifyingCode.refuse`: the linear addresses of the bytes that instructions have
  stored. -/
  stored : List Nat
  /-- The model's own counter: the number under which the next instruction's free values are drawn. -/
  draws : Nat
deriving DecidableEq, Repr

/-! ### Reset -/

/-- A segment of selector 0 and limit FFFFH (assumption 1). -/
def resetSegment : Segment := ⟨0, 0, [⟨0, 0xFFFF⟩]⟩

/-- The 80386 after RESET, which the spec does not give: the family's values (assumption 1). -/
def resetCpu : Cpu where
  gprs := ⟨0, 0, 0, 0, 0, 0, 0, 0⟩
  segs := { es := resetSegment, cs := ⟨0xF000, 0xFFFF0000, [⟨0, 0xFFFF⟩]⟩, ss := resetSegment,
            ds := resetSegment, fs := resetSegment, gs := resetSegment }
  eip := 0xFFF0
  eflags := 2
  mode := .realAddress
  operandSize := .s16
  addressSize := resetAddressSize
  em := false
  ts := false
  mp := false

/-- The NPX after RESET (R60 to R64, R411): CW = 037EH, SW = 8081H, every register tagged empty. -/
def resetNpx : Npx where
  regs := Vector.replicate 8 0
  empty := Vector.replicate 8 true
  sw := { ie := true, de := false, ze := false, oe := false, ue := false, pe := false, sf := false,
          c0 := false, c1 := false, c2 := false, c3 := false, top := 0 }
  cw := 0x037E

/-- The parameters a run from reset has (assumption 4). -/
def resetParams : Params where
  reservedEsc := .draw
  cwReadback := .fixed
  fnstcwChecksError := false
  platform := .standard
  selfModifyingCode := .coherent

/-- The machine right after reset. The latches and the request of the PC/AT connection start false (DESIGN CHOICE,
assumption 44). -/
def State.reset : State where
  npx := resetNpx
  ptrs := ⟨0, 0, 0, 0, 0⟩
  cpu := resetCpu
  mem := []
  busy := false
  pereq := false
  bus := .ti
  busyLatch := false
  pereqLatch := false
  irq13 := false
  taken := []
  launch := ⟨none, none, none, none, none, []⟩
  params := resetParams
  stored := []
  draws := 0

end Sys2Proof.Machine
end

