-- ==== Sys2Proof/Machine/Numerics.lean ====
section
/-! DEFINITION. Number formats and arithmetic on images, without any state: classes and values (R142, R143),
rounding (R150), delivery to a register (R153, R166, R167), conversions (R180 to R185), NaN choice (R163),
ordering (R190). -/

namespace Sys2Proof.Machine

/-! ### The extended format (R20, R142, R145, R146) -/

/-- Bit 79. -/
def extSign (x : Ext) : Bool := x.getLsbD 79

/-- Bits 78..64. -/
def extExp (x : Ext) : BitVec 15 := x.extractLsb' 64 15

/-- Bits 63..0. -/
def extSig (x : Ext) : BitVec 64 := x.extractLsb' 0 64

/-- An image from its three fields. -/
def mkExt (s : Bool) (e : BitVec 15) (m : BitVec 64) : Ext := (BitVec.ofBool s ++ e) ++ m

/-- The classes of R142. -/
inductive Cls
  | zero | denormal | normal | infinity | qnan | snan | unsupported
deriving DecidableEq, Repr

/-- The class of a register image (R142). -/
def classOf (x : Ext) : Cls :=
  let e := (extExp x).toNat
  let m := extSig x
  if e = 0 then (if m = 0 then .zero else .denormal)
  else if !m.getLsbD 63 then .unsupported
  else if e < 0x7FFF then .normal
  else if m.extractLsb' 0 63 = 0 then .infinity
  else if m.getLsbD 62 then .qnan
  else .snan

/-- A finite value `±m·2^k`. -/
structure Val where
  neg : Bool
  m : Nat
  k : Int
deriving DecidableEq, Repr

/-- `val(x)` of a Zero, Denormal or Normal image (R142). -/
def valOf (x : Ext) : Val :=
  let e := (extExp x).toNat
  { neg := extSign x, m := (extSig x).toNat, k := (if e = 0 then 1 else (e : Int)) - 16383 - 63 }

/-- The real indefinite, FFFF C000 0000 0000 0000 H (R146). -/
def indefinite : Ext := 0xFFFFC000000000000000

/-- A zero. -/
def extZero (neg : Bool) : Ext := mkExt neg 0 0

/-- An infinity. -/
def extInf (neg : Bool) : Ext := mkExt neg 0x7FFF 0x8000000000000000

/-- +1.0. -/
def extOne : Ext := 0x3FFF8000000000000000

/-- `tagof(x)`, the tag of a nonempty register (R145). -/
def tagOf (x : Ext) : BitVec 2 :=
  match classOf x with
  | .zero => 1
  | .normal => 0
  | _ => 2

/-- `quiet(x) = x with m[62] set` (R163). -/
def quiet (x : Ext) : Ext := x ||| 0x4000000000000000

/-- An image with bit 79 cleared (R290). -/
def extAbs (x : Ext) : Ext := x &&& 0x7FFFFFFFFFFFFFFFFFFF

/-- An image with bit 79 inverted (R291). -/
def extNeg (x : Ext) : Ext := x ^^^ 0x80000000000000000000

/-! ### Exact magnitudes and rounding (R150) -/

/-- An exact nonnegative real: a fraction `(n/d)·2^k`, or a square root `√(n·2^k)`. -/
inductive Mag
  | ratio (n d : Nat) (k : Int)
  | root (n : Nat) (k : Int)
deriving DecidableEq, Repr

/-- The largest `r < 2^b + start` reachable from `r` by adding powers of two below `2^b` whose square is
at most `n`. -/
def sqrtBits (n : Nat) : Nat → Nat → Nat
  | 0, r => r
  | b + 1, r => if (r + 2 ^ b) * (r + 2 ^ b) ≤ n then sqrtBits n b (r + 2 ^ b) else sqrtBits n b r

/-- The integer square root `⌊√n⌋`. -/
def isqrt (n : Nat) : Nat := sqrtBits n (Nat.log2 n / 2 + 1) 0

/-- `⌊(n/d)/2^j⌋` for `j` of either sign, and whether the quotient is exact. A shift that leaves nothing
is not carried out. -/
def divShift (n d : Nat) (j : Int) : Nat × Bool :=
  if j ≤ 0 then
    let num := n <<< (-j).toNat
    (num / d, num % d == 0)
  else if (Nat.log2 n + 1 : Int) < j then (0, n == 0)
  else
    let den := d <<< j.toNat
    (n / den, n % den == 0)

/-- `⌊√(n·2^j)⌋` for `j` of either sign, and whether the root is exact. -/
def sqrtShift (n : Nat) (j : Int) : Nat × Bool :=
  if 0 ≤ j then
    let v := n <<< j.toNat
    let r := isqrt v
    (r, r * r == v)
  else
    let r := isqrt (n >>> (-j).toNat)
    (r, (r * r) <<< (-j).toNat == n)

/-- `⌊x/2^t⌋`, and whether `x` is a multiple of `2^t`. -/
def Mag.floorAt : Mag → Int → Nat × Bool
  | .ratio n d k, t => divShift n d (t - k)
  | .root n k, t => sqrtShift n (k - 2 * t)

/-- `⌊log2 x⌋` of a nonzero magnitude. -/
def Mag.log2 : Mag → Int
  | .ratio n d k =>
    let e := (Nat.log2 n : Int) - Nat.log2 d + k
    if (Mag.floorAt (.ratio n d k) e).1 = 0 then e - 1 else e
  | .root n k => ((Nat.log2 n : Int) + k) / 2

/-- A rounded magnitude `q·2^t` with the two flags of R150. -/
structure Rounded where
  q : Nat
  t : Int
  inexact : Bool
  roundup : Bool
deriving DecidableEq, Repr

/-- Whether the magnitude goes up to the next multiple: `odd` says that the lower neighbour's quotient is
odd, `half` and `exact` place the value between the neighbours, in halves of the unit (R150). -/
def roundsUp (rc : RC) (neg odd half exact : Bool) : Bool :=
  match rc with
  | .nearest => half && (!exact || odd)
  | .down => neg && (half || !exact)
  | .up => !neg && (half || !exact)
  | .chop => false

/-- The exact value of sign `neg` and magnitude `x` rounded to a multiple of `2^t` (R150). -/
def roundAt (rc : RC) (neg : Bool) (x : Mag) (t : Int) : Rounded :=
  let f := x.floorAt (t - 1)
  let lo := f.1 / 2
  let half := f.1 % 2 == 1
  let up := roundsUp rc neg (lo % 2 == 1) half f.2
  { q := if up then lo + 1 else lo, t := t, inexact := half || !f.2, roundup := up }

/-- `round(v, p, rc)` of a nonzero value (R150). -/
def roundTo (rc : RC) (neg : Bool) (x : Mag) (p : Nat) : Rounded :=
  roundAt rc neg x (x.log2 - p + 1)

/-- `⌊log2 |r|⌋` of a nonzero rounded value. -/
def Rounded.log2 (r : Rounded) : Int := (Nat.log2 r.q : Int) + r.t

/-- `q·2^j`, exact when `j ≥ 0` or `2^(-j)` divides `q`. -/
def shiftBy (q : Nat) (j : Int) : Nat := if 0 ≤ j then q <<< j.toNat else q >>> (-j).toNat

/-- The extended image of `±q·2^t`, a value of the format (R142). -/
def encodeExt (neg : Bool) (q : Nat) (t : Int) : Ext :=
  let e := (Nat.log2 q : Int) + t
  if q = 0 then extZero neg
  else if -16382 ≤ e then
    mkExt neg (BitVec.ofNat 15 (e + 16383).toNat) (BitVec.ofNat 64 (shiftBy q (63 - (Nat.log2 q : Int))))
  else mkExt neg 0 (BitVec.ofNat 64 (shiftBy q (t + 16445)))

/-- The largest finite extended number with a significand of `p` ones (R166). -/
def maxFinite (neg : Bool) (p : Nat) : Ext :=
  mkExt neg 0x7FFE (BitVec.ofNat 64 ((2 ^ p - 1) <<< (64 - p)))

/-- Whether masked overflow gives an infinity, rather than the largest finite number (R166). -/
def overflowToInf (rc : RC) (neg : Bool) : Bool :=
  match rc with
  | .nearest => true
  | .down => neg
  | .up => !neg
  | .chop => false

/-! ### Delivery to a register (R153, R166, R167, R168) -/

/-- A result for a register, with the exceptions it signals and C1. -/
structure Delivered where
  img : Ext
  oe : Bool
  ue : Bool
  pe : Bool
  c1 : Bool
deriving DecidableEq, Repr

/-- The unmasked overflow or underflow result: the exponent moved by `adj`. Where that exponent is still
outside the format the spec states no image: a free value (assumption 20). -/
def adjusted (neg : Bool) (r : Rounded) (adj : Int) (d : Nat) : Ext :=
  if -16382 ≤ r.log2 + adj ∧ r.log2 + adj ≤ 16383 then encodeExt neg r.q (r.t + adj)
  else Config.draw 80 .beyondAdjust d

/-- The end of `deliver`: `r` is the value rounded with unbounded exponent, `x` the exact magnitude, from
which a tiny result is rounded again (R153, R166, R167). `om`, `um` are the masks. -/
def deliverRounded (rc : RC) (om um : Bool) (neg : Bool) (x : Mag) (p : Nat) (r : Rounded) (d : Nat) : Delivered :=
  if 16383 < r.log2 then
    if om then
      let inf := overflowToInf rc neg
      { img := if inf then extInf neg else maxFinite neg p, oe := true, ue := false, pe := true, c1 := inf }
    else
      { img := adjusted neg r (-24576) d, oe := true, ue := false, pe := r.inexact, c1 := r.roundup }
  else if r.log2 < -16382 then
    if um then
      let t := roundAt rc neg x (-16382 - p + 1)
      if t.inexact then
        { img := encodeExt neg t.q t.t, oe := false, ue := true, pe := true, c1 := t.roundup }
      else
        { img := encodeExt neg t.q t.t, oe := false, ue := false, pe := r.inexact, c1 := r.roundup }
    else
      { img := adjusted neg r 24576 d, oe := false, ue := true, pe := r.inexact, c1 := r.roundup }
  else
    { img := encodeExt neg r.q r.t, oe := false, ue := false, pe := r.inexact, c1 := r.roundup }

/-- `deliver(v, p)` of a nonzero exact value (R153). -/
def deliver (rc : RC) (om um : Bool) (neg : Bool) (x : Mag) (p : Nat) (d : Nat) : Delivered :=
  deliverRounded rc om um neg x p (roundTo rc neg x p) d

/-- The Zero, Denormal or Normal image that a drawn result stands for: `r` of R300 is a supported image, never a NaN
or an infinity. A drawn image of one of these classes is itself, a pseudodenormal in its normal form. -/
def finiteImage (x : Ext) : Ext :=
  let e := extExp x
  if e = 0 then (if x.getLsbD 63 then mkExt (extSign x) 1 (extSig x) else x)
  else mkExt (extSign x) (if e = 0x7FFF then 0x7FFE else e) (extSig x ||| 0x8000000000000000)

/-- The nonzero tiny image that a drawn result stands for (R302). -/
def tinyImage (x : Ext) : Ext :=
  let m := extSig x &&& 0x7FFFFFFFFFFFFFFF
  mkExt (extSign x) 0 (if m = 0 then 1 else m)

/-- A rounded result of `transc`: PE and C1, and the underflow rule for a tiny nonzero one (R300, R167). `um` is the mask.
R300 applies R167 to the image `x`: masked, UE is signalled, since the exact value is no value of the format; unmasked, the
significand of `x` itself is delivered with its exponent moved, and not one of 64 bits of the exact value; a zero signals no
UE (DESIGN CHOICE, assumption 43). -/
def deliverInexact (um : Bool) (x : Ext) (roundup : Bool) : Delivered :=
  let v := valOf x
  if classOf x = .denormal then
    { img := if um then x else encodeExt v.neg v.m (v.k + 24576), oe := false, ue := true, pe := true, c1 := roundup }
  else { img := x, oe := false, ue := false, pe := true, c1 := roundup }

/-! ### Exact arithmetic on values -/

/-- The signed integer `v / 2^k0`, for `k0 ≤ v.k`. -/
def Val.scaled (v : Val) (k0 : Int) : Int :=
  let n : Nat := v.m <<< (v.k - k0).toNat
  if v.neg then -(n : Int) else n

/-- `v` and `w` as integers in the smaller of their two units, and that unit. -/
def alignVals (v w : Val) : Int × Int × Int :=
  let k := min v.k w.k
  (v.scaled k, w.scaled k, k)

/-- `compare(a, b)` of two finite values (R190). -/
def compareVal (v w : Val) : Ordering :=
  let a := alignVals v w
  compare a.1 a.2.1

/-- `⌊log2 |v|⌋` of a nonzero value. -/
def Val.log2 (v : Val) : Int := (Nat.log2 v.m : Int) + v.k

/-- The magnitude of a value. -/
def Val.mag (v : Val) : Mag := .ratio v.m 1 v.k

/-! ### NaN choice (R163) -/

/-- An operand: an extended image and its class, which for a memory operand is the class of the memory
format (R261). -/
structure Opnd where
  img : Ext
  cls : Cls
deriving DecidableEq, Repr

/-- A NaN of either kind. -/
def Opnd.isNan (a : Opnd) : Bool := a.cls == .qnan || a.cls == .snan

/-- An operand that is invalid by itself: a signaling NaN or an unsupported image (R162). -/
def Opnd.isInvalid (a : Opnd) : Bool := a.cls == .snan || a.cls == .unsupported

/-- The NaN of two NaN images of one kind: the larger significand, on a tie the one with sign 0 (R163). -/
def largerNan (a b : Ext) : Ext :=
  if (extSig b).toNat < (extSig a).toNat then a
  else if (extSig a).toNat < (extSig b).toNat then b
  else if extSign a then b else a

/-- The NaN that two operands give (R163), the indefinite when neither is a NaN. -/
def nanResult (a b : Opnd) : Ext :=
  if a.isNan && b.isNan then
    if a.cls == .qnan && b.cls == .snan then a.img
    else if a.cls == .snan && b.cls == .qnan then b.img
    else quiet (largerNan a.img b.img)
  else if a.isNan then quiet a.img
  else if b.isNan then quiet b.img
  else indefinite

/-- The NaN that one operand gives (R163). -/
def nanOf (a : Opnd) : Ext := if a.isNan then quiet a.img else indefinite

/-! ### The memory real formats (R92, R143, R180, R183) -/

/-- A memory real format: fraction width, exponent width, bias. -/
structure Fmt where
  fracBits : Nat
  expBits : Nat
  bias : Nat
deriving DecidableEq, Repr

/-- Single precision real: 4 bytes (R92). -/
def single : Fmt := ⟨23, 8, 127⟩

/-- Double precision real: 8 bytes (R92). -/
def double : Fmt := ⟨52, 11, 1023⟩

/-- The all-ones exponent. -/
def Fmt.maxExp (f : Fmt) : Nat := 2 ^ f.expBits - 1

/-- The sign of an image. -/
def Fmt.sign (f : Fmt) (v : Nat) : Bool := v.testBit (f.fracBits + f.expBits)

/-- The biased exponent of an image. -/
def Fmt.exp (f : Fmt) (v : Nat) : Nat := v >>> f.fracBits % 2 ^ f.expBits

/-- The fraction of an image. -/
def Fmt.frac (f : Fmt) (v : Nat) : Nat := v % 2 ^ f.fracBits

/-- The class of a memory real (R143). -/
def Fmt.memClass (f : Fmt) (v : Nat) : Cls :=
  if f.exp v = 0 then (if f.frac v = 0 then .zero else .denormal)
  else if f.exp v < f.maxExp then .normal
  else if f.frac v = 0 then .infinity
  else if (f.frac v).testBit (f.fracBits - 1) then .qnan
  else .snan

/-- The widened image of a memory real: value and sign kept, a NaN's fraction in the top bits (R163,
R180). -/
def Fmt.widen (f : Fmt) (v : Nat) : Ext :=
  match f.memClass v with
  | .zero => extZero (f.sign v)
  | .denormal => encodeExt (f.sign v) (f.frac v) (1 - (f.bias : Int) - f.fracBits)
  | .normal => encodeExt (f.sign v) (2 ^ f.fracBits + f.frac v) ((f.exp v : Int) - f.bias - f.fracBits)
  | .infinity => extInf (f.sign v)
  | _ => mkExt (f.sign v) 0x7FFF (BitVec.ofNat 64 (2 ^ 63 + f.frac v <<< (63 - f.fracBits)))

/-- A memory real as an operand, with its own class (R261). -/
def Fmt.opnd (f : Fmt) (v : Nat) : Opnd := ⟨f.widen v, f.memClass v⟩

/-- An image of the format from its fields. -/
def Fmt.pack (f : Fmt) (neg : Bool) (e frac : Nat) : Nat :=
  (if neg then 1 else 0) <<< (f.fracBits + f.expBits) + e <<< f.fracBits + frac

/-- The real indefinite of the format (R146). -/
def Fmt.indefinite (f : Fmt) : Nat := f.pack true f.maxExp (2 ^ (f.fracBits - 1))

/-- The image of `±q·2^t`, a value of the format (R143). -/
def Fmt.encode (f : Fmt) (neg : Bool) (q : Nat) (t : Int) : Nat :=
  let e := (Nat.log2 q : Int) + t
  if q = 0 then f.pack neg 0 0
  else if 1 - (f.bias : Int) ≤ e then
    f.pack neg (e + f.bias).toNat (shiftBy q ((f.fracBits : Int) - Nat.log2 q) - 2 ^ f.fracBits)
  else f.pack neg 0 (shiftBy q (t - (1 - (f.bias : Int) - f.fracBits)))

/-- What a store to memory does: the bits to write (none: no store), the exceptions it signals, C1. -/
structure Stored where
  bits : Option Nat
  ie : Bool
  oe : Bool
  ue : Bool
  pe : Bool
  c1 : Bool
deriving DecidableEq, Repr

/-- A store that signals nothing. -/
def storedExact (v : Nat) : Stored := ⟨some v, false, false, false, false, false⟩

/-- A store that signals invalid operation: masked, `v` is stored; unmasked, nothing is (R162). -/
def storedInvalid (im : Bool) (v : Nat) : Stored := ⟨if im then some v else none, true, false, false, false, false⟩

/-- The store of a nonzero finite value (R183). Whether an unmasked overflow or underflow, after which nothing is stored,
also signals PE when the value was inexact is not in R166, R167 or R183: here it does not, and C1 is 0 (DESIGN CHOICE,
assumption 41). -/
def Fmt.narrowValue (f : Fmt) (rc : RC) (om um : Bool) (v : Val) : Stored :=
  let p := f.fracBits + 1
  let r := roundTo rc v.neg v.mag p
  if (f.bias : Int) < r.log2 then
    if om then
      let inf := overflowToInf rc v.neg
      let img := if inf then f.pack v.neg f.maxExp 0 else f.pack v.neg (f.maxExp - 1) (2 ^ f.fracBits - 1)
      ⟨some img, false, true, false, true, inf⟩
    else ⟨none, false, true, false, false, false⟩
  else if r.log2 < 1 - (f.bias : Int) then
    if um then
      let t := roundAt rc v.neg v.mag (1 - (f.bias : Int) - f.fracBits)
      ⟨some (f.encode v.neg t.q t.t), false, false, t.inexact, t.inexact, t.roundup⟩
    else ⟨none, false, false, true, false, false⟩
  else ⟨some (f.encode v.neg r.q r.t), false, false, false, r.inexact, r.roundup⟩

/-- `single_from_ext`, `double_from_ext` (R183). `im`, `om`, `um` are the masks. -/
def Fmt.narrow (f : Fmt) (rc : RC) (im om um : Bool) (x : Ext) : Stored :=
  let nan := f.pack (extSign x) f.maxExp (((extSig x).toNat % 2 ^ 63) >>> (63 - f.fracBits) ||| 2 ^ (f.fracBits - 1))
  match classOf x with
  | .zero => storedExact (f.pack (extSign x) 0 0)
  | .infinity => storedExact (f.pack (extSign x) f.maxExp 0)
  | .qnan => storedExact nan
  | .snan => storedInvalid im nan
  | .unsupported => storedInvalid im f.indefinite
  | _ => f.narrowValue rc om um (valOf x)

/-! ### Integers (R90, R141, R181, R184) -/

/-- `int_N(v)` (R141). -/
def intOf (bits v : Nat) : Int := if v < 2 ^ (bits - 1) then v else (v : Int) - 2 ^ bits

/-- `ext_from_int(n)`, exact (R181). -/
def extOfInt (n : Int) : Ext := encodeExt (decide (n < 0)) n.natAbs 0

/-- A register image as an operand. -/
def opndOf (x : Ext) : Opnd := ⟨x, classOf x⟩

/-- An integer in memory as an operand (R270). -/
def intOpnd (bits v : Nat) : Opnd := opndOf (extOfInt (intOf bits v))

/-- The integer indefinite (R146). -/
def intIndefinite (bits : Nat) : Nat := 2 ^ (bits - 1)

/-- `int_from_ext(x, N)` (R184). -/
def intOfExt (bits : Nat) (rc : RC) (im : Bool) (x : Ext) : Stored :=
  match classOf x with
  | .zero => storedExact 0
  | .normal | .denormal =>
    let v := valOf x
    let r := roundAt rc v.neg v.mag 0
    if r.q < 2 ^ (bits - 1) ∨ (v.neg ∧ r.q = 2 ^ (bits - 1)) then
      ⟨some (if v.neg then (2 ^ bits - r.q) % 2 ^ bits else r.q), false, false, false, r.inexact, r.roundup⟩
    else storedInvalid im (intIndefinite bits)
  | _ => storedInvalid im (intIndefinite bits)

/-! ### Packed BCD (R91, R182, R185) -/

/-- The value of the low `n` digits, and whether each is a decimal digit. -/
def bcdDigits : Nat → Nat → Nat × Bool
  | 0, _ => (0, true)
  | n + 1, v =>
    let r := bcdDigits n (v / 16)
    (v % 16 + 10 * r.1, decide (v % 16 < 10) && r.2)

/-- The low `n` decimal digits of a number, four bits each. -/
def toBcd : Nat → Nat → Nat
  | 0, _ => 0
  | n + 1, v => v % 10 + 16 * toBcd n (v / 10)

/-- `ext_from_bcd(v)` (R182), none for an operand with a digit A to F. -/
def extOfBcd (v : Nat) : Option Ext :=
  let r := bcdDigits 18 v
  if r.2 then some (encodeExt (v.testBit 79) r.1 0) else none

/-- The BCD indefinite, FFFF C000 0000 0000 0000 H (R146). -/
def bcdIndefinite : Nat := 0xFFFFC000000000000000

/-- A packed decimal image (R91). -/
def packBcd (neg : Bool) (q : Nat) : Nat := (if neg then 1 else 0) <<< 79 + toBcd 18 q

/-- `bcd_from_ext(x)` (R185). -/
def bcdOfExt (rc : RC) (im : Bool) (x : Ext) : Stored :=
  match classOf x with
  | .zero => storedExact (packBcd (extSign x) 0)
  | .normal | .denormal =>
    let v := valOf x
    let r := roundAt rc v.neg v.mag 0
    if r.q < 10 ^ 18 then ⟨some (packBcd v.neg r.q), false, false, false, r.inexact, r.roundup⟩
    else storedInvalid im bcdIndefinite
  | _ => storedInvalid im bcdIndefinite

/-! ### Ordering (R190) -/

/-- The outcome of a comparison (R39). -/
inductive Order
  | greater | less | equal | unordered
deriving DecidableEq, Repr

/-- The outcome of an ordering of values. -/
def orderOf : Ordering → Order
  | .lt => .less
  | .eq => .equal
  | .gt => .greater

/-- `compare(a, b)`: affine infinities, +0 = -0, unordered when an operand has no value (R190). -/
def compareOpnd (a b : Opnd) : Order :=
  if a.isNan || b.isNan || a.cls == .unsupported || b.cls == .unsupported then .unordered
  else if a.cls == .infinity then
    if b.cls == .infinity && extSign a.img == extSign b.img then .equal
    else if extSign a.img then .less else .greater
  else if b.cls == .infinity then (if extSign b.img then .greater else .less)
  else orderOf (compareVal (valOf a.img) (valOf b.img))

end Sys2Proof.Machine
end

