-- ==== Sys2Proof/Machine/Flags.lean ====
section
/-! DEFINITION. The status word and the control word: exception flags and masks (R30 to R35, R42 to R45),
the condition code and its undefined bits (R36 to R40), and what a rounded result does to them. -/

namespace Sys2Proof.Machine

/-- The six numeric exceptions (R362). -/
inductive Exc
  | ie | de | ze | oe | ue | pe
deriving DecidableEq, Repr

/-! ### The control word (R42, R43, R44) -/

/-- The mask bit of an exception: CW bit k masks SW flag k (R42). -/
def Npx.masked (n : Npx) : Exc → Bool
  | .ie => n.cw.getLsbD 0
  | .de => n.cw.getLsbD 1
  | .ze => n.cw.getLsbD 2
  | .oe => n.cw.getLsbD 3
  | .ue => n.cw.getLsbD 4
  | .pe => n.cw.getLsbD 5

/-- Rounding control, CW bits 11..10 (R43). -/
def Npx.rc (n : Npx) : RC :=
  match (n.cw.extractLsb' 10 2).toNat with
  | 0 => .nearest
  | 1 => .down
  | 2 => .up
  | _ => .chop

/-- The precision that CW bits 9..8 select, none for the reserved code 01 (R43, R152). -/
def Npx.precision (n : Npx) : Option Nat :=
  match (n.cw.extractLsb' 8 2).toNat with
  | 0 => some 24
  | 1 => none
  | 2 => some 53
  | _ => some 64

/-- The control word that a load of `v` leaves: bit 6 reads 1; bits 15..13 and 7 read 0 or as written,
by `cw_reserved_readback` (R44); bit 12 is stored as given (R45). -/
def readbackCw : CwReadback → BitVec 16 → BitVec 16
  | .fixed, v => (v &&& 0x1F7F) ||| 0x0040
  | .asWritten, v => v ||| 0x0040

/-! ### The status word (R30 to R35) -/

/-- Set the flag of an exception (R160). -/
def StatusWord.signal (w : StatusWord) : Exc → StatusWord
  | .ie => { w with ie := true }
  | .de => { w with de := true }
  | .ze => { w with ze := true }
  | .oe => { w with oe := true }
  | .ue => { w with ue := true }
  | .pe => { w with pe := true }

/-- The flag of an exception. -/
def StatusWord.flag (w : StatusWord) : Exc → Bool
  | .ie => w.ie
  | .de => w.de
  | .ze => w.ze
  | .oe => w.oe
  | .ue => w.ue
  | .pe => w.pe

/-- The flag bits SW[5:0]. -/
def StatusWord.flags (w : StatusWord) : BitVec 6 :=
  BitVec.ofBool w.pe ++ BitVec.ofBool w.ue ++ BitVec.ofBool w.oe ++ BitVec.ofBool w.ze ++ BitVec.ofBool w.de ++
    BitVec.ofBool w.ie

/-- The mask bits CW[5:0]. -/
def Npx.masks (n : Npx) : BitVec 6 := n.cw.extractLsb' 0 6

/-- ES: an unmasked exception flag is set (R33). ERROR# is active exactly then (R52). -/
def Npx.es (n : Npx) : Bool := (n.sw.flags &&& ~~~n.masks) != 0

/-- SW with B and ES in their places, B a copy of ES (R30, R31, R33). -/
def packStatus (w : StatusWord) (es : Bool) : BitVec 16 :=
  BitVec.ofBool es ++ BitVec.ofBool w.c3 ++ w.top ++ BitVec.ofBool w.c2 ++ BitVec.ofBool w.c1 ++ BitVec.ofBool w.c0 ++
    BitVec.ofBool es ++ BitVec.ofBool w.sf ++ w.flags

/-- The 16-bit status word (R30). -/
def Npx.statusWord (n : Npx) : BitVec 16 := packStatus n.sw n.es

/-- The status word a load of `v` leaves: every bit but B and ES (R41). -/
def loadStatus (v : BitVec 16) : StatusWord where
  ie := v.getLsbD 0
  de := v.getLsbD 1
  ze := v.getLsbD 2
  oe := v.getLsbD 3
  ue := v.getLsbD 4
  pe := v.getLsbD 5
  sf := v.getLsbD 6
  c0 := v.getLsbD 8
  c1 := v.getLsbD 9
  c2 := v.getLsbD 10
  top := v.extractLsb' 11 3
  c3 := v.getLsbD 14

/-- `v`, with every flag of `w`, SF among them, still set. -/
def StatusWord.mergeFlags (w v : StatusWord) : StatusWord :=
  { v with ie := w.ie || v.ie, de := w.de || v.de, ze := w.ze || v.ze, oe := w.oe || v.oe, ue := w.ue || v.ue
           pe := w.pe || v.pe, sf := w.sf || v.sf }

/-- The status word 0000H that FINIT leaves (R62). -/
def zeroStatus : StatusWord := loadStatus 0

/-- The control word 037FH that FINIT leaves (R61). -/
def initControl : BitVec 16 := 0x037F

/-! ### Changing flags and condition bits -/

/-- Set the flag of an exception (R160). ES, B and ERROR# follow (R33). -/
def Npx.signal (n : Npx) (e : Exc) : Npx := { n with sw := n.sw.signal e }

/-- Set the flag of an exception if `b`. -/
def Npx.signalIf (n : Npx) (b : Bool) (e : Exc) : Npx := if b then n.signal e else n

/-- Write C1. -/
def Npx.setC1 (n : Npx) (b : Bool) : Npx := { n with sw := { n.sw with c1 := b } }

/-- Write C2, the reduction bit of FPTAN, FSIN, FCOS, FSINCOS (R36). -/
def Npx.setC2 (n : Npx) (b : Bool) : Npx := { n with sw := { n.sw with c2 := b } }

/-- Write C3, C2, C0. -/
def Npx.setCC (n : Npx) (b3 b2 b0 : Bool) : Npx := { n with sw := { n.sw with c3 := b3, c2 := b2, c0 := b0 } }

/-- Write TOP. -/
def Npx.setTop (n : Npx) (t : BitVec 3) : Npx := { n with sw := { n.sw with top := t } }

/-- A drawn condition bit (R37, assumption 13). -/
def ccDraw (d : Nat) (b : CcBit) : Bool := Config.drawBit (.cc b) d

/-- C3, C2, C0 are UNDEFINED after the instruction (R36, R37). -/
def Npx.drawC320 (n : Npx) (d : Nat) : Npx := n.setCC (ccDraw d .c3) (ccDraw d .c2) (ccDraw d .c0)

/-- C3 and C0 are UNDEFINED after the instruction (R300). -/
def Npx.drawC30 (n : Npx) (d : Nat) : Npx := { n with sw := { n.sw with c3 := ccDraw d .c3, c0 := ccDraw d .c0 } }

/-- C2 is UNDEFINED after the instruction. -/
def Npx.drawC2 (n : Npx) (d : Nat) : Npx := n.setC2 (ccDraw d .c2)

/-- C1 is UNDEFINED after the instruction (U6, U12). -/
def Npx.drawC1 (n : Npx) (d : Nat) : Npx := n.setC1 (ccDraw d .c1)

/-- All four condition bits are UNDEFINED after the instruction (R36, R320, 92 D14). -/
def Npx.drawCC (n : Npx) (d : Nat) : Npx := (n.drawC320 d).drawC1 d

/-- C3, C2, C0 of a comparison (R39). -/
def Npx.setOrder (n : Npx) : Order → Npx
  | .greater => n.setCC false false false
  | .less => n.setCC false false true
  | .equal => n.setCC true false false
  | .unordered => n.setCC true true true

/-- C3, C2, C0 of an operand class (R40). -/
def Npx.setClass (n : Npx) : Cls → Npx
  | .unsupported => n.setCC false false false
  | .qnan => n.setCC false false true
  | .snan => n.setCC false false true
  | .normal => n.setCC false true false
  | .infinity => n.setCC false true true
  | .zero => n.setCC true false false
  | .denormal => n.setCC true true false

/-- The condition code of a complete reduction of quotient magnitude `q`: C0 = Q2, C3 = Q1, C1 = Q0,
C2 = 0 (R38). -/
def Npx.setQuotient (n : Npx) (q : Nat) : Npx :=
  (n.setCC (q.testBit 1) false (q.testBit 2)).setC1 (q.testBit 0)

/-- The flags and C1 of a result delivered to a register (R153, R166 to R168). -/
def Npx.flagDelivered (n : Npx) (r : Delivered) : Npx :=
  (((n.signalIf r.oe .oe).signalIf r.ue .ue).signalIf r.pe .pe).setC1 r.c1

/-- Whether a store signals an exception that is not masked (R160). -/
def Npx.unmaskedBy (n : Npx) (r : Stored) : Bool :=
  (r.ie && !n.masked .ie) || (r.oe && !n.masked .oe) || (r.ue && !n.masked .ue) || (r.pe && !n.masked .pe)

/-- The flags and C1 of a store (R183 to R185). -/
def Npx.flagStored (n : Npx) (r : Stored) : Npx :=
  ((((n.signalIf r.ie .ie).signalIf r.oe .oe).signalIf r.ue .ue).signalIf r.pe .pe).setC1 r.c1

end Sys2Proof.Machine
end

