-- ==== Sys2Proof/Machine/Operands.lean ====
section
/-! DEFINITION. Memory operands: the effective address (R107 to R111), the bytes it covers (R72), and the
checks on them (R78, R79). -/

namespace Sys2Proof.Machine

/-- The effective address of a memory operand: segment and offset, and the address size that is the width
of the offset (R71, R72). -/
structure MemRef where
  seg : SegReg
  off : BitVec 32
  size : Size
deriving DecidableEq, Repr

/-! ### Registers in addresses -/

/-- A general register by its encoding number (R109). -/
def Gprs.get (g : Gprs) : Reg32 → BitVec 32
  | .eax => g.eax
  | .ecx => g.ecx
  | .edx => g.edx
  | .ebx => g.ebx
  | .esp => g.esp
  | .ebp => g.ebp
  | .esi => g.esi
  | .edi => g.edi

/-- The low word of a register (R26). -/
def low16 (r : BitVec 32) : BitVec 16 := r.extractLsb' 0 16

/-- A segment register. -/
def Segments.get (s : Segments) : SegReg → Segment
  | .es => s.es
  | .cs => s.cs
  | .ss => s.ss
  | .ds => s.ds
  | .fs => s.fs
  | .gs => s.gs

/-- The register part of a 16-bit address (R110). -/
def base16Value (g : Gprs) : Base16 → BitVec 16
  | .bxSi => low16 g.ebx + low16 g.esi
  | .bxDi => low16 g.ebx + low16 g.edi
  | .bpSi => low16 g.ebp + low16 g.esi
  | .bpDi => low16 g.ebp + low16 g.edi
  | .si => low16 g.esi
  | .di => low16 g.edi
  | .bp => low16 g.ebp
  | .bx => low16 g.ebx

/-- A displacement: a byte is sign-extended (R108, R110). -/
def dispValue {n : Nat} : Disp n → BitVec n
  | .none => 0
  | .byte d => d.signExtend n
  | .full d => d

/-- The shift of a scale (R109). -/
def scaleShift : Scale → Nat
  | .x1 => 0
  | .x2 => 1
  | .x4 => 2
  | .x8 => 3

/-- The scaled index (R109). -/
def indexValue (g : Gprs) (s : Scale) : Option Reg32 → BitVec 32
  | none => 0
  | some r => g.get r <<< scaleShift s

/-! ### The effective address -/

/-- The offset of a memory operand, modulo 2^16 or 2^32 (R108 to R110). -/
def memOffset (g : Gprs) : MemArg → BitVec 32
  | .a16 b d => (base16Value g b + dispValue d).setWidth 32
  | .direct16 d => d.setWidth 32
  | .a32 b d => g.get b + dispValue d
  | .direct32 d => d
  | .sib s i b d => g.get b + indexValue g s i + dispValue d
  | .sibNoBase s i d => indexValue g s i + d

/-- SS for a base register BP, EBP or ESP, else DS (R111). -/
def defaultSegment : MemArg → SegReg
  | .a16 .bpSi _ => .ss
  | .a16 .bpDi _ => .ss
  | .a16 .bp _ => .ss
  | .a32 .ebp _ => .ss
  | .a32 .esp _ => .ss
  | .sib _ _ .ebp _ => .ss
  | .sib _ _ .esp _ => .ss
  | _ => .ds

/-- The segment of the last segment-override byte (R111, assumption 30). -/
def segOverride : List Prefix → Option SegReg
  | [] => none
  | .seg r :: ps => some ((segOverride ps).getD r)
  | .opSize :: ps => segOverride ps
  | .addrSize :: ps => segOverride ps

/-- The width of the offset of an addressing form (R71, R72). -/
def offsetSize : MemArg → Size
  | .a16 _ _ => .s16
  | .direct16 _ => .s16
  | .a32 _ _ => .s32
  | .direct32 _ => .s32
  | .sib _ _ _ _ => .s32
  | .sibNoBase _ _ _ => .s32

/-- The effective address (R107 to R111). -/
def effectiveAddress (c : Cpu) (pre : List Prefix) (m : MemArg) : MemRef where
  seg := (segOverride pre).getD (defaultSegment m)
  off := memOffset c.gprs m
  size := offsetSize m

/-! ### The bytes of an operand -/

/-- The offset of byte `k` of an operand, modulo 2^16 or 2^32 (R72). -/
def MemRef.offset (r : MemRef) (k : Nat) : BitVec 32 :=
  match r.size with
  | .s16 => (BitVec.ofNat 16 (r.off.toNat + k)).setWidth 32
  | .s32 => r.off + BitVec.ofNat 32 k

/-- The linear address of byte `k` of an operand: segment base plus offset (92 D4, assumption 6). -/
def Segments.address (g : Segments) (r : MemRef) (k : Nat) : Nat := ((g.get r.seg).base + r.offset k).toNat

/-- The linear addresses of the `n` bytes of an operand. -/
def Segments.addresses (g : Segments) (r : MemRef) (n : Nat) : List Nat := (List.range n).map (g.address r)

/-! ### Limit checks (R78, R79) -/

/-- Whether an offset lies in a range. -/
def OffsetRange.has (r : OffsetRange) (off : BitVec 32) : Bool := r.lo.ule off && off.ule r.hi

/-- Whether an offset of a segment is valid and accessible: `seg_limit` (92 D4). -/
def Segment.allows (g : Segment) (off : BitVec 32) : Bool := g.valid.any fun r => r.has off

/-- Whether byte `k` of an operand is accessible. -/
def Segments.allowsByte (g : Segments) (r : MemRef) (k : Nat) : Bool := (g.get r.seg).allows (r.offset k)

/-- Whether the first `n` bytes of an operand are accessible. -/
def Segments.allowsBytes (g : Segments) (r : MemRef) (n : Nat) : Bool := (List.range n).all (g.allowsByte r)

/-- The width of the interrupt-13 check: a word for a 2-byte operand or a small segment, else a
doubleword (92 D9). -/
def startWidth (r : MemRef) (n : Nat) : Nat :=
  match r.size with
  | .s16 => 2
  | .s32 => if n = 2 then 2 else 4

/-- Whether the host reports a fault of its own on an operand: `host_mem_fault` (R79). -/
def Launch.hostFaultOn (l : Launch) (r : MemRef) (n : Nat) (write : Bool) : Bool :=
  l.hostFaults.any fun h =>
    decide (h.seg = r.seg) && (if write then h.onWrite else h.onRead) && (List.range n).any fun k => h.range.has (r.offset k)

end Sys2Proof.Machine
end

