-- ==== Sys2Proof/Machine/Ops.lean ====
section
/-! DEFINITION. The named operations every meaning is made of: memory bytes (R72), the register stack (R170
to R174), taking an interrupt and returning from one (R360, R383), the pointer update (R175), and the
templates of an ESC instruction (R361). -/

namespace Sys2Proof.Machine

/-! ### Memory (R72, R73) -/

/-- The byte at an address. -/
def Memory.read : Memory → Nat → Byte
  | [], _ => unlistedByte
  | c :: m, a => if c.1 = a then c.2 else Memory.read m a

/-- The memory with address `a` unlisted. -/
def Memory.erase (m : Memory) (a : Nat) : Memory := m.filter fun c => c.1 != a

/-- The memory with a cell put in its place. -/
def Memory.insert : Memory → Nat → Byte → Memory
  | [], a, b => [(a, b)]
  | c :: m, a, b => if a < c.1 then (a, b) :: c :: m else c :: Memory.insert m a b

/-- Store one byte. -/
def Memory.write (m : Memory) (a : Nat) (b : Byte) : Memory :=
  if b = unlistedByte then m.erase a else (m.erase a).insert a b

/-- The bytes at the addresses of a list as one number, the first least significant (R72, R73). -/
def Memory.readList (m : Memory) : List Nat → Nat
  | [] => 0
  | a :: as => (m.read a).toNat + 256 * Memory.readList m as

/-- Store a number at the addresses of a list, its least significant byte first (R72, R73). -/
def Memory.writeList (m : Memory) : List Nat → Nat → Memory
  | [], _ => m
  | a :: as, v => Memory.writeList (m.write a (BitVec.ofNat 8 v)) as (v / 256)

/-! ### The register stack (R21, R170 to R174) -/

/-- The physical register that `ST(i)` names (R21). -/
def Npx.phys (n : Npx) (i : StIndex) : BitVec 3 := n.sw.top + i

/-- Physical register `k`. -/
def Npx.reg (n : Npx) (k : BitVec 3) : Ext := n.regs[k.toNat]'k.isLt

/-- Whether physical register `k` is tagged empty (R25). -/
def Npx.isEmpty (n : Npx) (k : BitVec 3) : Bool := n.empty[k.toNat]'k.isLt

/-- Write physical register `k`, which becomes nonempty (R174). -/
def Npx.setReg (n : Npx) (k : BitVec 3) (x : Ext) : Npx :=
  { n with regs := n.regs.set k.toNat x k.isLt, empty := n.empty.set k.toNat false k.isLt }

/-- Exchange the contents of two physical registers, tags untouched (R211). -/
def Npx.swapRegs (n : Npx) (a b : BitVec 3) : Npx :=
  { n with regs := (n.regs.set a.toNat (n.reg b) a.isLt).set b.toNat (n.reg a) b.isLt }

/-- Tag physical register `k` empty; its contents stay (R171, R347). -/
def Npx.free (n : Npx) (k : BitVec 3) : Npx := { n with empty := n.empty.set k.toNat true k.isLt }

/-- `pop()` (R171). -/
def Npx.pop (n : Npx) : Npx := (n.free n.sw.top).setTop (n.sw.top + 1)

/-- `pop()` as often as an instruction pops. -/
def Npx.pops : Nat → Npx → Npx
  | 0, n => n
  | k + 1, n => Npx.pops k n.pop

/-- The register that a push would make the top is empty (R170). -/
def Npx.canPush (n : Npx) : Bool := n.isEmpty (n.sw.top - 1)

/-- TOP goes down and the new top holds `x` (R22). -/
def Npx.pushRaw (n : Npx) (x : Ext) : Npx := (n.setReg (n.sw.top - 1) x).setTop (n.sw.top - 1)

/-- The flags of a stack fault: IE, SF, and C1 = 1 for overflow, 0 for underflow (R34). -/
def Npx.stackFault (n : Npx) (overflow : Bool) : Npx :=
  { n with sw := { n.sw with ie := true, sf := true, c1 := overflow } }

/-- A push on a full register: masked, the new top holds the indefinite (R170). -/
def Npx.stackOverflow (n : Npx) : Npx :=
  if n.masked .ie then (n.stackFault true).pushRaw indefinite else n.stackFault true

/-- `push(x)` (R170). -/
def Npx.push (n : Npx) (x : Ext) : Npx := if n.canPush then (n.pushRaw x).setC1 false else n.stackOverflow

/-- `st(i)`: none for an empty register (R172). -/
def Npx.st (n : Npx) (i : StIndex) : Option Ext := if n.isEmpty (n.phys i) then none else some (n.reg (n.phys i))

/-- `st(i)` as an operand with its class (R172). -/
def Npx.stOpnd (n : Npx) (i : StIndex) : Option Opnd := (n.st i).map opndOf

/-- The response to an empty source register: masked, the destination receives the indefinite and the
pops take place (R173). -/
def Npx.underflowInto (n : Npx) (dst : BitVec 3) (pops : Nat) : Npx :=
  if n.masked .ie then Npx.pops pops ((n.stackFault false).setReg dst indefinite) else n.stackFault false

/-- The response to an invalid operation with the result `x` (R162). -/
def Npx.invalidInto (n : Npx) (dst : BitVec 3) (pops : Nat) (x : Ext) : Npx :=
  let n := (n.signal .ie).setC1 false
  if n.masked .ie then Npx.pops pops (n.setReg dst x) else n

/-- An exact result: no flag, C1 = 0 (R37, assumption 14). -/
def Npx.exactInto (n : Npx) (dst : BitVec 3) (pops : Nat) (x : Ext) : Npx :=
  Npx.pops pops ((n.setReg dst x).setC1 false)

/-- A rounded result (R153, R168). -/
def Npx.deliverInto (n : Npx) (dst : BitVec 3) (pops : Nat) (r : Delivered) : Npx :=
  Npx.pops pops ((n.flagDelivered r).setReg dst r.img)

/-- The operand checks of R261 and R300, in the order of R161: invalid operands, NaN operands, the
instruction's own invalid case, denormal operands; then `k`. -/
def Npx.checked (n : Npx) (a b : Opnd) (invalid : Bool) (dst : BitVec 3) (pops : Nat) (k : Npx → Npx) : Npx :=
  if a.isInvalid || b.isInvalid then n.invalidInto dst pops (nanResult a b)
  else if a.isNan || b.isNan then n.exactInto dst pops (nanResult a b)
  else if invalid then n.invalidInto dst pops indefinite
  else if a.cls == .denormal || b.cls == .denormal then
    if n.masked .de then k (n.signal .de) else (n.signal .de).setC1 false
  else k n

/-- The state FINIT leaves: registers keep their contents (R61 to R64). -/
def Npx.init (n : Npx) : Npx :=
  { regs := n.regs, empty := Vector.replicate 8 true, sw := zeroStatus, cw := initControl }

/-- The tag word: 11B for an empty register, else `tagof` of its contents (R24, R25). -/
def Npx.tagWord (n : Npx) : BitVec 16 :=
  let tag (k : BitVec 3) : BitVec 2 := if n.isEmpty k then 3 else tagOf (n.reg k)
  tag 7 ++ tag 6 ++ tag 5 ++ tag 4 ++ tag 3 ++ tag 2 ++ tag 1 ++ tag 0

/-! ### Interrupts (R360, R376 to R383) -/

/-- The handler the launch supplies for a vector (R427). -/
def Launch.handler (l : Launch) : Interrupt → Option Handler
  | .deviceNotAvailable => l.handler7
  | .segmentOverrun => l.handler9
  | .generalProtection => l.handler13
  | .numericException => l.handler16

/-- The vector number (R383). -/
def Interrupt.number : Interrupt → Nat
  | .deviceNotAvailable => 7
  | .segmentOverrun => 9
  | .generalProtection => 13
  | .numericException => 16

/-- `here`: the address of the first byte of the instruction (R360). -/
def State.here (s : State) : FarPtr := ⟨s.cpu.segs.cs.selector, s.cpu.eip⟩

/-- `Interrupt(v, ret)` (R360, R383): the return address is saved, and the 80386 goes to the handler. No
NPX state and no pointer changes. -/
def State.takeInterrupt (s : State) (v : Interrupt) (ret : FarPtr) : State :=
  let entry : Taken := { vector := v, ret := ret, code := s.cpu.segs.cs }
  match s.launch.handler v with
  | some h =>
    { s with taken := entry :: s.taken
             cpu := { s.cpu with eip := h.eip, segs := { s.cpu.segs with cs := h.code } } }
  | none => { s with taken := entry :: s.taken }

/-- The host's return from a handler: execution resumes at the saved return address; nothing in the NPX
is restored (R383). No instruction of this model performs it (assumption 11). -/
def State.returnFromInterrupt (s : State) : State :=
  match s.taken with
  | [] => s
  | t :: ts =>
    { s with taken := ts
             cpu := { s.cpu with eip := t.ret.off
                                 segs := { s.cpu.segs with cs := { t.code with selector := t.ret.sel } } } }

/-- What step 2 of R361 finds. -/
inductive Entry
  /-- The instruction goes on. -/
  | run
  /-- It holds: nothing changes in this step. -/
  | hold
  /-- The 80386 takes an interrupt instead. -/
  | trap (v : Interrupt)
deriving DecidableEq, Repr

/-- BUSY# as the 80386 sees it: on the PC/AT connection the latch extends it (R53, R392). -/
def State.busyIn (s : State) : Bool := s.busy || (decide (s.params.platform = .pcAt) && s.busyLatch)

/-- ERROR# as the 80386 sees it: tied inactive on the PC/AT connection (R52, R390, R392). -/
def State.errorIn (s : State) : Bool := decide (s.params.platform = .standard) && s.npx.es

/-- The checks a waiting instruction makes: BUSY#, then ERROR# (R361 step 2). -/
def State.waitEntry (s : State) : Entry :=
  if s.busyIn then .hold else if s.errorIn then .trap .numericException else .run

/-- Steps 1 and 2 of R361. -/
def State.escEntry (s : State) (waiting : Bool) : Entry :=
  if s.cpu.em || s.cpu.ts then .trap .deviceNotAvailable
  else if waiting then s.waitEntry
  else .run

/-! ### Pointers and completion (R47, R175, R361) -/

/-- The two kinds of R360: waiting or not, numeric (replacing the pointers) or administrative. -/
structure EscKind where
  waiting : Bool
  numeric : Bool
deriving DecidableEq, Repr

/-- A numeric instruction: waiting, and it replaces the pointers (R175). -/
def numericKind : EscKind := ⟨true, true⟩

/-- A waiting administrative instruction: FLDCW, FLDENV, FRSTOR (R320). -/
def adminKind : EscKind := ⟨true, false⟩

/-- A no-wait administrative instruction (R371). -/
def noWaitKind : EscKind := ⟨false, false⟩

/-- A pointer register pair from a segment and an offset: selector and offset in protected mode, else a
linear address with a zero selector (92 D11). -/
def pointerOf (mode : CpuMode) (sel : BitVec 16) (off : BitVec 32) : BitVec 16 × BitVec 32 :=
  match mode with
  | .protectedMode => (sel, off)
  | .realAddress => (0, (sel.setWidth 32 <<< 4) + off)
  | .virtual8086 => (0, (sel.setWidth 32 <<< 4) + off)

/-- The pointers a numeric instruction leaves: its own address and opcode, its operand's address, or a
drawn data pointer when it has none (R47, R175). -/
def State.newPointers (s : State) (op : BitVec 11) (r : Option MemRef) : Pointers :=
  let ip := pointerOf s.cpu.mode s.cpu.segs.cs.selector s.cpu.eip
  match r with
  | some r =>
    let dp := pointerOf s.cpu.mode (s.cpu.segs.get r.seg).selector r.off
    { fip := ip.2, fcs := ip.1, fdp := dp.2, fds := dp.1, fop := op }
  | none =>
    { fip := ip.2, fcs := ip.1, fdp := Config.draw 32 .dataOffset s.draws, fds := Config.draw 16 .dataSelector s.draws
      fop := op }

/-- Step 4 of R361. -/
def State.startEsc (s : State) (k : EscKind) (op : BitVec 11) (r : Option MemRef) : State :=
  if k.numeric then { s with ptrs := s.newPointers op r } else s

/-- On the PC/AT connection ERROR#, rising between the states `s` and `t`, raises IRQ13, sets the BUSY# latch and
reactivates PEREQ (R82, R392). -/
def State.latchError (s t : State) : State :=
  let rising := decide (s.params.platform = .pcAt) && !s.npx.es && t.npx.es
  { t with irq13 := t.irq13 || rising, busyLatch := t.busyLatch || rising, pereqLatch := t.pereqLatch || rising }

/-- Step 7 of R361: `t` is the state the instruction's rule left. EIP moves past the instruction, BUSY#
and PEREQ of the NPX are inactive (R427) and its bus logic is idle (assumption 39). -/
def State.finish (s : State) (len : Nat) (t : State) : State :=
  s.latchError
    { t with cpu := { t.cpu with eip := t.cpu.eip + BitVec.ofNat 32 len }
             busy := false
             pereq := false
             bus := .ti
             draws := t.draws + 1 }

/-! ### Storing -/

/-- The bytes at a list of addresses take a number's bytes; under `SelfModifyingCode.refuse` they are recorded as
stored (R72, R426). -/
def State.storeAt (t : State) (as : List Nat) (v : Nat) : State :=
  { t with mem := t.mem.writeList as v
           stored := match t.params.selfModifyingCode with
             | .coherent => t.stored
             | .refuse => as ++ t.stored }

/-! ### Interrupt 9 (R381, U11, assumption 28) -/

/-- NPX registers of which each single value is drawn. -/
def drawNpx (p : Params) (regs : Nat → Draw) (empty sw cw : Draw) (d : Nat) : Npx where
  regs := Vector.ofFn fun k => Config.draw 80 (regs k.val) d
  empty := Vector.ofFn fun k => (Config.draw 8 empty d).getLsbD k.val
  sw := loadStatus (Config.draw 16 sw d)
  cw := readbackCw p.cwReadback (Config.draw 16 cw d)

/-- What an instruction does to TOP. -/
inductive StackMove
  /-- TOP stays. -/
  | stays
  /-- A push or pop adds this to TOP. -/
  | by (delta : BitVec 3)
  /-- TOP is written as a whole. -/
  | any
deriving DecidableEq, Repr

/-- What a memory form may write in the NPX, beside exception flags and condition bits. -/
structure FormWrites where
  /-- The stack registers whose contents or tags it writes. -/
  regs : List StIndex
  tags : List StIndex
  stack : StackMove
  control : Bool
deriving DecidableEq, Repr

/-- What the memory form with opcode bits `op` may write (R23, R32, files 41, 42, 44, 46). -/
def formWrites (op : BitVec 11) : FormWrites :=
  let all : List StIndex := [0, 1, 2, 3, 4, 5, 6, 7]
  match (op.extractLsb' 8 3).toNat, (op.extractLsb' 3 3).toNat with
  -- FCOM, FICOM and FCOMP, FICOMP
  | 0, 2 | 2, 2 | 4, 2 | 6, 2 => ⟨[], [], .stays, false⟩
  | 0, 3 | 2, 3 | 4, 3 | 6, 3 => ⟨[], [0], .by 1, false⟩
  -- the other arithmetic forms
  | 0, _ | 2, _ | 4, _ | 6, _ => ⟨[0], [0], .stays, false⟩
  -- FLD, FILD, FBLD
  | 1, 0 | 3, 0 | 5, 0 | 7, 0 | 3, 5 | 7, 4 | 7, 5 => ⟨[7], [7], .by 7, false⟩
  -- FST, FIST, FSTCW, FSTSW
  | 1, 2 | 3, 2 | 5, 2 | 7, 2 | 1, 7 | 5, 7 => ⟨[], [], .stays, false⟩
  -- FSTP, FISTP, FBSTP
  | 1, 3 | 3, 3 | 5, 3 | 7, 3 | 3, 7 | 7, 6 | 7, 7 => ⟨[], [0], .by 1, false⟩
  -- FLDCW, FSTENV
  | 1, 5 | 1, 6 => ⟨[], [], .stays, true⟩
  -- FLDENV, FSAVE
  | 1, 4 | 5, 6 => ⟨[], all, .any, true⟩
  -- FRSTOR
  | _, _ => ⟨all, all, .any, true⟩

/-- The NPX after interrupt 9 in the memory form `op`: what the instruction may write is drawn; whether its
push or pop happened is drawn; a flag that was set stays set unless the instruction loads or clears the flags;
nothing else changes (R381, U11). -/
def Npx.overrun (n : Npx) (p : Params) (op : BitVec 11) (d : Nat) : Npx :=
  let f := formWrites op
  let drawn := loadStatus (Config.draw 16 .overrunStatus d)
  { regs := Vector.ofFn fun k =>
      if f.regs.any fun j => n.phys j = BitVec.ofFin k then Config.draw 80 (.overrunReg k.val) d else n.reg (BitVec.ofFin k)
    empty := Vector.ofFn fun k =>
      if f.tags.any fun j => n.phys j = BitVec.ofFin k then (Config.draw 8 .overrunEmpty d).getLsbD k.val
      else n.isEmpty (BitVec.ofFin k)
    sw :=
      match f.stack with
      | .any => drawn
      | .stays => { n.sw.mergeFlags drawn with top := n.sw.top }
      | .by delta => { n.sw.mergeFlags drawn with top := if Config.drawBit .overrunMoved d then n.sw.top + delta else n.sw.top }
    cw := if f.control then readbackCw p.cwReadback (Config.draw 16 .overrunControl d) else n.cw }

/-- Interrupt 9 in the transfer of the operand of the memory form `op`: the return address, the pointers, what
the instruction writes in the NPX and the accessible bytes of a store are drawn. -/
def State.segmentOverrun (s : State) (op : BitVec 11) (r : MemRef) (n : Nat) (write : Bool) : State :=
  let d := s.draws
  let hit := ((List.range n).filter (s.cpu.segs.allowsByte r)).map (s.cpu.segs.address r)
  let stored := if write then s.storeAt hit (Config.draw (8 * n) .overrunBytes d).toNat else s
  let t : State :=
    { stored with
             npx := s.npx.overrun s.params op d
             ptrs := { fip := Config.draw 32 .overrunFip d, fcs := Config.draw 16 .overrunFcs d
                       fdp := Config.draw 32 .overrunFdp d, fds := Config.draw 16 .overrunFds d
                       fop := Config.draw 11 .overrunFop d }
             busy := false
             pereq := false
             bus := .ti
             draws := d + 1 }
  (s.latchError t).takeInterrupt .segmentOverrun ⟨Config.draw 16 .overrunRetSelector d, Config.draw 32 .overrunRetOffset d⟩

/-! ### The templates of an ESC instruction (R361) -/

/-- What a meaning answers. -/
abbrev Result := Host.Outcome State Fault Refusal

/-- An ESC instruction without a memory operand: opcode `op`, length `len`, effect `body`. -/
def State.escReg (s : State) (k : EscKind) (op : BitVec 11) (len : Nat) (body : State → State) : Result :=
  match s.escEntry k.waiting with
  | .trap v => .next (s.takeInterrupt v s.here)
  | .hold => .next s
  | .run => .next (s.finish len (body (s.startEsc k op none)))

/-- An ESC instruction with the `n`-byte memory operand `r`. -/
def State.escMem (s : State) (k : EscKind) (op : BitVec 11) (len : Nat) (r : MemRef) (n : Nat) (write : Bool)
    (body : State → State) : Result :=
  match s.escEntry k.waiting with
  | .trap v => .next (s.takeInterrupt v s.here)
  | .hold => .next s
  | .run =>
    if !s.cpu.segs.allowsBytes r (startWidth r n) then .next (s.takeInterrupt .generalProtection s.here)
    else if s.launch.hostFaultOn r n write then .fault .hostMemoryFault
    else if !s.cpu.segs.allowsBytes r n then .next (s.segmentOverrun op r n write)
    else .next (s.finish len (body (s.startEsc k op (some r))))

/-- FOP and length of a register form, group `grp` and second byte `b2` (R47, R105). -/
def State.regForm (s : State) (k : EscKind) (pre : List Prefix) (grp : BitVec 3) (b2 : Byte)
    (body : State → State) : Result :=
  s.escReg k (grp ++ b2) (pre.length + 2) body

/-- FOP and length of a memory form, group `grp` and `reg` field (R47, R105). -/
def State.memForm (s : State) (k : EscKind) (pre : List Prefix) (grp reg : BitVec 3) (m : MemArg) (n : Nat)
    (write : Bool) (body : MemRef → State → State) : Result :=
  let r := effectiveAddress s.cpu pre m
  s.escMem k (grp ++ m.modrm reg) (pre.length + 2 + m.tail.length) r n write (body r)

/-- A rule that reads and writes the NPX registers only, `d` being the number of its draws. -/
def onNpx (f : Nat → Npx → Npx) (t : State) : State := { t with npx := f t.draws t.npx }

/-- `MemRead` of an operand (R72). -/
def State.readOperand (t : State) (r : MemRef) (n : Nat) : Nat := t.mem.readList (t.cpu.segs.addresses r n)

/-- `MemWrite` of an operand (R72). -/
def State.writeOperand (t : State) (r : MemRef) (n v : Nat) : State :=
  t.storeAt (t.cpu.segs.addresses r n) v

/-- A rule that loads the `n`-byte operand `r`. -/
def loadThen (n : Nat) (f : Nat → Nat → Npx → Npx) (r : MemRef) (t : State) : State :=
  onNpx (fun d => f d (t.readOperand r n)) t

/-- What a storing rule does: the bits it stores, none when nothing is stored; whether it signals an unmasked
exception; the NPX registers afterwards. -/
structure StoreEffect where
  bits : Option Nat
  unmasked : Bool
  npx : Npx
deriving DecidableEq, Repr

/-- The bits that reach memory. On the PC/AT connection a store whose exception is unmasked may write undefined data
(R392). -/
def StoreEffect.written (e : StoreEffect) (p : Params) (n d : Nat) : Option Nat :=
  match p.platform, e.unmasked with
  | .pcAt, true => some (Config.draw (8 * n) .pcAtBytes d).toNat
  | _, _ => e.bits

/-- A rule that stores. -/
def storeThen (n : Nat) (f : Nat → Npx → StoreEffect) (r : MemRef) (t : State) : State :=
  let e := f t.draws t.npx
  let t' : State := { t with npx := e.npx }
  match e.written t.params n t.draws with
  | some v => t'.writeOperand r n v
  | none => t'

/-- A numeric instruction without a memory operand. -/
def State.numReg (s : State) (pre : List Prefix) (grp : BitVec 3) (b2 : Byte) (f : Nat → Npx → Npx) : Result :=
  s.regForm numericKind pre grp b2 (onNpx f)

/-- A numeric instruction that loads an `n`-byte operand. -/
def State.numLoad (s : State) (pre : List Prefix) (grp reg : BitVec 3) (m : MemArg) (n : Nat)
    (f : Nat → Nat → Npx → Npx) : Result :=
  s.memForm numericKind pre grp reg m n false (loadThen n f)

/-- A numeric instruction that stores an `n`-byte operand. -/
def State.numStore (s : State) (pre : List Prefix) (grp reg : BitVec 3) (m : MemArg) (n : Nat)
    (f : Nat → Npx → StoreEffect) : Result :=
  s.memForm numericKind pre grp reg m n true (storeThen n f)

/-! ### Events of the host side -/

/-- The RESET event (R410, R411): the NPX goes to the state after RESET, its data registers drawn (U10);
the pointers as after FINIT (92 D8). Its ERROR# rises unless it was active, and the PC/AT connection answers as always
(R392); a latch or request that is set stays set (DESIGN CHOICE, assumption 44). The bus logic is idle (R411). What RESET
does to the 80386 is not the NPX's and is left as it is (assumption 36). No instruction causes it. -/
def State.hardwareReset (s : State) : State :=
  s.latchError
  { s with npx := { regs := Vector.ofFn fun k => Config.draw 80 (.resetReg k.val) s.draws
                    empty := Vector.replicate 8 true
                    sw := loadStatus 0x0001
                    cw := 0x037E }
           ptrs := ⟨0, 0, 0, 0, 0⟩
           busy := false
           pereq := false
           bus := .ti
           draws := s.draws + 1 }

/-- A write of any value to I/O port F0H on the PC/AT connection clears the BUSY# latch and removes the reactivation
of PEREQ (R82, R392). No instruction of this model performs it. -/
def State.writePortF0 (s : State) : State := { s with busyLatch := false, pereqLatch := false }

end Sys2Proof.Machine
end

