-- ==== Sys2Proof/Machine/Arithmetic.lean ====
section
/-! DEFINITION. The arithmetic instructions (spec file 44): add, subtract, multiply, divide in all forms, FSQRT,
FSCALE, FPREM, FPREM1, FRNDINT, FXTRACT, FABS, FCHS. -/

namespace Sys2Proof.Machine

/-! ### The four operations on exact values (R261) -/

/-- The operations of `arith` (R261). -/
inductive ArithOp
  | add | sub | mul | div
deriving DecidableEq, Repr

/-- An infinity. -/
def Opnd.isInf (a : Opnd) : Bool := a.cls == .infinity

/-- A zero. -/
def Opnd.isZero (a : Opnd) : Bool := a.cls == .zero

/-- The sign of an operand. -/
def Opnd.neg (a : Opnd) : Bool := extSign a.img

/-- The operand with its sign inverted. -/
def Opnd.flip (a : Opnd) : Opnd := ⟨extNeg a.img, a.cls⟩

/-- The sign of a product or quotient. -/
def signXor (a b : Opnd) : Bool := a.neg ^^ b.neg

/-- The indeterminate forms (R261): (+inf)+(-inf), 0 x inf, 0/0, inf/inf. -/
def invalidPair (op : ArithOp) (a b : Opnd) : Bool :=
  match op with
  | .add => a.isInf && b.isInf && signXor a b
  | .sub => a.isInf && b.isInf && !signXor a b
  | .mul => (a.isZero && b.isInf) || (a.isInf && b.isZero)
  | .div => (a.isZero && b.isZero) || (a.isInf && b.isInf)

/-- The sum of operands one of which is an infinity, or both zeros, none for the rest (R261). -/
def sumSpecial (rc : RC) (a b : Opnd) : Option Ext :=
  if a.isInf then some a.img
  else if b.isInf then some b.img
  else if a.isZero && b.isZero then some (extZero (if signXor a b then rc == .down else a.neg))
  else none

/-- The exact special results (R261), none where the result is computed. -/
def specialResult (op : ArithOp) (rc : RC) (a b : Opnd) : Option Ext :=
  match op with
  | .add => sumSpecial rc a b
  | .sub => sumSpecial rc a b.flip
  | .mul =>
    if a.isInf || b.isInf then some (extInf (signXor a b))
    else if a.isZero || b.isZero then some (extZero (signXor a b))
    else none
  | .div =>
    if a.isInf then some (extInf (signXor a b))
    else if b.isInf || a.isZero then some (extZero (signXor a b))
    else none

/-- A finite exact result: sign, magnitude, and whether it is zero. -/
structure Exact where
  neg : Bool
  mag : Mag
  zero : Bool
deriving DecidableEq, Repr

/-- The exact sum. -/
def exactSum (a b : Val) : Exact :=
  let v := alignVals a b
  let t := v.1 + v.2.1
  { neg := decide (t < 0), mag := .ratio t.natAbs 1 v.2.2, zero := decide (t = 0) }

/-- The exact result of an operation on finite values, the divisor not zero. -/
def exactResult (op : ArithOp) (a b : Val) : Exact :=
  match op with
  | .add => exactSum a b
  | .sub => exactSum a { b with neg := !b.neg }
  | .mul => { neg := a.neg ^^ b.neg, mag := .ratio (a.m * b.m) 1 (a.k + b.k), zero := false }
  | .div => { neg := a.neg ^^ b.neg, mag := .ratio a.m b.m (a.k - b.k), zero := false }

/-- A result under the reserved PC = 01: its image, its exceptions and C1 are drawn (U3, assumption 17). -/
def drawnDelivered (d : Nat) : Delivered where
  img := Config.draw 80 .pcImage d
  oe := Config.drawBit .pcOverflow d
  ue := Config.drawBit .pcUnderflow d
  pe := Config.drawBit .pcInexact d
  c1 := Config.drawBit .pcC1 d

/-- `deliver(v, prec(CW.PC))` (R152, R153). -/
def Npx.deliverPc (n : Npx) (neg : Bool) (x : Mag) (d : Nat) : Delivered :=
  match n.precision with
  | some p => deliver n.rc (n.masked .oe) (n.masked .ue) neg x p d
  | none => drawnDelivered d

/-- `deliver(v, 64)`. -/
def Npx.deliver64 (n : Npx) (neg : Bool) (x : Mag) (d : Nat) : Delivered :=
  deliver n.rc (n.masked .oe) (n.masked .ue) neg x 64 d

/-- Steps 5 to 7 of R261, after the operand checks. A quotient by ±1 can overflow by its rounding to 24 or 53 bits, in
FIDIV too, which R275 reads as unable to: the model follows step 7 and signals OE (DESIGN CHOICE, assumption 45). -/
def arithFinite (op : ArithOp) (a b : Opnd) (dst : BitVec 3) (pops d : Nat) (n : Npx) : Npx :=
  if op = .div ∧ b.isZero ∧ !a.isInf then
    let n := (n.signal .ze).setC1 false
    if n.masked .ze then Npx.pops pops (n.setReg dst (extInf (signXor a b))) else n
  else
    match specialResult op n.rc a b with
    | some x => n.exactInto dst pops x
    | none =>
      let v := exactResult op (valOf a.img) (valOf b.img)
      if v.zero then n.exactInto dst pops (extZero (n.rc == .down))
      else n.deliverInto dst pops (n.deliverPc v.neg v.mag d)

/-- `arith(op, a, b, dst, pops)` (R261); `none` is an empty register. C3, C2, C0 are undefined (R260). -/
def arith (op : ArithOp) (a b : Option Opnd) (dst : BitVec 3) (pops d : Nat) (n : Npx) : Npx :=
  Npx.drawC320 (d := d) <|
    match a, b with
    | some a, some b => n.checked a b (invalidPair op a b) dst pops (arithFinite op a b dst pops d)
    | _, _ => n.underflowInto dst pops

/-- ST(0) <- ST(0) op b. -/
def arithTop (op : ArithOp) (b : Opnd) (d : Nat) (n : Npx) : Npx := arith op (n.stOpnd 0) (some b) (n.phys 0) 0 d n

/-- ST(0) <- b op ST(0). -/
def arithTopRev (op : ArithOp) (b : Opnd) (d : Nat) (n : Npx) : Npx := arith op (some b) (n.stOpnd 0) (n.phys 0) 0 d n

/-- A memory real as the source: ST(0) <- ST(0) op m. -/
def arithReal (f : Fmt) (op : ArithOp) (d v : Nat) (n : Npx) : Npx := arithTop op (f.opnd v) d n

/-- A memory real as the source of a reversed form: ST(0) <- m op ST(0). -/
def arithRealRev (f : Fmt) (op : ArithOp) (d v : Nat) (n : Npx) : Npx := arithTopRev op (f.opnd v) d n

/-- A memory integer as the source: ST(0) <- ST(0) op m. -/
def arithInt (bits : Nat) (op : ArithOp) (d v : Nat) (n : Npx) : Npx := arithTop op (intOpnd bits v) d n

/-- A memory integer as the source of a reversed form: ST(0) <- m op ST(0). -/
def arithIntRev (bits : Nat) (op : ArithOp) (d v : Nat) (n : Npx) : Npx := arithTopRev op (intOpnd bits v) d n

/-- ST(0) <- ST(0) op ST(i). -/
def arithStSti (op : ArithOp) (i : StIndex) (d : Nat) (n : Npx) : Npx :=
  arith op (n.stOpnd 0) (n.stOpnd i) (n.phys 0) 0 d n

/-- ST(0) <- ST(i) op ST(0). -/
def arithStStiRev (op : ArithOp) (i : StIndex) (d : Nat) (n : Npx) : Npx :=
  arith op (n.stOpnd i) (n.stOpnd 0) (n.phys 0) 0 d n

/-- ST(i) <- ST(i) op ST(0), then the pops. -/
def arithStiSt (op : ArithOp) (i : StIndex) (pops d : Nat) (n : Npx) : Npx :=
  arith op (n.stOpnd i) (n.stOpnd 0) (n.phys i) pops d n

/-- ST(i) <- ST(0) op ST(i), then the pops. -/
def arithStiStRev (op : ArithOp) (i : StIndex) (pops d : Nat) (n : Npx) : Npx :=
  arith op (n.stOpnd 0) (n.stOpnd i) (n.phys i) pops d n

/-! ### The other operations -/

/-- FSQRT (R280). -/
def fsqrt (d : Nat) (n : Npx) : Npx :=
  Npx.drawC320 (d := d) <|
    match n.stOpnd 0 with
    | none => n.underflowInto (n.phys 0) 0
    | some a =>
      n.checked a a (a.neg && !a.isZero) (n.phys 0) 0 fun n =>
        if a.isZero || a.isInf then n.exactInto (n.phys 0) 0 a.img
        else n.deliverInto (n.phys 0) 0 (n.deliverPc false (.root (valOf a.img).m (valOf a.img).k) d)

/-- A finite value truncated toward zero to an integer. -/
def truncVal (v : Val) : Int :=
  let q : Nat := shiftBy v.m v.k
  if v.neg then -(q : Int) else q

/-- FSCALE (R282). -/
def fscale (d : Nat) (n : Npx) : Npx :=
  Npx.drawC320 (d := d) <|
    match n.stOpnd 0, n.stOpnd 1 with
    | some a, some b =>
      let invalid := b.isInf && ((a.isZero && !b.neg) || (a.isInf && b.neg))
      n.checked a b invalid (n.phys 0) 0 fun n =>
        if b.isInf then n.exactInto (n.phys 0) 0 (if b.neg then extZero a.neg else extInf a.neg)
        else if a.isZero || a.isInf then n.exactInto (n.phys 0) 0 a.img
        else
          let v := valOf a.img
          n.deliverInto (n.phys 0) 0 (n.deliver64 v.neg (.ratio v.m 1 (v.k + truncVal (valOf b.img))) d)
    | _, _ => n.underflowInto (n.phys 0) 0

/-- `|x|/|y|` rounded to an integer: toward zero, or to nearest with ties to even (R283). -/
def remQuotient (nearest : Bool) (x y : Nat) : Nat :=
  let q := x / y
  let r2 := 2 * (x % y)
  if nearest && (decide (y < r2) || (r2 == y && q % 2 == 1)) then q + 1 else q

/-- A partial remainder: the remainder in units of `2^k`, and the quotient magnitude of a complete
reduction, none for an incomplete one (R283). -/
structure RemStep where
  rem : Int
  k : Int
  quotient : Option Nat
deriving DecidableEq, Repr

/-- The remainder of two finite nonzero values (R283). -/
def remStep (nearest : Bool) (x y : Val) : RemStep :=
  let a := alignVals x y
  let expDiff := x.log2 - y.log2
  let mx := a.1.natAbs
  let my := a.2.1.natAbs
  let sign : Int := if x.neg then -1 else 1
  if expDiff < 64 then
    let q := remQuotient nearest mx my
    { rem := sign * ((mx : Int) - q * my), k := a.2.2, quotient := some q }
  else
    let e := expDiff.toNat - Config.fpremN expDiff.toNat
    let qq := mx / (my <<< e)
    { rem := sign * ((mx : Int) - (qq * my) <<< e), k := a.2.2, quotient := none }

/-- The remainder delivered exactly, but for an unmasked underflow (R283, R167). -/
def Npx.remInto (n : Npx) (dst : BitVec 3) (neg : Bool) (r : RemStep) : Npx :=
  if r.rem = 0 then n.setReg dst (extZero neg)
  else
    let e := (Nat.log2 r.rem.natAbs : Int) + r.k
    if e < -16382 ∧ !n.masked .ue then
      (n.signal .ue).setReg dst (encodeExt (decide (r.rem < 0)) r.rem.natAbs (r.k + 24576))
    else n.setReg dst (encodeExt (decide (r.rem < 0)) r.rem.natAbs r.k)

/-- `fprem_step(mode)` (R283). The condition code after a masked stack underflow, a masked invalid operand
or a NaN is undefined, but for C1; an unmasked stop leaves it (assumption 25). -/
def fpremStep (nearest : Bool) (d : Nat) (n : Npx) : Npx :=
  match n.stOpnd 0, n.stOpnd 1 with
  | some a, some b =>
    let dst := n.phys 0
    if a.isInvalid || b.isInvalid then
      if n.masked .ie then ((n.signal .ie).setReg dst (nanResult a b)).drawCC d else n.signal .ie
    else if a.isNan || b.isNan then (n.setReg dst (nanResult a b)).drawCC d
    else if a.isInf || b.isZero then
      if n.masked .ie then ((n.signal .ie).setReg dst indefinite).drawCC d else n.signal .ie
    else
      let den := a.cls == .denormal || b.cls == .denormal
      let n' := n.signalIf den .de
      if den && !n.masked .de then n'
      else if b.isInf || a.isZero then (n'.setReg dst a.img).setQuotient 0
      else
        let r := remStep nearest (valOf a.img) (valOf b.img)
        match r.quotient with
        | some q => (n'.remInto dst a.neg r).setQuotient q
        | none => ((n'.remInto dst a.neg r).setCC false true false).setC1 false
  | _, _ => (n.underflowInto (n.phys 0) 0).drawC320 d

/-- FRNDINT (R287). -/
def frndint (d : Nat) (n : Npx) : Npx :=
  Npx.drawC320 (d := d) <|
    match n.stOpnd 0 with
    | none => n.underflowInto (n.phys 0) 0
    | some a =>
      n.checked a a false (n.phys 0) 0 fun n =>
        if a.isZero || a.isInf then n.exactInto (n.phys 0) 0 a.img
        else
          let v := valOf a.img
          let r := roundAt n.rc v.neg v.mag 0
          ((n.signalIf r.inexact .pe).setReg (n.phys 0) (encodeExt v.neg r.q 0)).setC1 r.roundup

/-- ST(0) is replaced by `x`, and `y` is pushed. -/
def Npx.pairInto (n : Npx) (x y : Ext) : Npx := (n.setReg (n.phys 0) x).pushRaw y

/-- The flags of an instruction that reads ST(0) and pushes, when ST(0) is empty or there is no room: with
both, C1 is drawn (assumption 26). -/
def Npx.pairFault (n : Npx) (d : Nat) : Npx :=
  if n.canPush then n.stackFault false
  else if n.isEmpty (n.phys 0) then (n.stackFault true).drawC1 d
  else n.stackFault true

/-- FXTRACT of a nonempty top with room below it (R288). -/
def fxtractRule (a : Opnd) (n : Npx) : Npx :=
  if a.isInvalid then
    let n := (n.signal .ie).setC1 false
    if n.masked .ie then n.pairInto (nanOf a) (nanOf a) else n
  else
    let n := n.setC1 false
    if a.isNan then n.pairInto a.img a.img
    else if a.isZero then
      let n := n.signal .ze
      if n.masked .ze then n.pairInto (extInf true) a.img else n
    else if a.isInf then n.pairInto (extInf false) a.img
    else
      let den := a.cls == .denormal
      let n := n.signalIf den .de
      if den && !n.masked .de then n
      else
        let v := valOf a.img
        n.pairInto (extOfInt v.log2) (encodeExt v.neg v.m (v.k - v.log2))

/-- FXTRACT (R288). -/
def fxtract (d : Nat) (n : Npx) : Npx :=
  Npx.drawC320 (d := d) <|
    match n.stOpnd 0, n.canPush with
    | some a, true => fxtractRule a n
    | _, _ => if n.masked .ie then (n.pairFault d).pairInto indefinite indefinite else n.pairFault d

/-- FABS, FCHS: every class is accepted (R290, R291). -/
def mapTop (f : Ext → Ext) (d : Nat) (n : Npx) : Npx :=
  Npx.drawC320 (d := d) <|
    match n.st 0 with
    | some x => n.exactInto (n.phys 0) 0 (f x)
    | none => n.underflowInto (n.phys 0) 0

/-! ### The instructions -/

/-- FADD single-real: D8 /0 (R262). -/
def execFaddSingleReal (pre : List Prefix) (m : MemArg) (s : State) : Result :=
  s.numLoad pre 0 0 m 4 (arithReal single .add)

/-- FADD double-real: DC /0 (R262). -/
def execFaddDoubleReal (pre : List Prefix) (m : MemArg) (s : State) : Result :=
  s.numLoad pre 4 0 m 8 (arithReal double .add)

/-- FADD ST,ST(i): D8 C0+i (R262). -/
def execFaddStSti (pre : List Prefix) (i : StIndex) (s : State) : Result :=
  s.numReg pre 0 (withLow 0xC0 i) (arithStSti .add i)

/-- FADD ST(i),ST: DC C0+i (R262). -/
def execFaddStiSt (pre : List Prefix) (i : StIndex) (s : State) : Result :=
  s.numReg pre 4 (withLow 0xC0 i) (arithStiSt .add i 0)

/-- FADDP ST(i),ST: DE C0+i (R265). -/
def execFaddpStiSt (pre : List Prefix) (i : StIndex) (s : State) : Result :=
  s.numReg pre 6 (withLow 0xC0 i) (arithStiSt .add i 1)

/-- FIADD word-integer: DE /0 (R270). -/
def execFiaddWordInteger (pre : List Prefix) (m : MemArg) (s : State) : Result :=
  s.numLoad pre 6 0 m 2 (arithInt 16 .add)

/-- FIADD short-integer: DA /0 (R270). -/
def execFiaddShortInteger (pre : List Prefix) (m : MemArg) (s : State) : Result :=
  s.numLoad pre 2 0 m 4 (arithInt 32 .add)

/-- FMUL single-real: D8 /1 (R266). -/
def execFmulSingleReal (pre : List Prefix) (m : MemArg) (s : State) : Result :=
  s.numLoad pre 0 1 m 4 (arithReal single .mul)

/-- FMUL double-real: DC /1 (R266). -/
def execFmulDoubleReal (pre : List Prefix) (m : MemArg) (s : State) : Result :=
  s.numLoad pre 4 1 m 8 (arithReal double .mul)

/-- FMUL ST,ST(i): D8 C8+i (R266). -/
def execFmulStSti (pre : List Prefix) (i : StIndex) (s : State) : Result :=
  s.numReg pre 0 (withLow 0xC8 i) (arithStSti .mul i)

/-- FMUL ST(i),ST: DC C8+i (R266). -/
def execFmulStiSt (pre : List Prefix) (i : StIndex) (s : State) : Result :=
  s.numReg pre 4 (withLow 0xC8 i) (arithStiSt .mul i 0)

/-- FMULP ST(i),ST: DE C8+i (R269). -/
def execFmulpStiSt (pre : List Prefix) (i : StIndex) (s : State) : Result :=
  s.numReg pre 6 (withLow 0xC8 i) (arithStiSt .mul i 1)

/-- FIMUL word-integer: DE /1 (R274). -/
def execFimulWordInteger (pre : List Prefix) (m : MemArg) (s : State) : Result :=
  s.numLoad pre 6 1 m 2 (arithInt 16 .mul)

/-- FIMUL short-integer: DA /1 (R274). -/
def execFimulShortInteger (pre : List Prefix) (m : MemArg) (s : State) : Result :=
  s.numLoad pre 2 1 m 4 (arithInt 32 .mul)

/-- FSUB single-real: D8 /4 (R263). -/
def execFsubSingleReal (pre : List Prefix) (m : MemArg) (s : State) : Result :=
  s.numLoad pre 0 4 m 4 (arithReal single .sub)

/-- FSUB double-real: DC /4 (R263). -/
def execFsubDoubleReal (pre : List Prefix) (m : MemArg) (s : State) : Result :=
  s.numLoad pre 4 4 m 8 (arithReal double .sub)

/-- FSUB ST,ST(i): D8 E0+i (R263). -/
def execFsubStSti (pre : List Prefix) (i : StIndex) (s : State) : Result :=
  s.numReg pre 0 (withLow 0xE0 i) (arithStSti .sub i)

/-- FSUB ST(i),ST: DC E8+i (R263). -/
def execFsubStiSt (pre : List Prefix) (i : StIndex) (s : State) : Result :=
  s.numReg pre 4 (withLow 0xE8 i) (arithStiSt .sub i 0)

/-- FSUBP ST(i),ST: DE E8+i (R273). -/
def execFsubpStiSt (pre : List Prefix) (i : StIndex) (s : State) : Result :=
  s.numReg pre 6 (withLow 0xE8 i) (arithStiSt .sub i 1)

/-- FISUB word-integer: DE /4 (R271). -/
def execFisubWordInteger (pre : List Prefix) (m : MemArg) (s : State) : Result :=
  s.numLoad pre 6 4 m 2 (arithInt 16 .sub)

/-- FISUB short-integer: DA /4 (R271). -/
def execFisubShortInteger (pre : List Prefix) (m : MemArg) (s : State) : Result :=
  s.numLoad pre 2 4 m 4 (arithInt 32 .sub)

/-- FSUBR single-real: D8 /5 (R264). -/
def execFsubrSingleReal (pre : List Prefix) (m : MemArg) (s : State) : Result :=
  s.numLoad pre 0 5 m 4 (arithRealRev single .sub)

/-- FSUBR double-real: DC /5 (R264). -/
def execFsubrDoubleReal (pre : List Prefix) (m : MemArg) (s : State) : Result :=
  s.numLoad pre 4 5 m 8 (arithRealRev double .sub)

/-- FSUBR ST,ST(i): D8 E8+i (R264). -/
def execFsubrStSti (pre : List Prefix) (i : StIndex) (s : State) : Result :=
  s.numReg pre 0 (withLow 0xE8 i) (arithStStiRev .sub i)

/-- FSUBR ST(i),ST: DC E0+i (R264). -/
def execFsubrStiSt (pre : List Prefix) (i : StIndex) (s : State) : Result :=
  s.numReg pre 4 (withLow 0xE0 i) (arithStiStRev .sub i 0)

/-- FSUBRP ST(i),ST: DE E0+i (R277). -/
def execFsubrpStiSt (pre : List Prefix) (i : StIndex) (s : State) : Result :=
  s.numReg pre 6 (withLow 0xE0 i) (arithStiStRev .sub i 1)

/-- FISUBR word-integer: DE /5 (R272). -/
def execFisubrWordInteger (pre : List Prefix) (m : MemArg) (s : State) : Result :=
  s.numLoad pre 6 5 m 2 (arithIntRev 16 .sub)

/-- FISUBR short-integer: DA /5 (R272). -/
def execFisubrShortInteger (pre : List Prefix) (m : MemArg) (s : State) : Result :=
  s.numLoad pre 2 5 m 4 (arithIntRev 32 .sub)

/-- FDIV single-real: D8 /6 (R267). -/
def execFdivSingleReal (pre : List Prefix) (m : MemArg) (s : State) : Result :=
  s.numLoad pre 0 6 m 4 (arithReal single .div)

/-- FDIV double-real: DC /6 (R267). -/
def execFdivDoubleReal (pre : List Prefix) (m : MemArg) (s : State) : Result :=
  s.numLoad pre 4 6 m 8 (arithReal double .div)

/-- FDIV ST,ST(i): D8 F0+i (R267). -/
def execFdivStSti (pre : List Prefix) (i : StIndex) (s : State) : Result :=
  s.numReg pre 0 (withLow 0xF0 i) (arithStSti .div i)

/-- FDIV ST(i),ST: DC F8+i (R267). -/
def execFdivStiSt (pre : List Prefix) (i : StIndex) (s : State) : Result :=
  s.numReg pre 4 (withLow 0xF8 i) (arithStiSt .div i 0)

/-- FDIVP ST(i),ST: DE F8+i (R278). -/
def execFdivpStiSt (pre : List Prefix) (i : StIndex) (s : State) : Result :=
  s.numReg pre 6 (withLow 0xF8 i) (arithStiSt .div i 1)

/-- FIDIV word-integer: DE /6 (R275; that it can overflow is assumption 45). -/
def execFidivWordInteger (pre : List Prefix) (m : MemArg) (s : State) : Result :=
  s.numLoad pre 6 6 m 2 (arithInt 16 .div)

/-- FIDIV short-integer: DA /6 (R275; that it can overflow is assumption 45). -/
def execFidivShortInteger (pre : List Prefix) (m : MemArg) (s : State) : Result :=
  s.numLoad pre 2 6 m 4 (arithInt 32 .div)

/-- FDIVR single-real: D8 /7 (R268). -/
def execFdivrSingleReal (pre : List Prefix) (m : MemArg) (s : State) : Result :=
  s.numLoad pre 0 7 m 4 (arithRealRev single .div)

/-- FDIVR double-real: DC /7 (R268). -/
def execFdivrDoubleReal (pre : List Prefix) (m : MemArg) (s : State) : Result :=
  s.numLoad pre 4 7 m 8 (arithRealRev double .div)

/-- FDIVR ST,ST(i): D8 F8+i (R268). -/
def execFdivrStSti (pre : List Prefix) (i : StIndex) (s : State) : Result :=
  s.numReg pre 0 (withLow 0xF8 i) (arithStStiRev .div i)

/-- FDIVR ST(i),ST: DC F0+i (R268). -/
def execFdivrStiSt (pre : List Prefix) (i : StIndex) (s : State) : Result :=
  s.numReg pre 4 (withLow 0xF0 i) (arithStiStRev .div i 0)

/-- FDIVRP ST(i),ST: DE F0+i (R279). -/
def execFdivrpStiSt (pre : List Prefix) (i : StIndex) (s : State) : Result :=
  s.numReg pre 6 (withLow 0xF0 i) (arithStiStRev .div i 1)

/-- FIDIVR word-integer: DE /7 (R276). -/
def execFidivrWordInteger (pre : List Prefix) (m : MemArg) (s : State) : Result :=
  s.numLoad pre 6 7 m 2 (arithIntRev 16 .div)

/-- FIDIVR short-integer: DA /7 (R276). -/
def execFidivrShortInteger (pre : List Prefix) (m : MemArg) (s : State) : Result :=
  s.numLoad pre 2 7 m 4 (arithIntRev 32 .div)

/-- FSQRT: D9 FA (R280). -/
def execFsqrt (pre : List Prefix) (s : State) : Result := s.numReg pre 1 0xFA fsqrt

/-- FSCALE: D9 FD (R282). -/
def execFscale (pre : List Prefix) (s : State) : Result := s.numReg pre 1 0xFD fscale

/-- FPREM: D9 F8 (R284). -/
def execFprem (pre : List Prefix) (s : State) : Result := s.numReg pre 1 0xF8 (fpremStep false)

/-- FPREM1: D9 F5 (R285). -/
def execFprem1 (pre : List Prefix) (s : State) : Result := s.numReg pre 1 0xF5 (fpremStep true)

/-- FRNDINT: D9 FC (R287). -/
def execFrndint (pre : List Prefix) (s : State) : Result := s.numReg pre 1 0xFC frndint

/-- FXTRACT: D9 F4 (R288). -/
def execFxtract (pre : List Prefix) (s : State) : Result := s.numReg pre 1 0xF4 fxtract

/-- FABS: D9 E1 (R290). -/
def execFabs (pre : List Prefix) (s : State) : Result := s.numReg pre 1 0xE1 (mapTop extAbs)

/-- FCHS: D9 E0 (R291). -/
def execFchs (pre : List Prefix) (s : State) : Result := s.numReg pre 1 0xE0 (mapTop extNeg)

end Sys2Proof.Machine
end

