-- ==== Sys2Proof/Machine/Comparison.lean ====
section
/-! DEFINITION. The comparison instructions (spec file 42): FCOM, FCOMP, FCOMPP, FICOM, FICOMP, FTST, FUCOM,
FUCOMP, FUCOMPP, FXAM. -/

namespace Sys2Proof.Machine

/-! ### Shared operations -/

/-- `cmp(a, b, unordered_quiet)` and the pops (R230). `none` is an empty register. An unmasked invalid or
denormal operand leaves C3, C2, C0. -/
def compareOperands (quietNan : Bool) (pops : Nat) (a b : Option Opnd) (n : Npx) : Npx :=
  match a, b with
  | some a, some b =>
    let n := n.setC1 false
    if a.isInvalid || b.isInvalid || (!quietNan && (a.isNan || b.isNan)) then
      if n.masked .ie then Npx.pops pops ((n.signal .ie).setOrder .unordered) else n.signal .ie
    else if a.isNan || b.isNan then Npx.pops pops (n.setOrder .unordered)
    else if a.cls == .denormal || b.cls == .denormal then
      if n.masked .de then Npx.pops pops ((n.signal .de).setOrder (compareOpnd a b)) else n.signal .de
    else Npx.pops pops (n.setOrder (compareOpnd a b))
  | _, _ =>
    if n.masked .ie then Npx.pops pops ((n.stackFault false).setOrder .unordered) else n.stackFault false

/-- The comparison with ST(i). -/
def compareStack (quietNan : Bool) (pops : Nat) (i : StIndex) (_ : Nat) (n : Npx) : Npx :=
  compareOperands quietNan pops (n.stOpnd 0) (n.stOpnd i) n

/-- The comparison with a memory real. -/
def compareReal (f : Fmt) (pops : Nat) (_ v : Nat) (n : Npx) : Npx :=
  compareOperands false pops (n.stOpnd 0) (some (f.opnd v)) n

/-- The comparison with an integer of `bits` bits. -/
def compareInt (bits : Nat) (pops : Nat) (_ v : Nat) (n : Npx) : Npx :=
  compareOperands false pops (n.stOpnd 0) (some (intOpnd bits v)) n

/-- FXAM (R240): the class of the top register, and its sign even when it is empty. -/
def examine (_ : Nat) (n : Npx) : Npx :=
  let x := n.reg (n.phys 0)
  let n' := n.setC1 (extSign x)
  if n.isEmpty (n.phys 0) then n'.setCC true false true else n'.setClass (classOf x)

/-! ### The instructions -/

/-- FCOM single-real: D8 /2 (R231). -/
def execFcomSingleReal (pre : List Prefix) (m : MemArg) (s : State) : Result := s.numLoad pre 0 2 m 4 (compareReal single 0)

/-- FCOM double-real: DC /2 (R231). -/
def execFcomDoubleReal (pre : List Prefix) (m : MemArg) (s : State) : Result := s.numLoad pre 4 2 m 8 (compareReal double 0)

/-- FCOM ST(i): D8 D0+i (R231). -/
def execFcomSti (pre : List Prefix) (i : StIndex) (s : State) : Result :=
  s.numReg pre 0 (withLow 0xD0 i) (compareStack false 0 i)

/-- FCOMP single-real: D8 /3 (R232). -/
def execFcompSingleReal (pre : List Prefix) (m : MemArg) (s : State) : Result := s.numLoad pre 0 3 m 4 (compareReal single 1)

/-- FCOMP double-real: DC /3 (R232). -/
def execFcompDoubleReal (pre : List Prefix) (m : MemArg) (s : State) : Result := s.numLoad pre 4 3 m 8 (compareReal double 1)

/-- FCOMP ST(i): D8 D8+i (R232). -/
def execFcompSti (pre : List Prefix) (i : StIndex) (s : State) : Result :=
  s.numReg pre 0 (withLow 0xD8 i) (compareStack false 1 i)

/-- FCOMPP: DE D9 (R233). -/
def execFcompp (pre : List Prefix) (s : State) : Result := s.numReg pre 6 0xD9 (compareStack false 2 1)

/-- FICOM word-integer: DE /2 (R234). -/
def execFicomWordInteger (pre : List Prefix) (m : MemArg) (s : State) : Result := s.numLoad pre 6 2 m 2 (compareInt 16 0)

/-- FICOM short-integer: DA /2 (R234). -/
def execFicomShortInteger (pre : List Prefix) (m : MemArg) (s : State) : Result := s.numLoad pre 2 2 m 4 (compareInt 32 0)

/-- FICOMP word-integer: DE /3 (R235). -/
def execFicompWordInteger (pre : List Prefix) (m : MemArg) (s : State) : Result := s.numLoad pre 6 3 m 2 (compareInt 16 1)

/-- FICOMP short-integer: DA /3 (R235). -/
def execFicompShortInteger (pre : List Prefix) (m : MemArg) (s : State) : Result := s.numLoad pre 2 3 m 4 (compareInt 32 1)

/-- FTST: D9 E4 (R236): the comparison with +0.0. -/
def execFtst (pre : List Prefix) (s : State) : Result :=
  s.numReg pre 1 0xE4 fun _ n => compareOperands false 0 (n.stOpnd 0) (some (opndOf (extZero false))) n

/-- FUCOM ST(i): DD E0+i (R237). -/
def execFucomSti (pre : List Prefix) (i : StIndex) (s : State) : Result :=
  s.numReg pre 5 (withLow 0xE0 i) (compareStack true 0 i)

/-- FUCOMP ST(i): DD E8+i (R238). -/
def execFucompSti (pre : List Prefix) (i : StIndex) (s : State) : Result :=
  s.numReg pre 5 (withLow 0xE8 i) (compareStack true 1 i)

/-- FUCOMPP: DA E9 (R239). -/
def execFucompp (pre : List Prefix) (s : State) : Result := s.numReg pre 2 0xE9 (compareStack true 2 1)

/-- FXAM: D9 E5 (R240). -/
def execFxam (pre : List Prefix) (s : State) : Result := s.numReg pre 1 0xE5 examine

end Sys2Proof.Machine
end

