-- ==== Sys2Proof/Machine/Constants.lean ====
section
/-! DEFINITION. The constant instructions (spec file 43): FLDZ, FLD1, FLDPI, FLDL2T, FLDL2E, FLDLG2, FLDLN2. -/

namespace Sys2Proof.Machine

/-! ### The constants (R250 to R257) -/

/-- The larger image for nearest and up, the smaller one for down and chop (R253, R255 to R257). -/
def byNearestUp (low high : Ext) : RC → Ext
  | .nearest => high
  | .down => low
  | .up => high
  | .chop => low

/-- Pi (R253). -/
def constPi : RC → Ext := byNearestUp 0x4000C90FDAA22168C234 0x4000C90FDAA22168C235

/-- log2(10): the larger image for up only (R254). -/
def constL2t : RC → Ext
  | .up => 0x4000D49A784BCD1B8AFF
  | _ => 0x4000D49A784BCD1B8AFE

/-- log2(e) (R255). -/
def constL2e : RC → Ext := byNearestUp 0x3FFFB8AA3B295C17F0BB 0x3FFFB8AA3B295C17F0BC

/-- log10(2) (R256). -/
def constLg2 : RC → Ext := byNearestUp 0x3FFD9A209A84FBCFF798 0x3FFD9A209A84FBCFF799

/-- loge(2) (R257). -/
def constLn2 : RC → Ext := byNearestUp 0x3FFEB17217F7D1CF79AB 0x3FFEB17217F7D1CF79AC

/-- `push(K(CW.RC))`; C3, C2, C0 are undefined (R250). -/
def pushConstant (k : RC → Ext) (d : Nat) (n : Npx) : Npx := (n.push (k n.rc)).drawC320 d

/-! ### The instructions -/

/-- FLDZ: D9 EE (R251). -/
def execFldz (pre : List Prefix) (s : State) : Result := s.numReg pre 1 0xEE (pushConstant fun _ => extZero false)

/-- FLD1: D9 E8 (R252). -/
def execFld1 (pre : List Prefix) (s : State) : Result := s.numReg pre 1 0xE8 (pushConstant fun _ => extOne)

/-- FLDPI: D9 EB (R253). -/
def execFldpi (pre : List Prefix) (s : State) : Result := s.numReg pre 1 0xEB (pushConstant constPi)

/-- FLDL2T: D9 E9 (R254). -/
def execFldl2t (pre : List Prefix) (s : State) : Result := s.numReg pre 1 0xE9 (pushConstant constL2t)

/-- FLDL2E: D9 EA (R255). -/
def execFldl2e (pre : List Prefix) (s : State) : Result := s.numReg pre 1 0xEA (pushConstant constL2e)

/-- FLDLG2: D9 EC (R256). -/
def execFldlg2 (pre : List Prefix) (s : State) : Result := s.numReg pre 1 0xEC (pushConstant constLg2)

/-- FLDLN2: D9 ED (R257). -/
def execFldln2 (pre : List Prefix) (s : State) : Result := s.numReg pre 1 0xED (pushConstant constLn2)

end Sys2Proof.Machine
end

