-- ==== Sys2Proof/Machine/Environment.lean ====
section
/-! DEFINITION. The environment and full-state images of FLDENV, FSTENV, FRSTOR, FSAVE in their four formats
(R335, R338, 92 D11, assumption 29). -/

namespace Sys2Proof.Machine

/-- The size of an environment image: 14 or 28 bytes (R113, R335). -/
def envSize : Size → Nat
  | .s16 => 14
  | .s32 => 28

/-- The size of a full-state image: 94 or 108 bytes (R113, R338). -/
def stateSize (z : Size) : Nat := envSize z + 80

/-- Whether the real-address formats are in use: real-address and virtual-8086 mode (R335). -/
def usesRealFormat : CpuMode → Bool
  | .realAddress => true
  | .virtual8086 => true
  | .protectedMode => false

/-- A drawn RESERVED field at a byte offset (R335, U15). -/
def reservedField (off d : Nat) : BitVec 16 := Config.draw 16 (.reservedField off) d

/-- Fields of `w` bits as one number, the first least significant (R335). -/
def packFields (w : Nat) : List (BitVec w) → Nat
  | [] => 0
  | f :: fs => f.toNat + 2 ^ w * packFields w fs

/-- Field `k` of `w` bits of an image (R335). -/
def fieldOf (w v k : Nat) : BitVec w := BitVec.ofNat w (v >>> (w * k))

/-- Bits 15..0 of a pointer. -/
def ptrLow (p : BitVec 32) : BitVec 16 := p.extractLsb' 0 16

/-- Bits 31..16 of a pointer. -/
def ptrHigh (p : BitVec 32) : BitVec 16 := p.extractLsb' 16 16

/-- Figure 2.3: 32-bit protected mode format. -/
def envProtected32 (n : Npx) (p : Pointers) (d : Nat) : List (BitVec 32) :=
  [reservedField 0x02 d ++ n.cw, reservedField 0x06 d ++ n.statusWord, reservedField 0x0A d ++ n.tagWord, p.fip,
   reservedField 0x12 d ++ p.fcs, p.fdp, reservedField 0x1A d ++ p.fds]

/-- Figure 2.4: 32-bit real-address mode format. -/
def envReal32 (n : Npx) (p : Pointers) (d : Nat) : List (BitVec 32) :=
  [reservedField 0x02 d ++ n.cw, reservedField 0x06 d ++ n.statusWord, reservedField 0x0A d ++ n.tagWord,
   reservedField 0x0E d ++ ptrLow p.fip, ((0 : BitVec 4) ++ ptrHigh p.fip) ++ ((0 : BitVec 1) ++ p.fop),
   reservedField 0x16 d ++ ptrLow p.fdp, ((0 : BitVec 4) ++ ptrHigh p.fdp) ++ (0 : BitVec 12)]

/-- Figure 2.5: 16-bit protected mode format. -/
def envProtected16 (n : Npx) (p : Pointers) : List (BitVec 16) :=
  [n.cw, n.statusWord, n.tagWord, ptrLow p.fip, p.fcs, ptrLow p.fdp, p.fds]

/-- Figure 2.6: 16-bit real-address mode and virtual-8086 mode format. -/
def envReal16 (n : Npx) (p : Pointers) : List (BitVec 16) :=
  [n.cw, n.statusWord, n.tagWord, ptrLow p.fip, p.fip.extractLsb' 16 4 ++ ((0 : BitVec 1) ++ p.fop), ptrLow p.fdp,
   p.fdp.extractLsb' 16 4 ++ (0 : BitVec 12)]

/-- The environment image (R335). -/
def envImage (real : Bool) (z : Size) (n : Npx) (p : Pointers) (d : Nat) : Nat :=
  match z, real with
  | .s32, false => packFields 32 (envProtected32 n p d)
  | .s32, true => packFields 32 (envReal32 n p d)
  | .s16, false => packFields 16 (envProtected16 n p)
  | .s16, true => packFields 16 (envReal16 n p)

/-- The word at field `k` of an environment image: the low word of a 32-bit field. -/
def envWord (z : Size) (v k : Nat) : BitVec 16 :=
  match z with
  | .s16 => fieldOf 16 v k
  | .s32 => (fieldOf 32 v k).extractLsb' 0 16

/-- The pointers a load leaves: the fields the format holds, the others unchanged (R336, 92 D11). -/
def loadPointers (real : Bool) (z : Size) (v : Nat) (p : Pointers) : Pointers :=
  match z, real with
  | .s32, false =>
    { p with fip := fieldOf 32 v 3, fcs := envWord .s32 v 4, fdp := fieldOf 32 v 5, fds := envWord .s32 v 6 }
  | .s32, true =>
    { p with fip := (fieldOf 32 v 4).extractLsb' 12 16 ++ envWord .s32 v 3, fop := (fieldOf 32 v 4).extractLsb' 0 11
             fdp := (fieldOf 32 v 6).extractLsb' 12 16 ++ envWord .s32 v 5 }
  | .s16, false =>
    { p with fip := (envWord .s16 v 3).setWidth 32, fcs := envWord .s16 v 4
             fdp := (envWord .s16 v 5).setWidth 32, fds := envWord .s16 v 6 }
  | .s16, true =>
    { p with fip := ((envWord .s16 v 4).extractLsb' 12 4 ++ envWord .s16 v 3).setWidth 32
             fop := (envWord .s16 v 4).extractLsb' 0 11
             fdp := ((envWord .s16 v 6).extractLsb' 12 4 ++ envWord .s16 v 5).setWidth 32 }

/-- Bit `k` of the tags a tag word loads: only empty (11B) is kept (R25, R336). -/
def tagEmpty (w : BitVec 16) (k : Nat) : Bool := w.extractLsb' (2 * k) 2 == 3

/-- The NPX registers after the environment part of a load: control word, status word, tags (R336, R41). -/
def loadEnvNpx (p : Params) (z : Size) (v : Nat) (n : Npx) : Npx :=
  { regs := n.regs
    cw := readbackCw p.cwReadback (envWord z v 0)
    sw := loadStatus (envWord z v 1)
    empty := Vector.ofFn fun k => tagEmpty (envWord z v 2) k.val }

/-- The environment part of FLDENV and FRSTOR (R336). -/
def State.loadEnv (t : State) (z : Size) (v : Nat) : State :=
  { t with npx := loadEnvNpx t.params z v t.npx
           ptrs := loadPointers (usesRealFormat t.cpu.mode) z v t.ptrs }

/-- The eight registers in stack order (R338). -/
def stackImage (n : Npx) : Nat :=
  packFields 80 [n.reg (n.phys 0), n.reg (n.phys 1), n.reg (n.phys 2), n.reg (n.phys 3), n.reg (n.phys 4),
    n.reg (n.phys 5), n.reg (n.phys 6), n.reg (n.phys 7)]

/-- The registers of an image, by the TOP already loaded (R338, R339): R[(TOP + i) mod 8] is element `i`. -/
def loadStack (v : Nat) (n : Npx) : Npx :=
  { n with regs := Vector.ofFn fun k => fieldOf 80 v (BitVec.ofNat 3 k.val - n.sw.top).toNat }

/-- The full-state image (R338). -/
def stateImage (real : Bool) (z : Size) (n : Npx) (p : Pointers) (d : Nat) : Nat :=
  envImage real z n p d + 2 ^ (8 * envSize z) * stackImage n

/-- The environment image of a state. -/
def State.envImageOf (t : State) (z : Size) : Nat := envImage (usesRealFormat t.cpu.mode) z t.npx t.ptrs t.draws

/-- The full-state image of a state. -/
def State.stateImageOf (t : State) (z : Size) : Nat := stateImage (usesRealFormat t.cpu.mode) z t.npx t.ptrs t.draws

end Sys2Proof.Machine
end

