-- ==== Sys2Proof/Machine/Control.lean ====
section
/-! DEFINITION. The processor control instructions (spec file 46) and WAIT: FINIT, FCLEX, FLDCW, FSTCW, FSTSW,
FSTENV, FLDENV, FSAVE, FRSTOR, FINCSTP, FDECSTP, FFREE, FNOP and its aliases. The ESC instruction itself is
meant, that is the no-wait form where there are two (R320). -/

namespace Sys2Proof.Machine

/-! ### Shared operations -/

/-- C3..C0 are undefined after the instruction (R36, R320). -/
def State.drawCC (t : State) : State := onNpx (fun d n => n.drawCC d) t

/-- The operand-size attribute in effect (R106, R113). -/
def State.operandSize (s : State) (pre : List Prefix) : Size :=
  if pre.contains .opSize then
    match s.cpu.operandSize with
    | .s16 => .s32
    | .s32 => .s16
  else s.cpu.operandSize

/-- The kind of FNSTCW: whether it checks ERROR# is a parameter (R371, 90 C10, assumption 37). -/
def fstcwKind (p : Params) : EscKind := if p.fnstcwChecksError then adminKind else noWaitKind

/-- FNINIT on NPX and pointers (R325). -/
def State.init (t : State) : State := { t with npx := t.npx.init, ptrs := ⟨0, 0, 0, 0, 0⟩ }

/-- FNCLEX (R333): the exception flags and SF are cleared. -/
def clearExceptions (n : Npx) : Npx :=
  { n with sw := { n.sw with ie := false, de := false, ze := false, oe := false, ue := false, pe := false, sf := false } }

/-- `CW[5:0] <- 111111B` (R337). -/
def maskAll (n : Npx) : Npx := { n with cw := n.cw ||| 0x003F }

/-- `AX <- v`; the upper half of EAX stays (R327). -/
def Gprs.setAx (g : Gprs) (v : BitVec 16) : Gprs := { g with eax := g.eax.extractLsb' 16 16 ++ v }

/-- FSTSW AX (R327). -/
def State.storeStatusAx (t : State) : State :=
  State.drawCC { t with cpu := { t.cpu with gprs := t.cpu.gprs.setAx t.npx.statusWord } }

/-- FLDCW (R330, R44, R45). -/
def State.loadControl (r : MemRef) (t : State) : State :=
  State.drawCC { t with npx := { t.npx with cw := readbackCw t.params.cwReadback (BitVec.ofNat 16 (t.readOperand r 2)) } }

/-- FSTENV (R337). -/
def State.storeEnv (z : Size) (r : MemRef) (t : State) : State :=
  State.drawCC (onNpx (fun _ => maskAll) (t.writeOperand r (envSize z) (t.envImageOf z)))

/-- FSAVE (R340). -/
def State.saveState (z : Size) (r : MemRef) (t : State) : State :=
  (t.writeOperand r (stateSize z) (t.stateImageOf z)).init

/-- FLDENV (R336). -/
def State.loadEnvironment (z : Size) (r : MemRef) (t : State) : State := t.loadEnv z (t.readOperand r (envSize z))

/-- FRSTOR (R339). -/
def State.restoreState (z : Size) (r : MemRef) (t : State) : State :=
  let v := t.readOperand r (stateSize z)
  onNpx (fun _ => loadStack (v >>> (8 * envSize z))) (t.loadEnv z v)

/-- FNOP and its aliases: the condition code is drawn (R348, R349, 92 D12, D14). -/
def nopRule (d : Nat) (n : Npx) : Npx := n.drawCC d

/-! ### The instructions -/

/-- FINIT / FNINIT: DB E3 (R325). -/
def execFinit (pre : List Prefix) (s : State) : Result := s.regForm noWaitKind pre 3 0xE3 State.init

/-- FSTSW AX / FNSTSW AX: DF E0 (R327). -/
def execFstswAx (pre : List Prefix) (s : State) : Result := s.regForm noWaitKind pre 7 0xE0 State.storeStatusAx

/-- FSTSW / FNSTSW to memory: DD /7 (R328). -/
def execFstsw (pre : List Prefix) (m : MemArg) (s : State) : Result :=
  s.memForm noWaitKind pre 5 7 m 2 true fun r t => (t.writeOperand r 2 t.npx.statusWord.toNat).drawCC

/-- FLDCW: D9 /5 (R330). -/
def execFldcw (pre : List Prefix) (m : MemArg) (s : State) : Result :=
  s.memForm adminKind pre 1 5 m 2 false State.loadControl

/-- FSTCW / FNSTCW: D9 /7 (R331). -/
def execFstcw (pre : List Prefix) (m : MemArg) (s : State) : Result :=
  s.memForm (fstcwKind s.params) pre 1 7 m 2 true fun r t => (t.writeOperand r 2 t.npx.cw.toNat).drawCC

/-- FCLEX / FNCLEX: DB E2 (R333). -/
def execFclex (pre : List Prefix) (s : State) : Result :=
  s.regForm noWaitKind pre 3 0xE2 fun t => (onNpx (fun _ => clearExceptions) t).drawCC

/-- FLDENV: D9 /4 (R336). -/
def execFldenv (pre : List Prefix) (m : MemArg) (s : State) : Result :=
  s.memForm adminKind pre 1 4 m (envSize (s.operandSize pre)) false (State.loadEnvironment (s.operandSize pre))

/-- FSTENV / FNSTENV: D9 /6 (R337). -/
def execFstenv (pre : List Prefix) (m : MemArg) (s : State) : Result :=
  s.memForm noWaitKind pre 1 6 m (envSize (s.operandSize pre)) true (State.storeEnv (s.operandSize pre))

/-- FRSTOR: DD /4 (R339). -/
def execFrstor (pre : List Prefix) (m : MemArg) (s : State) : Result :=
  s.memForm adminKind pre 5 4 m (stateSize (s.operandSize pre)) false (State.restoreState (s.operandSize pre))

/-- FSAVE / FNSAVE: DD /6 (R340). -/
def execFsave (pre : List Prefix) (m : MemArg) (s : State) : Result :=
  s.memForm noWaitKind pre 5 6 m (stateSize (s.operandSize pre)) true (State.saveState (s.operandSize pre))

/-- FINCSTP: D9 F7 (R345). -/
def execFincstp (pre : List Prefix) (s : State) : Result :=
  s.numReg pre 1 0xF7 fun d n => ((n.setTop (n.sw.top + 1)).setC1 false).drawC320 d

/-- FDECSTP: D9 F6 (R346). -/
def execFdecstp (pre : List Prefix) (s : State) : Result :=
  s.numReg pre 1 0xF6 fun d n => ((n.setTop (n.sw.top - 1)).setC1 false).drawC320 d

/-- FFREE ST(i): DD C0+i (R347). -/
def execFfreeSti (pre : List Prefix) (i : StIndex) (s : State) : Result :=
  s.numReg pre 5 (withLow 0xC0 i) fun d n => (n.free (n.phys i)).drawCC d

/-- FNOP: D9 D0 (R348). -/
def execFnop (pre : List Prefix) (s : State) : Result := s.numReg pre 1 0xD0 nopRule

/-- FENI: DB E0 (R349). -/
def execFeni (pre : List Prefix) (s : State) : Result := s.numReg pre 3 0xE0 nopRule

/-- FDISI: DB E1 (R349). -/
def execFdisi (pre : List Prefix) (s : State) : Result := s.numReg pre 3 0xE1 nopRule

/-- FSETPM: DB E4 (R349). -/
def execFsetpm (pre : List Prefix) (s : State) : Result := s.numReg pre 3 0xE4 nopRule

/-- WAIT / FWAIT: 9B (R350). It changes no NPX state and no pointer. -/
def execWait (pre : List Prefix) (s : State) : Result :=
  if s.cpu.ts && s.cpu.mp then .next (s.takeInterrupt .deviceNotAvailable s.here)
  else
    match s.waitEntry with
    | .trap v => .next (s.takeInterrupt v s.here)
    | .hold => .next s
    | .run => .next (s.finish (pre.length + 1) s)

end Sys2Proof.Machine
end

