-- ==== Sys2Proof/Machine/DataTransfer.lean ====
section
/-! DEFINITION. The data transfer instructions (spec file 41): FLD, FST, FSTP, FXCH, FILD, FIST, FISTP,
FBLD, FBSTP. C3, C2, C0 are undefined after each of them (R200). -/

namespace Sys2Proof.Machine

/-! ### Shared operations -/

/-- FLD of a memory real (R201, R202). -/
def fldReal (f : Fmt) (d v : Nat) (n : Npx) : Npx :=
  let o := f.opnd v
  Npx.drawC320 (d := d) <|
    if !n.canPush then n.stackOverflow
    else if o.cls == .snan then
      if n.masked .ie then (n.signal .ie).push (quiet o.img) else (n.signal .ie).setC1 false
    else if o.cls == .denormal then
      if n.masked .de then (n.signal .de).push o.img else (n.signal .de).setC1 false
    else n.push o.img

/-- A push of an image (R203, R212, R217, R250). -/
def pushImage (x : Ext) (d : Nat) (n : Npx) : Npx := (n.push x).drawC320 d

/-- FLD ST(i) (R204). An empty source loads the indefinite when IM = 1; if the
destination is full as well, C1 is drawn (U6). -/
def fldStack (i : StIndex) (d : Nat) (n : Npx) : Npx :=
  Npx.drawC320 (d := d) <|
    match n.st i with
    | some x => n.push x
    | none =>
      if n.masked .ie then
        if n.canPush then (n.stackFault false).pushRaw indefinite
        else ((n.stackFault false).pushRaw indefinite).drawC1 d
      else n.stackFault false

/-- The bits a store to memory writes, and the state after it: `conv` is the conversion of ST(0), `ind` the
indefinite of the format, stored for an empty register (R206, R214, R218). The pop follows a store. -/
def storeTop (conv : Npx → Ext → Stored) (ind : Nat) (pops : Nat) (d : Nat) (n : Npx) : StoreEffect :=
  match n.st 0 with
  | none =>
    if n.masked .ie then ⟨some ind, false, (Npx.pops pops (n.stackFault false)).drawC320 d⟩
    else ⟨none, true, (n.stackFault false).drawC320 d⟩
  | some x =>
    let r := conv n x
    ⟨r.bits, n.unmaskedBy r, (Npx.pops (if r.bits.isSome then pops else 0) (n.flagStored r)).drawC320 d⟩

/-- The conversion to a memory real (R183). -/
def convReal (f : Fmt) (n : Npx) (x : Ext) : Stored := f.narrow n.rc (n.masked .ie) (n.masked .oe) (n.masked .ue) x

/-- The conversion to an integer (R184). -/
def convInt (bits : Nat) (n : Npx) (x : Ext) : Stored := intOfExt bits n.rc (n.masked .ie) x

/-- The conversion to packed BCD (R185). -/
def convBcd (n : Npx) (x : Ext) : Stored := bcdOfExt n.rc (n.masked .ie) x

/-- The bit-for-bit store of an extended real (R209). -/
def convExt (_ : Npx) (x : Ext) : Stored := storedExact x.toNat

/-- FST ST(i), FSTP ST(i) (R208, R210). -/
def fstStack (i : StIndex) (pops : Nat) (d : Nat) (n : Npx) : Npx :=
  Npx.drawC320 (d := d) <|
    match n.st 0 with
    | some x => n.exactInto (n.phys i) pops x
    | none => n.underflowInto (n.phys i) pops

/-- An empty register takes the indefinite, a nonempty one stays (R173, R211). -/
def Npx.fillEmpty (n : Npx) (k : BitVec 3) : Npx := if n.isEmpty k then n.setReg k indefinite else n

/-- FXCH ST(i) (R211). -/
def fxchStack (i : StIndex) (d : Nat) (n : Npx) : Npx :=
  let a := n.phys 0
  let b := n.phys i
  Npx.drawC320 (d := d) <|
    if n.isEmpty a || n.isEmpty b then
      if n.masked .ie then (((n.stackFault false).fillEmpty a).fillEmpty b).swapRegs a b else n.stackFault false
    else (n.swapRegs a b).setC1 false

/-- FBLD (R217): a digit A to F leaves a drawn register (U5, assumption 19). -/
def fbld (d v : Nat) (n : Npx) : Npx := pushImage ((extOfBcd v).getD (Config.draw 80 .bcdDigits d)) d n

/-! ### The instructions -/

/-- FLD single-real: D9 /0 (R201). -/
def execFldSingleReal (pre : List Prefix) (m : MemArg) (s : State) : Result := s.numLoad pre 1 0 m 4 (fldReal single)

/-- FLD double-real: DD /0 (R202). -/
def execFldDoubleReal (pre : List Prefix) (m : MemArg) (s : State) : Result := s.numLoad pre 5 0 m 8 (fldReal double)

/-- FLD extended-real: DB /5 (R203). -/
def execFldExtendedReal (pre : List Prefix) (m : MemArg) (s : State) : Result :=
  s.numLoad pre 3 5 m 10 fun d v => pushImage (BitVec.ofNat 80 v) d

/-- FLD ST(i): D9 C0+i (R204). -/
def execFldSti (pre : List Prefix) (i : StIndex) (s : State) : Result :=
  s.numReg pre 1 (withLow 0xC0 i) (fldStack i)

/-- FST single-real: D9 /2 (R206). -/
def execFstSingleReal (pre : List Prefix) (m : MemArg) (s : State) : Result :=
  s.numStore pre 1 2 m 4 (storeTop (convReal single) single.indefinite 0)

/-- FST double-real: DD /2 (R206). -/
def execFstDoubleReal (pre : List Prefix) (m : MemArg) (s : State) : Result :=
  s.numStore pre 5 2 m 8 (storeTop (convReal double) double.indefinite 0)

/-- FSTP single-real: D9 /3 (R207). -/
def execFstpSingleReal (pre : List Prefix) (m : MemArg) (s : State) : Result :=
  s.numStore pre 1 3 m 4 (storeTop (convReal single) single.indefinite 1)

/-- FSTP double-real: DD /3 (R207). -/
def execFstpDoubleReal (pre : List Prefix) (m : MemArg) (s : State) : Result :=
  s.numStore pre 5 3 m 8 (storeTop (convReal double) double.indefinite 1)

/-- FSTP extended-real: DB /7 (R209). -/
def execFstpExtendedReal (pre : List Prefix) (m : MemArg) (s : State) : Result :=
  s.numStore pre 3 7 m 10 (storeTop convExt indefinite.toNat 1)

/-- FST ST(i): DD D0+i (R208). -/
def execFstSti (pre : List Prefix) (i : StIndex) (s : State) : Result :=
  s.numReg pre 5 (withLow 0xD0 i) (fstStack i 0)

/-- FSTP ST(i): DD D8+i (R210). -/
def execFstpSti (pre : List Prefix) (i : StIndex) (s : State) : Result :=
  s.numReg pre 5 (withLow 0xD8 i) (fstStack i 1)

/-- FXCH ST(i): D9 C8+i (R211). -/
def execFxchSti (pre : List Prefix) (i : StIndex) (s : State) : Result :=
  s.numReg pre 1 (withLow 0xC8 i) (fxchStack i)

/-- FILD word-integer: DF /0 (R212). -/
def execFildWordInteger (pre : List Prefix) (m : MemArg) (s : State) : Result :=
  s.numLoad pre 7 0 m 2 fun d v => pushImage (extOfInt (intOf 16 v)) d

/-- FILD short-integer: DB /0 (R212). -/
def execFildShortInteger (pre : List Prefix) (m : MemArg) (s : State) : Result :=
  s.numLoad pre 3 0 m 4 fun d v => pushImage (extOfInt (intOf 32 v)) d

/-- FILD long-integer: DF /5 (R213). -/
def execFildLongInteger (pre : List Prefix) (m : MemArg) (s : State) : Result :=
  s.numLoad pre 7 5 m 8 fun d v => pushImage (extOfInt (intOf 64 v)) d

/-- FIST word-integer: DF /2 (R214). -/
def execFistWordInteger (pre : List Prefix) (m : MemArg) (s : State) : Result :=
  s.numStore pre 7 2 m 2 (storeTop (convInt 16) (intIndefinite 16) 0)

/-- FIST short-integer: DB /2 (R214). -/
def execFistShortInteger (pre : List Prefix) (m : MemArg) (s : State) : Result :=
  s.numStore pre 3 2 m 4 (storeTop (convInt 32) (intIndefinite 32) 0)

/-- FISTP word-integer: DF /3 (R215). -/
def execFistpWordInteger (pre : List Prefix) (m : MemArg) (s : State) : Result :=
  s.numStore pre 7 3 m 2 (storeTop (convInt 16) (intIndefinite 16) 1)

/-- FISTP short-integer: DB /3 (R215). -/
def execFistpShortInteger (pre : List Prefix) (m : MemArg) (s : State) : Result :=
  s.numStore pre 3 3 m 4 (storeTop (convInt 32) (intIndefinite 32) 1)

/-- FISTP long-integer: DF /7 (R216). -/
def execFistpLongInteger (pre : List Prefix) (m : MemArg) (s : State) : Result :=
  s.numStore pre 7 7 m 8 (storeTop (convInt 64) (intIndefinite 64) 1)

/-- FBLD packed-decimal: DF /4 (R217). -/
def execFbldPackedDecimal (pre : List Prefix) (m : MemArg) (s : State) : Result := s.numLoad pre 7 4 m 10 fbld

/-- FBSTP packed-decimal: DF /6 (R218). -/
def execFbstpPackedDecimal (pre : List Prefix) (m : MemArg) (s : State) : Result :=
  s.numStore pre 7 6 m 10 (storeTop convBcd bcdIndefinite 1)

end Sys2Proof.Machine
end

