-- ==== Sys2Proof/Machine/Reserved.lean ====
section
/-! DEFINITION. The encodings Appendix A marks reserved (R122): interrupts 7 and 16 come first, as for every ESC
instruction; then the parameter `reserved_esc` says what the NPX does (93 U1, assumption 16). -/

namespace Sys2Proof.Machine

/-- The NPX state after a reserved encoding under `ReservedEsc.draw`: every value drawn. -/
def drawReserved (t : State) : State :=
  { t with npx := drawNpx t.params .reservedReg .reservedEmpty .reservedStatus .reservedControl t.draws }

/-- A reserved ESC encoding (R122): no meaning, or an FNOP-like no-operation with all NPX state drawn. -/
def State.escReserved (s : State) (op : BitVec 11) (len : Nat) : Result :=
  match s.params.reservedEsc with
  | .draw => s.escReg numericKind op len drawReserved
  | .refuse =>
    match s.escEntry true with
    | .trap v => .next (s.takeInterrupt v s.here)
    | .hold => .next s
    | .run => .refused .reservedEncoding

/-- A reserved register form. -/
def State.reservedReg (s : State) (pre : List Prefix) (grp : BitVec 3) (b2 : Byte) : Result :=
  s.escReserved (grp ++ b2) (pre.length + 2)

/-- A reserved memory form. The size of its operand is not known, so the operand is not checked. -/
def State.reservedMem (s : State) (pre : List Prefix) (grp reg : BitVec 3) (m : MemArg) : Result :=
  s.escReserved (grp ++ m.modrm reg) (pre.length + 2 + m.tail.length)

/-! ### The encodings -/

/-- D9 /1, reserved (R122). -/
def execReservedD9mem1 (pre : List Prefix) (m : MemArg) (s : State) : Result := s.reservedMem pre 1 1 m

/-- D9 D1, reserved (R122). -/
def execReservedD9rD1 (pre : List Prefix) (s : State) : Result := s.reservedReg pre 1 0xD1

/-- D9 D2 to D3, reserved (R122). -/
def execReservedD9rD2toD3 (pre : List Prefix) (k : BitVec 1) (s : State) : Result :=
  s.reservedReg pre 1 (withLow 0xD2 k)

/-- D9 D4 to D7, reserved (R122). -/
def execReservedD9rD4toD7 (pre : List Prefix) (k : BitVec 2) (s : State) : Result :=
  s.reservedReg pre 1 (withLow 0xD4 k)

/-- D9 D8 to DF, reserved (R122). -/
def execReservedD9rD8toDF (pre : List Prefix) (k : BitVec 3) (s : State) : Result :=
  s.reservedReg pre 1 (withLow 0xD8 k)

/-- D9 E2, reserved (R122). -/
def execReservedD9rE2 (pre : List Prefix) (s : State) : Result := s.reservedReg pre 1 0xE2

/-- D9 E3, reserved (R122). -/
def execReservedD9rE3 (pre : List Prefix) (s : State) : Result := s.reservedReg pre 1 0xE3

/-- D9 E6, reserved (R122). -/
def execReservedD9rE6 (pre : List Prefix) (s : State) : Result := s.reservedReg pre 1 0xE6

/-- D9 E7, reserved (R122). -/
def execReservedD9rE7 (pre : List Prefix) (s : State) : Result := s.reservedReg pre 1 0xE7

/-- D9 EF, reserved (R122). -/
def execReservedD9rEF (pre : List Prefix) (s : State) : Result := s.reservedReg pre 1 0xEF

/-- DA C0 to DF, reserved (R122). -/
def execReservedDArC0toDF (pre : List Prefix) (k : BitVec 5) (s : State) : Result :=
  s.reservedReg pre 2 (withLow 0xC0 k)

/-- DA E0 to E7, reserved (R122). -/
def execReservedDArE0toE7 (pre : List Prefix) (k : BitVec 3) (s : State) : Result :=
  s.reservedReg pre 2 (withLow 0xE0 k)

/-- DA E8, reserved (R122). -/
def execReservedDArE8 (pre : List Prefix) (s : State) : Result := s.reservedReg pre 2 0xE8

/-- DA EA to EB, reserved (R122). -/
def execReservedDArEAtoEB (pre : List Prefix) (k : BitVec 1) (s : State) : Result :=
  s.reservedReg pre 2 (withLow 0xEA k)

/-- DA EC to EF, reserved (R122). -/
def execReservedDArECtoEF (pre : List Prefix) (k : BitVec 2) (s : State) : Result :=
  s.reservedReg pre 2 (withLow 0xEC k)

/-- DA F0 to FF, reserved (R122). -/
def execReservedDArF0toFF (pre : List Prefix) (k : BitVec 4) (s : State) : Result :=
  s.reservedReg pre 2 (withLow 0xF0 k)

/-- DB /1, reserved (R122). -/
def execReservedDBmem1 (pre : List Prefix) (m : MemArg) (s : State) : Result := s.reservedMem pre 3 1 m

/-- DB /4, reserved (R122). -/
def execReservedDBmem4 (pre : List Prefix) (m : MemArg) (s : State) : Result := s.reservedMem pre 3 4 m

/-- DB /6, reserved (R122). -/
def execReservedDBmem6 (pre : List Prefix) (m : MemArg) (s : State) : Result := s.reservedMem pre 3 6 m

/-- DB C0 to DF, reserved (R122). -/
def execReservedDBrC0toDF (pre : List Prefix) (k : BitVec 5) (s : State) : Result :=
  s.reservedReg pre 3 (withLow 0xC0 k)

/-- DB E5, reserved (R122). -/
def execReservedDBrE5 (pre : List Prefix) (s : State) : Result := s.reservedReg pre 3 0xE5

/-- DB E6 to E7, reserved (R122). -/
def execReservedDBrE6toE7 (pre : List Prefix) (k : BitVec 1) (s : State) : Result :=
  s.reservedReg pre 3 (withLow 0xE6 k)

/-- DB E8 to EF, reserved (R122). -/
def execReservedDBrE8toEF (pre : List Prefix) (k : BitVec 3) (s : State) : Result :=
  s.reservedReg pre 3 (withLow 0xE8 k)

/-- DB F0 to FF, reserved (R122). -/
def execReservedDBrF0toFF (pre : List Prefix) (k : BitVec 4) (s : State) : Result :=
  s.reservedReg pre 3 (withLow 0xF0 k)

/-- DC D0 to DF, reserved (R122). -/
def execReservedDCrD0toDF (pre : List Prefix) (k : BitVec 4) (s : State) : Result :=
  s.reservedReg pre 4 (withLow 0xD0 k)

/-- DD /1, reserved (R122). -/
def execReservedDDmem1 (pre : List Prefix) (m : MemArg) (s : State) : Result := s.reservedMem pre 5 1 m

/-- DD /5, reserved (R122). -/
def execReservedDDmem5 (pre : List Prefix) (m : MemArg) (s : State) : Result := s.reservedMem pre 5 5 m

/-- DD C8 to CF, reserved (R122). -/
def execReservedDDrC8toCF (pre : List Prefix) (k : BitVec 3) (s : State) : Result :=
  s.reservedReg pre 5 (withLow 0xC8 k)

/-- DD F0 to FF, reserved (R122). -/
def execReservedDDrF0toFF (pre : List Prefix) (k : BitVec 4) (s : State) : Result :=
  s.reservedReg pre 5 (withLow 0xF0 k)

/-- DE D0 to D7, reserved (R122). -/
def execReservedDErD0toD7 (pre : List Prefix) (k : BitVec 3) (s : State) : Result :=
  s.reservedReg pre 6 (withLow 0xD0 k)

/-- DE D8, reserved (R122). -/
def execReservedDErD8 (pre : List Prefix) (s : State) : Result := s.reservedReg pre 6 0xD8

/-- DE DA to DB, reserved (R122). -/
def execReservedDErDAtoDB (pre : List Prefix) (k : BitVec 1) (s : State) : Result :=
  s.reservedReg pre 6 (withLow 0xDA k)

/-- DE DC to DF, reserved (R122). -/
def execReservedDErDCtoDF (pre : List Prefix) (k : BitVec 2) (s : State) : Result :=
  s.reservedReg pre 6 (withLow 0xDC k)

/-- DF /1, reserved (R122). -/
def execReservedDFmem1 (pre : List Prefix) (m : MemArg) (s : State) : Result := s.reservedMem pre 7 1 m

/-- DF C0 to DF, reserved (R122). -/
def execReservedDFrC0toDF (pre : List Prefix) (k : BitVec 5) (s : State) : Result :=
  s.reservedReg pre 7 (withLow 0xC0 k)

/-- DF E1, reserved (R122). -/
def execReservedDFrE1 (pre : List Prefix) (s : State) : Result := s.reservedReg pre 7 0xE1

/-- DF E2 to E3, reserved (R122). -/
def execReservedDFrE2toE3 (pre : List Prefix) (k : BitVec 1) (s : State) : Result :=
  s.reservedReg pre 7 (withLow 0xE2 k)

/-- DF E4 to E7, reserved (R122). -/
def execReservedDFrE4toE7 (pre : List Prefix) (k : BitVec 2) (s : State) : Result :=
  s.reservedReg pre 7 (withLow 0xE4 k)

/-- DF E8 to EF, reserved (R122). -/
def execReservedDFrE8toEF (pre : List Prefix) (k : BitVec 3) (s : State) : Result :=
  s.reservedReg pre 7 (withLow 0xE8 k)

/-- DF F0 to FF, reserved (R122). -/
def execReservedDFrF0toFF (pre : List Prefix) (k : BitVec 4) (s : State) : Result :=
  s.reservedReg pre 7 (withLow 0xF0 k)

end Sys2Proof.Machine
end

