-- ==== Sys2Proof/Machine/Transcendental.lean ====
section
/-! DEFINITION. The transcendental instructions (spec file 45): FCOS, FSIN, FSINCOS, FPTAN, FPATAN, F2XM1, FYL2X,
FYL2XP1. Their numerical results are the uninterpreted functions of R300 (assumption 21). -/

namespace Sys2Proof.Machine

/-! ### Shared operations -/

/-- A result of a one-operand function on a nonzero operand (R300). Its exact value is irrational there, hence it is
always inexact (DEDUCED, assumption 21); the sine of a tiny operand is tiny (R302). -/
def Npx.transc1 (n : Npx) (f : Transc1) (x : Ext) : Delivered :=
  let v := Config.transc1 f x n.rc
  let tiny := f == .sin && extExp x == 0 && !x.getLsbD 63
  deliverInexact (n.masked .ue) (if tiny then tinyImage v.img else finiteImage v.img) v.roundup

/-- A result of a two-operand function on nonzero operands that is always inexact (R300, assumption 21). -/
def Npx.transc2 (n : Npx) (f : Transc2) (y x : Ext) : Delivered :=
  let v := Config.transc2 f y x n.rc
  deliverInexact (n.masked .ue) (finiteImage v.img) v.roundup

/-- The exact value of y·log2(x) when `x` is a power of two other than 1: the only case in which it is rational
(assumption 21). -/
def exactLog (y x : Val) : Option Val :=
  if 2 ^ Nat.log2 x.m = x.m then some { neg := y.neg ^^ decide (x.log2 < 0), m := y.m * x.log2.natAbs, k := y.k } else none

/-- A value whose significand needs no rounding to 64 bits. -/
def Val.representable (v : Val) : Bool := !(roundTo .chop v.neg v.mag 64).inexact

/-- The exponent of a drawn y·log2(x). The magnitude of such a product is at least 2^-16510
and below 2^16399. -/
def logExponent (v : TranscLog) : Int := (min v.exp.toNat 32908 : Nat) - 16510

/-- A drawn y·log2(x), rounded to 64 bits with unbounded exponent. -/
def logRounded (v : TranscLog) : Rounded :=
  { q := 2 ^ 63 + v.frac.toNat, t := logExponent v - 63, inexact := true, roundup := v.roundup }

/-- A magnitude that `logRounded` is the rounding of, on the side that `roundup` tells: every coarser rounding of it, such as
the denormalization of R167, is that of the exact value. -/
def logMag (v : TranscLog) : Mag :=
  let r := logRounded v
  .ratio (if v.roundup then 4 * r.q - 1 else 4 * r.q + 1) 1 (r.t - 2)

/-- y·log2(x) of positive `x` and nonzero `y` (R308): the exact value, if it has 64 bits and `transc` says so; else a
rounded result. Either passes through the tests for overflow and underflow (R153, R166, R167). -/
def Npx.ylog2x (n : Npx) (y x : Ext) (d : Nat) : Delivered :=
  let v := Config.ylog2x y x n.rc
  let rounded := deliverRounded n.rc (n.masked .oe) (n.masked .ue) v.neg (logMag v) 64 (logRounded v) d
  match exactLog (valOf y) (valOf x) with
  | some e => if e.representable && !v.inexact then n.deliver64 e.neg e.mag d else rounded
  | none => rounded

/-- y·log2(x + 1) in the range of R309. For a zero `y`, for which R309 names no value, the exact value is a zero: the
result is a zero of either sign, or an inexact free value (DESIGN CHOICE, assumption 42). -/
def Npx.ylog2xp1 (n : Npx) (y x : Ext) : Delivered :=
  let v := Config.transc2 .ylog2xp1 y x n.rc
  if classOf y = .zero ∧ !v.inexact then { img := extZero (extSign v.img), oe := false, ue := false, pe := false, c1 := false }
  else n.transc2 .ylog2xp1 y x

/-- `|val(x)| >= 2^63` (R301). -/
def Opnd.tooLarge (a : Opnd) : Bool := decide (63 ≤ (valOf a.img).log2)

/-- The common checks of the trigonometric instructions (R300, R301, R305): `put` writes the result of a NaN or
invalid operand, `k` computes. C2 is drawn where the operand is a NaN or a masked invalid one, and stays
after an unmasked stop (assumption 25). -/
def trigRule (put : Npx → Ext → Npx) (k : Npx → Npx) (d : Nat) (a : Opnd) (n : Npx) : Npx :=
  if a.isInvalid || a.isInf then
    let n := (n.signal .ie).setC1 false
    if n.masked .ie then (put n (nanOf a)).drawC2 d else n
  else if a.isNan then (put (n.setC1 false) (nanOf a)).drawC2 d
  else
    let den := a.cls == .denormal
    let n := n.signalIf den .de
    if den && !n.masked .de then n.setC1 false
    else if a.tooLarge then (n.setC2 true).drawC1 d
    else k (n.setC2 false)

/-- FSIN, FCOS (R301, R302): `atZero` is the exact result for a zero. -/
def trigTop (f : Transc1) (atZero : Ext → Ext) (d : Nat) (n : Npx) : Npx :=
  Npx.drawC30 (d := d) <|
    match n.stOpnd 0 with
    | none =>
      if n.masked .ie then (n.underflowInto (n.phys 0) 0).drawC2 d else n.underflowInto (n.phys 0) 0
    | some a =>
      let put := fun (n : Npx) x => n.setReg (n.phys 0) x
      let k := fun (n : Npx) =>
        if a.isZero then n.exactInto (n.phys 0) 0 (atZero a.img)
        else n.deliverInto (n.phys 0) 0 (n.transc1 f a.img)
      trigRule put k d a n

/-- The masked response of FSINCOS and FPTAN to a stack fault; `y` is the value pushed (R303, R305). -/
def trigPairFault (y : Ext) (d : Nat) (n : Npx) : Npx :=
  if n.masked .ie then ((n.pairFault d).pairInto indefinite y).drawC2 d else n.pairFault d

/-- FSINCOS (R305): PE if either result is inexact, C1 from the cosine. -/
def fsincos (d : Nat) (n : Npx) : Npx :=
  Npx.drawC30 (d := d) <|
    match n.stOpnd 0, n.canPush with
    | some a, true =>
      let k := fun (n : Npx) =>
        if a.isZero then (n.setC1 false).pairInto a.img extOne
        else
          let s := n.transc1 .sin a.img
          let c := n.transc1 .cos a.img
          ((n.flagDelivered s).flagDelivered c).pairInto s.img c.img
      trigRule (fun n x => n.pairInto x x) k d a n
    | _, _ => trigPairFault indefinite d n

/-- FPTAN (R303): 1.0 is always pushed, beside a NaN, an indefinite or a response to an empty register too (R162,
assumption 24); only when there is no room are both the indefinite. -/
def fptan (d : Nat) (n : Npx) : Npx :=
  Npx.drawC30 (d := d) <|
    match n.stOpnd 0, n.canPush with
    | some a, true =>
      let k := fun (n : Npx) =>
        if a.isZero then (n.setC1 false).pairInto a.img extOne
        else
          let t := n.transc1 .tan a.img
          (n.flagDelivered t).pairInto t.img extOne
      trigRule (fun n x => n.pairInto x extOne) k d a n
    | _, _ => trigPairFault (if n.canPush then extOne else indefinite) d n

/-- Pi/2 (R306): pi of R253 with the exponent one lower. -/
def constHalfPi : RC → Ext := byNearestUp 0x3FFFC90FDAA22168C234 0x3FFFC90FDAA22168C235

/-- Pi/4 (R306): pi of R253 with the exponent two lower. -/
def constQuarterPi : RC → Ext := byNearestUp 0x3FFEC90FDAA22168C234 0x3FFEC90FDAA22168C235

/-- 3pi/4 (R306), rounded to 64 bits by RC. -/
def constThreeQuarterPi : RC → Ext := byNearestUp 0x400096CBE3F9990E91A7 0x400096CBE3F9990E91A8

/-- The special values of FPATAN (R306): an exact zero, or a multiple of pi, with the sign of y; none for the
rest. `y` is ST(1), `x` is ST(0). -/
inductive AtanCase
  | zero
  | multiple (k : RC → Ext)
  | computed

/-- Which special value of FPATAN applies (R306). -/
def atanCase (y x : Opnd) : AtanCase :=
  if y.isZero then (if x.neg then .multiple constPi else .zero)
  else if x.isZero then .multiple constHalfPi
  else if x.isInf then
    if y.isInf then .multiple (if x.neg then constThreeQuarterPi else constQuarterPi)
    else if x.neg then .multiple constPi
    else .zero
  else if y.isInf then .multiple constHalfPi
  else .computed

/-- A constant with a sign, rounded: PE, and C1 tells whether its magnitude went up (assumption 23). -/
def deliverConstant (rc : RC) (neg : Bool) (k : RC → Ext) : Delivered where
  img := if neg then extNeg (k rc) else k rc
  oe := false
  ue := false
  pe := true
  c1 := rc == .nearest || rc == .up

/-- FPATAN (R306). -/
def fpatan (d : Nat) (n : Npx) : Npx :=
  Npx.drawC320 (d := d) <|
    match n.stOpnd 1, n.stOpnd 0 with
    | some y, some x =>
      n.checked y x false (n.phys 1) 1 fun n =>
        match atanCase y x with
        | .zero => n.exactInto (n.phys 1) 1 (extZero y.neg)
        | .multiple k => n.deliverInto (n.phys 1) 1 (deliverConstant n.rc y.neg k)
        | .computed => n.deliverInto (n.phys 1) 1 (n.transc2 .atan2 y.img x.img)
    | _, _ => n.underflowInto (n.phys 1) 1

/-- A drawn image that is supported: the integer bit of an image with a nonzero exponent is set (U7, U8). -/
def supportedImage (x : Ext) : Ext := if extExp x = 0 then x else x ||| 0x8000000000000000

/-- The result of F2XM1 and FYL2XP1 outside their ranges: image, PE, UE and C1 are drawn (U7, U8, assumption
22). -/
def drawnOutOfRange (d : Nat) : Delivered where
  img := supportedImage (Config.draw 80 .rangeImage d)
  oe := false
  ue := Config.drawBit .rangeUnderflow d
  pe := Config.drawBit .rangeInexact d
  c1 := Config.drawBit .rangeC1 d

/-- The value 1. -/
def valOne : Val := ⟨false, 1, 0⟩

/-- The magnitude of a value. -/
def Val.abs (v : Val) : Val := { v with neg := false }

/-- F2XM1 (R307). -/
def f2xm1 (d : Nat) (n : Npx) : Npx :=
  Npx.drawC320 (d := d) <|
    match n.stOpnd 0 with
    | none => n.underflowInto (n.phys 0) 0
    | some a =>
      n.checked a a false (n.phys 0) 0 fun n =>
        if a.isZero then n.exactInto (n.phys 0) 0 a.img
        else if a.isInf then n.deliverInto (n.phys 0) 0 (drawnOutOfRange d)
        else
          match compareVal (valOf a.img).abs valOne with
          | .lt => n.deliverInto (n.phys 0) 0 (n.transc1 .exp2m1 a.img)
          | .eq => n.exactInto (n.phys 0) 0 (if a.neg then 0xBFFE8000000000000000 else extOne)
          | .gt => n.deliverInto (n.phys 0) 0 (drawnOutOfRange d)

/-- The invalid operands of FYL2X (R308). -/
def fyl2xInvalid (y x : Opnd) : Bool :=
  (x.neg && !x.isZero) || (x.isZero && y.isZero) || (x.isInf && y.isZero) || (x.img == extOne && y.isInf)

/-- FYL2X of operands that passed the checks (R308). -/
def fyl2xRule (y x : Opnd) (d : Nat) (n : Npx) : Npx :=
  let dst := n.phys 1
  let below := compareVal (valOf x.img) valOne == .lt
  if x.isZero then
    if y.isInf then n.exactInto dst 1 (extInf !y.neg)
    else
      let n := (n.signal .ze).setC1 false
      if n.masked .ze then Npx.pops 1 (n.setReg dst (extInf !y.neg)) else n
  else if x.isInf then n.exactInto dst 1 (extInf y.neg)
  else if y.isInf then n.exactInto dst 1 (extInf (y.neg ^^ below))
  else if x.img == extOne then n.exactInto dst 1 (extZero y.neg)
  else if y.isZero then n.exactInto dst 1 (extZero (y.neg ^^ below))
  else
    n.deliverInto dst 1 (n.ylog2x y.img x.img d)

/-- FYL2X (R308). -/
def fyl2x (d : Nat) (n : Npx) : Npx :=
  Npx.drawC320 (d := d) <|
    match n.stOpnd 1, n.stOpnd 0 with
    | some y, some x => n.checked y x (fyl2xInvalid y x) (n.phys 1) 1 (fyl2xRule y x d)
    | _, _ => n.underflowInto (n.phys 1) 1

/-- `|x| < (2 - SQRT(2))/2`, that is `|x| < 1` and `2(1 - |x|)^2 > 1` (R309). -/
def ylog2xp1InRange (v : Val) : Bool :=
  let a := alignVals valOne v.abs
  let diff := a.1 - a.2.1
  decide (0 < diff) && decide (a.1 * a.1 < 2 * (diff * diff))

/-- FYL2XP1 of operands that passed the checks (R309). A zero `y` with a nonzero `x` in range has no value of R309: the
result is free (DESIGN CHOICE, assumption 42). -/
def fyl2xp1Rule (y x : Opnd) (d : Nat) (n : Npx) : Npx :=
  let dst := n.phys 1
  if x.isZero then n.exactInto dst 1 (extZero (signXor x y))
  else if x.isInf || !ylog2xp1InRange (valOf x.img) then n.deliverInto dst 1 (drawnOutOfRange d)
  else if y.isInf then n.exactInto dst 1 (extInf (signXor x y))
  else n.deliverInto dst 1 (n.ylog2xp1 y.img x.img)

/-- FYL2XP1 (R309). -/
def fyl2xp1 (d : Nat) (n : Npx) : Npx :=
  Npx.drawC320 (d := d) <|
    match n.stOpnd 1, n.stOpnd 0 with
    | some y, some x => n.checked y x (x.isZero && y.isInf) (n.phys 1) 1 (fyl2xp1Rule y x d)
    | _, _ => n.underflowInto (n.phys 1) 1

/-! ### The instructions -/

/-- FCOS: D9 FF (R301). -/
def execFcos (pre : List Prefix) (s : State) : Result := s.numReg pre 1 0xFF (trigTop .cos fun _ => extOne)

/-- FSIN: D9 FE (R302). -/
def execFsin (pre : List Prefix) (s : State) : Result := s.numReg pre 1 0xFE (trigTop .sin id)

/-- FSINCOS: D9 FB (R305). -/
def execFsincos (pre : List Prefix) (s : State) : Result := s.numReg pre 1 0xFB fsincos

/-- FPTAN: D9 F2 (R303). -/
def execFptan (pre : List Prefix) (s : State) : Result := s.numReg pre 1 0xF2 fptan

/-- FPATAN: D9 F3 (R306). -/
def execFpatan (pre : List Prefix) (s : State) : Result := s.numReg pre 1 0xF3 fpatan

/-- F2XM1: D9 F0 (R307). -/
def execF2xm1 (pre : List Prefix) (s : State) : Result := s.numReg pre 1 0xF0 f2xm1

/-- FYL2X: D9 F1 (R308). -/
def execFyl2x (pre : List Prefix) (s : State) : Result := s.numReg pre 1 0xF1 fyl2x

/-- FYL2XP1: D9 F9 (R309). -/
def execFyl2xp1 (pre : List Prefix) (s : State) : Result := s.numReg pre 1 0xF9 fyl2xp1

end Sys2Proof.Machine
end

