-- ==== Sys2Proof/Machine/Dispatch.lean ====
section
/-! DEFINITION. One arm per instruction, each one call of its meaning. -/

namespace Sys2Proof.Machine

/-- The effect of one instruction. -/
def exec (i : Instr) (s : State) : Host.Outcome State Fault Refusal :=
  match i with
  | .faddSingleReal pre m => Sys2Proof.Machine.execFaddSingleReal pre m s
  | .fmulSingleReal pre m => Sys2Proof.Machine.execFmulSingleReal pre m s
  | .fcomSingleReal pre m => Sys2Proof.Machine.execFcomSingleReal pre m s
  | .fcompSingleReal pre m => Sys2Proof.Machine.execFcompSingleReal pre m s
  | .fsubSingleReal pre m => Sys2Proof.Machine.execFsubSingleReal pre m s
  | .fsubrSingleReal pre m => Sys2Proof.Machine.execFsubrSingleReal pre m s
  | .fdivSingleReal pre m => Sys2Proof.Machine.execFdivSingleReal pre m s
  | .fdivrSingleReal pre m => Sys2Proof.Machine.execFdivrSingleReal pre m s
  | .faddStSti pre k => Sys2Proof.Machine.execFaddStSti pre k s
  | .fmulStSti pre k => Sys2Proof.Machine.execFmulStSti pre k s
  | .fcomSti pre k => Sys2Proof.Machine.execFcomSti pre k s
  | .fcompSti pre k => Sys2Proof.Machine.execFcompSti pre k s
  | .fsubStSti pre k => Sys2Proof.Machine.execFsubStSti pre k s
  | .fsubrStSti pre k => Sys2Proof.Machine.execFsubrStSti pre k s
  | .fdivStSti pre k => Sys2Proof.Machine.execFdivStSti pre k s
  | .fdivrStSti pre k => Sys2Proof.Machine.execFdivrStSti pre k s
  | .fldSingleReal pre m => Sys2Proof.Machine.execFldSingleReal pre m s
  | .reservedD9mem1 pre m => Sys2Proof.Machine.execReservedD9mem1 pre m s
  | .fstSingleReal pre m => Sys2Proof.Machine.execFstSingleReal pre m s
  | .fstpSingleReal pre m => Sys2Proof.Machine.execFstpSingleReal pre m s
  | .fldenv pre m => Sys2Proof.Machine.execFldenv pre m s
  | .fldcw pre m => Sys2Proof.Machine.execFldcw pre m s
  | .fstenv pre m => Sys2Proof.Machine.execFstenv pre m s
  | .fstcw pre m => Sys2Proof.Machine.execFstcw pre m s
  | .fldSti pre k => Sys2Proof.Machine.execFldSti pre k s
  | .fxchSti pre k => Sys2Proof.Machine.execFxchSti pre k s
  | .fnop pre => Sys2Proof.Machine.execFnop pre s
  | .reservedD9rD1 pre => Sys2Proof.Machine.execReservedD9rD1 pre s
  | .reservedD9rD2toD3 pre k => Sys2Proof.Machine.execReservedD9rD2toD3 pre k s
  | .reservedD9rD4toD7 pre k => Sys2Proof.Machine.execReservedD9rD4toD7 pre k s
  | .reservedD9rD8toDF pre k => Sys2Proof.Machine.execReservedD9rD8toDF pre k s
  | .fchs pre => Sys2Proof.Machine.execFchs pre s
  | .fabs pre => Sys2Proof.Machine.execFabs pre s
  | .reservedD9rE2 pre => Sys2Proof.Machine.execReservedD9rE2 pre s
  | .reservedD9rE3 pre => Sys2Proof.Machine.execReservedD9rE3 pre s
  | .ftst pre => Sys2Proof.Machine.execFtst pre s
  | .fxam pre => Sys2Proof.Machine.execFxam pre s
  | .reservedD9rE6 pre => Sys2Proof.Machine.execReservedD9rE6 pre s
  | .reservedD9rE7 pre => Sys2Proof.Machine.execReservedD9rE7 pre s
  | .fld1 pre => Sys2Proof.Machine.execFld1 pre s
  | .fldl2t pre => Sys2Proof.Machine.execFldl2t pre s
  | .fldl2e pre => Sys2Proof.Machine.execFldl2e pre s
  | .fldpi pre => Sys2Proof.Machine.execFldpi pre s
  | .fldlg2 pre => Sys2Proof.Machine.execFldlg2 pre s
  | .fldln2 pre => Sys2Proof.Machine.execFldln2 pre s
  | .fldz pre => Sys2Proof.Machine.execFldz pre s
  | .reservedD9rEF pre => Sys2Proof.Machine.execReservedD9rEF pre s
  | .f2xm1 pre => Sys2Proof.Machine.execF2xm1 pre s
  | .fyl2x pre => Sys2Proof.Machine.execFyl2x pre s
  | .fptan pre => Sys2Proof.Machine.execFptan pre s
  | .fpatan pre => Sys2Proof.Machine.execFpatan pre s
  | .fxtract pre => Sys2Proof.Machine.execFxtract pre s
  | .fprem1 pre => Sys2Proof.Machine.execFprem1 pre s
  | .fdecstp pre => Sys2Proof.Machine.execFdecstp pre s
  | .fincstp pre => Sys2Proof.Machine.execFincstp pre s
  | .fprem pre => Sys2Proof.Machine.execFprem pre s
  | .fyl2xp1 pre => Sys2Proof.Machine.execFyl2xp1 pre s
  | .fsqrt pre => Sys2Proof.Machine.execFsqrt pre s
  | .fsincos pre => Sys2Proof.Machine.execFsincos pre s
  | .frndint pre => Sys2Proof.Machine.execFrndint pre s
  | .fscale pre => Sys2Proof.Machine.execFscale pre s
  | .fsin pre => Sys2Proof.Machine.execFsin pre s
  | .fcos pre => Sys2Proof.Machine.execFcos pre s
  | .fiaddShortInteger pre m => Sys2Proof.Machine.execFiaddShortInteger pre m s
  | .fimulShortInteger pre m => Sys2Proof.Machine.execFimulShortInteger pre m s
  | .ficomShortInteger pre m => Sys2Proof.Machine.execFicomShortInteger pre m s
  | .ficompShortInteger pre m => Sys2Proof.Machine.execFicompShortInteger pre m s
  | .fisubShortInteger pre m => Sys2Proof.Machine.execFisubShortInteger pre m s
  | .fisubrShortInteger pre m => Sys2Proof.Machine.execFisubrShortInteger pre m s
  | .fidivShortInteger pre m => Sys2Proof.Machine.execFidivShortInteger pre m s
  | .fidivrShortInteger pre m => Sys2Proof.Machine.execFidivrShortInteger pre m s
  | .reservedDArC0toDF pre k => Sys2Proof.Machine.execReservedDArC0toDF pre k s
  | .reservedDArE0toE7 pre k => Sys2Proof.Machine.execReservedDArE0toE7 pre k s
  | .reservedDArE8 pre => Sys2Proof.Machine.execReservedDArE8 pre s
  | .fucompp pre => Sys2Proof.Machine.execFucompp pre s
  | .reservedDArEAtoEB pre k => Sys2Proof.Machine.execReservedDArEAtoEB pre k s
  | .reservedDArECtoEF pre k => Sys2Proof.Machine.execReservedDArECtoEF pre k s
  | .reservedDArF0toFF pre k => Sys2Proof.Machine.execReservedDArF0toFF pre k s
  | .fildShortInteger pre m => Sys2Proof.Machine.execFildShortInteger pre m s
  | .reservedDBmem1 pre m => Sys2Proof.Machine.execReservedDBmem1 pre m s
  | .fistShortInteger pre m => Sys2Proof.Machine.execFistShortInteger pre m s
  | .fistpShortInteger pre m => Sys2Proof.Machine.execFistpShortInteger pre m s
  | .reservedDBmem4 pre m => Sys2Proof.Machine.execReservedDBmem4 pre m s
  | .fldExtendedReal pre m => Sys2Proof.Machine.execFldExtendedReal pre m s
  | .reservedDBmem6 pre m => Sys2Proof.Machine.execReservedDBmem6 pre m s
  | .fstpExtendedReal pre m => Sys2Proof.Machine.execFstpExtendedReal pre m s
  | .reservedDBrC0toDF pre k => Sys2Proof.Machine.execReservedDBrC0toDF pre k s
  | .feni pre => Sys2Proof.Machine.execFeni pre s
  | .fdisi pre => Sys2Proof.Machine.execFdisi pre s
  | .fclex pre => Sys2Proof.Machine.execFclex pre s
  | .finit pre => Sys2Proof.Machine.execFinit pre s
  | .fsetpm pre => Sys2Proof.Machine.execFsetpm pre s
  | .reservedDBrE5 pre => Sys2Proof.Machine.execReservedDBrE5 pre s
  | .reservedDBrE6toE7 pre k => Sys2Proof.Machine.execReservedDBrE6toE7 pre k s
  | .reservedDBrE8toEF pre k => Sys2Proof.Machine.execReservedDBrE8toEF pre k s
  | .reservedDBrF0toFF pre k => Sys2Proof.Machine.execReservedDBrF0toFF pre k s
  | .faddDoubleReal pre m => Sys2Proof.Machine.execFaddDoubleReal pre m s
  | .fmulDoubleReal pre m => Sys2Proof.Machine.execFmulDoubleReal pre m s
  | .fcomDoubleReal pre m => Sys2Proof.Machine.execFcomDoubleReal pre m s
  | .fcompDoubleReal pre m => Sys2Proof.Machine.execFcompDoubleReal pre m s
  | .fsubDoubleReal pre m => Sys2Proof.Machine.execFsubDoubleReal pre m s
  | .fsubrDoubleReal pre m => Sys2Proof.Machine.execFsubrDoubleReal pre m s
  | .fdivDoubleReal pre m => Sys2Proof.Machine.execFdivDoubleReal pre m s
  | .fdivrDoubleReal pre m => Sys2Proof.Machine.execFdivrDoubleReal pre m s
  | .faddStiSt pre k => Sys2Proof.Machine.execFaddStiSt pre k s
  | .fmulStiSt pre k => Sys2Proof.Machine.execFmulStiSt pre k s
  | .reservedDCrD0toDF pre k => Sys2Proof.Machine.execReservedDCrD0toDF pre k s
  | .fsubrStiSt pre k => Sys2Proof.Machine.execFsubrStiSt pre k s
  | .fsubStiSt pre k => Sys2Proof.Machine.execFsubStiSt pre k s
  | .fdivrStiSt pre k => Sys2Proof.Machine.execFdivrStiSt pre k s
  | .fdivStiSt pre k => Sys2Proof.Machine.execFdivStiSt pre k s
  | .fldDoubleReal pre m => Sys2Proof.Machine.execFldDoubleReal pre m s
  | .reservedDDmem1 pre m => Sys2Proof.Machine.execReservedDDmem1 pre m s
  | .fstDoubleReal pre m => Sys2Proof.Machine.execFstDoubleReal pre m s
  | .fstpDoubleReal pre m => Sys2Proof.Machine.execFstpDoubleReal pre m s
  | .frstor pre m => Sys2Proof.Machine.execFrstor pre m s
  | .reservedDDmem5 pre m => Sys2Proof.Machine.execReservedDDmem5 pre m s
  | .fsave pre m => Sys2Proof.Machine.execFsave pre m s
  | .fstsw pre m => Sys2Proof.Machine.execFstsw pre m s
  | .ffreeSti pre k => Sys2Proof.Machine.execFfreeSti pre k s
  | .reservedDDrC8toCF pre k => Sys2Proof.Machine.execReservedDDrC8toCF pre k s
  | .fstSti pre k => Sys2Proof.Machine.execFstSti pre k s
  | .fstpSti pre k => Sys2Proof.Machine.execFstpSti pre k s
  | .fucomSti pre k => Sys2Proof.Machine.execFucomSti pre k s
  | .fucompSti pre k => Sys2Proof.Machine.execFucompSti pre k s
  | .reservedDDrF0toFF pre k => Sys2Proof.Machine.execReservedDDrF0toFF pre k s
  | .fiaddWordInteger pre m => Sys2Proof.Machine.execFiaddWordInteger pre m s
  | .fimulWordInteger pre m => Sys2Proof.Machine.execFimulWordInteger pre m s
  | .ficomWordInteger pre m => Sys2Proof.Machine.execFicomWordInteger pre m s
  | .ficompWordInteger pre m => Sys2Proof.Machine.execFicompWordInteger pre m s
  | .fisubWordInteger pre m => Sys2Proof.Machine.execFisubWordInteger pre m s
  | .fisubrWordInteger pre m => Sys2Proof.Machine.execFisubrWordInteger pre m s
  | .fidivWordInteger pre m => Sys2Proof.Machine.execFidivWordInteger pre m s
  | .fidivrWordInteger pre m => Sys2Proof.Machine.execFidivrWordInteger pre m s
  | .faddpStiSt pre k => Sys2Proof.Machine.execFaddpStiSt pre k s
  | .fmulpStiSt pre k => Sys2Proof.Machine.execFmulpStiSt pre k s
  | .reservedDErD0toD7 pre k => Sys2Proof.Machine.execReservedDErD0toD7 pre k s
  | .reservedDErD8 pre => Sys2Proof.Machine.execReservedDErD8 pre s
  | .fcompp pre => Sys2Proof.Machine.execFcompp pre s
  | .reservedDErDAtoDB pre k => Sys2Proof.Machine.execReservedDErDAtoDB pre k s
  | .reservedDErDCtoDF pre k => Sys2Proof.Machine.execReservedDErDCtoDF pre k s
  | .fsubrpStiSt pre k => Sys2Proof.Machine.execFsubrpStiSt pre k s
  | .fsubpStiSt pre k => Sys2Proof.Machine.execFsubpStiSt pre k s
  | .fdivrpStiSt pre k => Sys2Proof.Machine.execFdivrpStiSt pre k s
  | .fdivpStiSt pre k => Sys2Proof.Machine.execFdivpStiSt pre k s
  | .fildWordInteger pre m => Sys2Proof.Machine.execFildWordInteger pre m s
  | .reservedDFmem1 pre m => Sys2Proof.Machine.execReservedDFmem1 pre m s
  | .fistWordInteger pre m => Sys2Proof.Machine.execFistWordInteger pre m s
  | .fistpWordInteger pre m => Sys2Proof.Machine.execFistpWordInteger pre m s
  | .fbldPackedDecimal pre m => Sys2Proof.Machine.execFbldPackedDecimal pre m s
  | .fildLongInteger pre m => Sys2Proof.Machine.execFildLongInteger pre m s
  | .fbstpPackedDecimal pre m => Sys2Proof.Machine.execFbstpPackedDecimal pre m s
  | .fistpLongInteger pre m => Sys2Proof.Machine.execFistpLongInteger pre m s
  | .reservedDFrC0toDF pre k => Sys2Proof.Machine.execReservedDFrC0toDF pre k s
  | .fstswAx pre => Sys2Proof.Machine.execFstswAx pre s
  | .reservedDFrE1 pre => Sys2Proof.Machine.execReservedDFrE1 pre s
  | .reservedDFrE2toE3 pre k => Sys2Proof.Machine.execReservedDFrE2toE3 pre k s
  | .reservedDFrE4toE7 pre k => Sys2Proof.Machine.execReservedDFrE4toE7 pre k s
  | .reservedDFrE8toEF pre k => Sys2Proof.Machine.execReservedDFrE8toEF pre k s
  | .reservedDFrF0toFF pre k => Sys2Proof.Machine.execReservedDFrF0toFF pre k s
  | .wait pre => Sys2Proof.Machine.execWait pre s

end Sys2Proof.Machine
end

