-- ==== Sys2Proof/Machine/Fetch.lean ====
section
/-! DEFINITION. Fetching an instruction's bytes at CS:EIP (R48, R101, 92 D3, D16, assumptions 30 to 32). -/

namespace Sys2Proof.Machine

/-- The linear addresses of `n` bytes from an offset of the code segment on. -/
def fetchAddresses (base eip : BitVec 32) : Nat → List Nat
  | 0 => []
  | n + 1 => (base + eip).toNat :: fetchAddresses base (eip + 1) n

/-- The bytes at CS:EIP, as many as the longest instruction has. -/
def State.fetchWindow (s : State) : List Byte :=
  (fetchAddresses s.cpu.segs.cs.base s.cpu.eip maxLength).map s.mem.read

/-- Whether the `n` bytes at CS:EIP lie inside the code segment (92 D3). -/
def State.codeAllowed (s : State) (n : Nat) : Bool :=
  (List.range n).all fun k => s.cpu.segs.cs.allows (s.cpu.eip + BitVec.ofNat 32 k)

/-- Whether the `n` bytes at CS:EIP include one that the program has stored, where such code is refused (R426, 92
D16). -/
def State.selfModified (s : State) (n : Nat) : Bool :=
  decide (s.params.selfModifyingCode = .refuse) &&
    (fetchAddresses s.cpu.segs.cs.base s.cpu.eip n).any fun a => s.stored.contains a

/-- Store bytes at the addresses of a list. -/
def Memory.writeBytes (m : Memory) : List Nat → List Byte → Memory
  | a :: as, b :: bs => Memory.writeBytes (m.write a b) as bs
  | _, _ => m

/-- The instruction at CS:EIP and how many bytes it has, or why there is none. -/
def State.fetch (s : State) : Except DecodeError (Instr × Nat) :=
  match decode s.cpu.addressSize s.fetchWindow with
  | .ok p => .ok (p.1, maxLength - p.2.length)
  | .error e => .error e

/-- Whether the newest interrupt has no handler: the run is over (R427). -/
def State.stranded (s : State) : Bool :=
  match s.taken with
  | t :: _ => (s.launch.handler t.vector).isNone
  | [] => false

/-- The bytes of an opcode-table word placed where `step` fetches, as a load from outside: they no longer count as
stored by the program. Nothing else is changed. -/
def State.placeWord (s : State) (nbits w : Nat) : State :=
  let as := fetchAddresses s.cpu.segs.cs.base s.cpu.eip maxLength
  { s with mem := s.mem.writeBytes as (tableWordBytes nbits w), stored := s.stored.filter fun a => !as.contains a }

end Sys2Proof.Machine
end

