-- ==== Sys2Proof/Machine/Step.lean ====
section
/-! DEFINITION. One step of the machine: the end of the run, the fetch, the instruction (R361, R427). -/

namespace Sys2Proof.Machine

/-- One step: the run has ended, or the instruction at CS:EIP is executed. -/
def step (s : State) : Host.Outcome State Fault Refusal :=
  if s.stranded then .fault .interruptWithoutHandler
  else if s.launch.endAddress = some s.cpu.eip then .fault .runEnded
  else
    match s.fetch with
    | .error e => .refused (.undecodable e)
    | .ok p =>
      if !s.codeAllowed p.2 then .refused .codeSegmentLimit
      else if s.selfModified p.2 then .refused .selfModifyingCode
      else exec p.1 s

/-- `s` with an opcode-table word stored where `step` fetches its next instruction. -/
def State.withFetchWord (s : State) (nbits w : Nat) : State := s.placeWord nbits w

end Sys2Proof.Machine
end

