-- ==== Sys2Proof/Machine/Bus.lean ====
section
/-! DEFINITION. The NPX as a device on the 80386 bus (R52, R66, R80, R81): what a bus-level observer sees. No
program can name these addresses (R80), and `step` does not use this file. -/

namespace Sys2Proof.Machine

/-- The bus cycles of Table 3.4 (R81). -/
inductive BusCycle
  /-- The NPX is not selected and all its outputs float. -/
  | floating
  | notSelected
  | readControlOrStatus
  | writeOpcode
  | readData
  | writeData
deriving DecidableEq, Repr

/-- The levels of the pins that select and direct a bus cycle (R81): true is HIGH. -/
structure BusPins where
  sten : Bool
  nps1 : Bool
  nps2 : Bool
  cmd0 : Bool
  wr : Bool
deriving DecidableEq, Repr

/-- Table 3.4 (R81). NPS1#, CMD0# are active LOW. -/
def busCycle (p : BusPins) : BusCycle :=
  if !p.sten then .floating
  else if p.nps1 then .notSelected
  else if !p.nps2 then .notSelected
  else
    match p.cmd0, p.wr with
    | false, false => .readControlOrStatus
    | false, true => .writeOpcode
    | true, false => .readData
    | true, true => .writeData

/-- The I/O address of opcode writes and of control and status word reads (R80). -/
def commandPort : BitVec 32 := 0x800000F8

/-- The I/O address of operand transfers (R80). -/
def dataPort : BitVec 32 := 0x800000FC

/-- The pins in an 80386 cycle: NPS1# is M/IO#, NPS2 is A31, CMD0# is A2, W/R# is W/R# (R81). -/
def pinsOf (sten memory write : Bool) (addr : BitVec 32) : BusPins where
  sten := sten
  nps1 := memory
  nps2 := addr.getLsbD 31
  cmd0 := addr.getLsbD 2
  wr := write

/-- ERROR# is active: it reflects ES (R52). -/
def State.errorPin (s : State) : Bool := s.npx.es

/-- PEREQ as the 80386 sees it: the PC/AT connection reactivates it after an unmasked exception (R54, R82, R392). -/
def State.pereqIn (s : State) : Bool := s.pereq || (decide (s.params.platform = .pcAt) && s.pereqLatch)

/-- The levels of the output pins during RESET (R66): ERROR# LOW is its active level. -/
structure ResetPins where
  readyoHigh : Bool
  busyHigh : Bool
  pereqHigh : Bool
  errorHigh : Bool
  dataDriven : Bool
deriving DecidableEq, Repr

/-- Table 3.3 (R66, R411). -/
def resetPins : ResetPins where
  readyoHigh := true
  busyHigh := true
  pereqHigh := false
  errorHigh := false
  dataDriven := false

end Sys2Proof.Machine
end

