-- ==== Sys2Proof/Safety.lean ====
section
/-! DEFINITION. The terms in which claims about runs are made: the operand of each instruction (R75), which
instructions wait and which replace the pointers (R360, R371), when an instruction executes normally (R361),
and the invariant of the machine. -/

namespace Sys2Proof

/-! ### The instructions, from the tables of the spec -/

/-- A memory operand: its size in bytes, and whether it is written (R75). -/
structure OperandUse where
  bytes : Nat
  stores : Bool
deriving DecidableEq, Repr

/-- The memory operand of each instruction under the operand-size attribute `z` (R75, R113): none for the
register forms, and for the reserved encodings, whose operand has no known size (R122). -/
def Instr.operandUse (z : Size) : Instr → Option OperandUse
  | .faddSingleReal _ _ => some ⟨4, false⟩
  | .fmulSingleReal _ _ => some ⟨4, false⟩
  | .fcomSingleReal _ _ => some ⟨4, false⟩
  | .fcompSingleReal _ _ => some ⟨4, false⟩
  | .fsubSingleReal _ _ => some ⟨4, false⟩
  | .fsubrSingleReal _ _ => some ⟨4, false⟩
  | .fdivSingleReal _ _ => some ⟨4, false⟩
  | .fdivrSingleReal _ _ => some ⟨4, false⟩
  | .faddStSti _ _ => none
  | .fmulStSti _ _ => none
  | .fcomSti _ _ => none
  | .fcompSti _ _ => none
  | .fsubStSti _ _ => none
  | .fsubrStSti _ _ => none
  | .fdivStSti _ _ => none
  | .fdivrStSti _ _ => none
  | .fldSingleReal _ _ => some ⟨4, false⟩
  | .reservedD9mem1 _ _ => none
  | .fstSingleReal _ _ => some ⟨4, true⟩
  | .fstpSingleReal _ _ => some ⟨4, true⟩
  | .fldenv _ _ => some ⟨(match z with | .s16 => 14 | .s32 => 28), false⟩
  | .fldcw _ _ => some ⟨2, false⟩
  | .fstenv _ _ => some ⟨(match z with | .s16 => 14 | .s32 => 28), true⟩
  | .fstcw _ _ => some ⟨2, true⟩
  | .fldSti _ _ => none
  | .fxchSti _ _ => none
  | .fnop _ => none
  | .reservedD9rD1 _ => none
  | .reservedD9rD2toD3 _ _ => none
  | .reservedD9rD4toD7 _ _ => none
  | .reservedD9rD8toDF _ _ => none
  | .fchs _ => none
  | .fabs _ => none
  | .reservedD9rE2 _ => none
  | .reservedD9rE3 _ => none
  | .ftst _ => none
  | .fxam _ => none
  | .reservedD9rE6 _ => none
  | .reservedD9rE7 _ => none
  | .fld1 _ => none
  | .fldl2t _ => none
  | .fldl2e _ => none
  | .fldpi _ => none
  | .fldlg2 _ => none
  | .fldln2 _ => none
  | .fldz _ => none
  | .reservedD9rEF _ => none
  | .f2xm1 _ => none
  | .fyl2x _ => none
  | .fptan _ => none
  | .fpatan _ => none
  | .fxtract _ => none
  | .fprem1 _ => none
  | .fdecstp _ => none
  | .fincstp _ => none
  | .fprem _ => none
  | .fyl2xp1 _ => none
  | .fsqrt _ => none
  | .fsincos _ => none
  | .frndint _ => none
  | .fscale _ => none
  | .fsin _ => none
  | .fcos _ => none
  | .fiaddShortInteger _ _ => some ⟨4, false⟩
  | .fimulShortInteger _ _ => some ⟨4, false⟩
  | .ficomShortInteger _ _ => some ⟨4, false⟩
  | .ficompShortInteger _ _ => some ⟨4, false⟩
  | .fisubShortInteger _ _ => some ⟨4, false⟩
  | .fisubrShortInteger _ _ => some ⟨4, false⟩
  | .fidivShortInteger _ _ => some ⟨4, false⟩
  | .fidivrShortInteger _ _ => some ⟨4, false⟩
  | .reservedDArC0toDF _ _ => none
  | .reservedDArE0toE7 _ _ => none
  | .reservedDArE8 _ => none
  | .fucompp _ => none
  | .reservedDArEAtoEB _ _ => none
  | .reservedDArECtoEF _ _ => none
  | .reservedDArF0toFF _ _ => none
  | .fildShortInteger _ _ => some ⟨4, false⟩
  | .reservedDBmem1 _ _ => none
  | .fistShortInteger _ _ => some ⟨4, true⟩
  | .fistpShortInteger _ _ => some ⟨4, true⟩
  | .reservedDBmem4 _ _ => none
  | .fldExtendedReal _ _ => some ⟨10, false⟩
  | .reservedDBmem6 _ _ => none
  | .fstpExtendedReal _ _ => some ⟨10, true⟩
  | .reservedDBrC0toDF _ _ => none
  | .feni _ => none
  | .fdisi _ => none
  | .fclex _ => none
  | .finit _ => none
  | .fsetpm _ => none
  | .reservedDBrE5 _ => none
  | .reservedDBrE6toE7 _ _ => none
  | .reservedDBrE8toEF _ _ => none
  | .reservedDBrF0toFF _ _ => none
  | .faddDoubleReal _ _ => some ⟨8, false⟩
  | .fmulDoubleReal _ _ => some ⟨8, false⟩
  | .fcomDoubleReal _ _ => some ⟨8, false⟩
  | .fcompDoubleReal _ _ => some ⟨8, false⟩
  | .fsubDoubleReal _ _ => some ⟨8, false⟩
  | .fsubrDoubleReal _ _ => some ⟨8, false⟩
  | .fdivDoubleReal _ _ => some ⟨8, false⟩
  | .fdivrDoubleReal _ _ => some ⟨8, false⟩
  | .faddStiSt _ _ => none
  | .fmulStiSt _ _ => none
  | .reservedDCrD0toDF _ _ => none
  | .fsubrStiSt _ _ => none
  | .fsubStiSt _ _ => none
  | .fdivrStiSt _ _ => none
  | .fdivStiSt _ _ => none
  | .fldDoubleReal _ _ => some ⟨8, false⟩
  | .reservedDDmem1 _ _ => none
  | .fstDoubleReal _ _ => some ⟨8, true⟩
  | .fstpDoubleReal _ _ => some ⟨8, true⟩
  | .frstor _ _ => some ⟨(match z with | .s16 => 94 | .s32 => 108), false⟩
  | .reservedDDmem5 _ _ => none
  | .fsave _ _ => some ⟨(match z with | .s16 => 94 | .s32 => 108), true⟩
  | .fstsw _ _ => some ⟨2, true⟩
  | .ffreeSti _ _ => none
  | .reservedDDrC8toCF _ _ => none
  | .fstSti _ _ => none
  | .fstpSti _ _ => none
  | .fucomSti _ _ => none
  | .fucompSti _ _ => none
  | .reservedDDrF0toFF _ _ => none
  | .fiaddWordInteger _ _ => some ⟨2, false⟩
  | .fimulWordInteger _ _ => some ⟨2, false⟩
  | .ficomWordInteger _ _ => some ⟨2, false⟩
  | .ficompWordInteger _ _ => some ⟨2, false⟩
  | .fisubWordInteger _ _ => some ⟨2, false⟩
  | .fisubrWordInteger _ _ => some ⟨2, false⟩
  | .fidivWordInteger _ _ => some ⟨2, false⟩
  | .fidivrWordInteger _ _ => some ⟨2, false⟩
  | .faddpStiSt _ _ => none
  | .fmulpStiSt _ _ => none
  | .reservedDErD0toD7 _ _ => none
  | .reservedDErD8 _ => none
  | .fcompp _ => none
  | .reservedDErDAtoDB _ _ => none
  | .reservedDErDCtoDF _ _ => none
  | .fsubrpStiSt _ _ => none
  | .fsubpStiSt _ _ => none
  | .fdivrpStiSt _ _ => none
  | .fdivpStiSt _ _ => none
  | .fildWordInteger _ _ => some ⟨2, false⟩
  | .reservedDFmem1 _ _ => none
  | .fistWordInteger _ _ => some ⟨2, true⟩
  | .fistpWordInteger _ _ => some ⟨2, true⟩
  | .fbldPackedDecimal _ _ => some ⟨10, false⟩
  | .fildLongInteger _ _ => some ⟨8, false⟩
  | .fbstpPackedDecimal _ _ => some ⟨10, true⟩
  | .fistpLongInteger _ _ => some ⟨8, true⟩
  | .reservedDFrC0toDF _ _ => none
  | .fstswAx _ => none
  | .reservedDFrE1 _ => none
  | .reservedDFrE2toE3 _ _ => none
  | .reservedDFrE4toE7 _ _ => none
  | .reservedDFrE8toEF _ _ => none
  | .reservedDFrF0toFF _ _ => none
  | .wait _ => none

/-- The administrative instructions, which do not replace the pointers (R360). -/
def Instr.administrative : Instr → Bool
  | .faddSingleReal _ _ => false
  | .fmulSingleReal _ _ => false
  | .fcomSingleReal _ _ => false
  | .fcompSingleReal _ _ => false
  | .fsubSingleReal _ _ => false
  | .fsubrSingleReal _ _ => false
  | .fdivSingleReal _ _ => false
  | .fdivrSingleReal _ _ => false
  | .faddStSti _ _ => false
  | .fmulStSti _ _ => false
  | .fcomSti _ _ => false
  | .fcompSti _ _ => false
  | .fsubStSti _ _ => false
  | .fsubrStSti _ _ => false
  | .fdivStSti _ _ => false
  | .fdivrStSti _ _ => false
  | .fldSingleReal _ _ => false
  | .reservedD9mem1 _ _ => false
  | .fstSingleReal _ _ => false
  | .fstpSingleReal _ _ => false
  | .fldenv _ _ => true
  | .fldcw _ _ => true
  | .fstenv _ _ => true
  | .fstcw _ _ => true
  | .fldSti _ _ => false
  | .fxchSti _ _ => false
  | .fnop _ => false
  | .reservedD9rD1 _ => false
  | .reservedD9rD2toD3 _ _ => false
  | .reservedD9rD4toD7 _ _ => false
  | .reservedD9rD8toDF _ _ => false
  | .fchs _ => false
  | .fabs _ => false
  | .reservedD9rE2 _ => false
  | .reservedD9rE3 _ => false
  | .ftst _ => false
  | .fxam _ => false
  | .reservedD9rE6 _ => false
  | .reservedD9rE7 _ => false
  | .fld1 _ => false
  | .fldl2t _ => false
  | .fldl2e _ => false
  | .fldpi _ => false
  | .fldlg2 _ => false
  | .fldln2 _ => false
  | .fldz _ => false
  | .reservedD9rEF _ => false
  | .f2xm1 _ => false
  | .fyl2x _ => false
  | .fptan _ => false
  | .fpatan _ => false
  | .fxtract _ => false
  | .fprem1 _ => false
  | .fdecstp _ => false
  | .fincstp _ => false
  | .fprem _ => false
  | .fyl2xp1 _ => false
  | .fsqrt _ => false
  | .fsincos _ => false
  | .frndint _ => false
  | .fscale _ => false
  | .fsin _ => false
  | .fcos _ => false
  | .fiaddShortInteger _ _ => false
  | .fimulShortInteger _ _ => false
  | .ficomShortInteger _ _ => false
  | .ficompShortInteger _ _ => false
  | .fisubShortInteger _ _ => false
  | .fisubrShortInteger _ _ => false
  | .fidivShortInteger _ _ => false
  | .fidivrShortInteger _ _ => false
  | .reservedDArC0toDF _ _ => false
  | .reservedDArE0toE7 _ _ => false
  | .reservedDArE8 _ => false
  | .fucompp _ => false
  | .reservedDArEAtoEB _ _ => false
  | .reservedDArECtoEF _ _ => false
  | .reservedDArF0toFF _ _ => false
  | .fildShortInteger _ _ => false
  | .reservedDBmem1 _ _ => false
  | .fistShortInteger _ _ => false
  | .fistpShortInteger _ _ => false
  | .reservedDBmem4 _ _ => false
  | .fldExtendedReal _ _ => false
  | .reservedDBmem6 _ _ => false
  | .fstpExtendedReal _ _ => false
  | .reservedDBrC0toDF _ _ => false
  | .feni _ => false
  | .fdisi _ => false
  | .fclex _ => true
  | .finit _ => true
  | .fsetpm _ => false
  | .reservedDBrE5 _ => false
  | .reservedDBrE6toE7 _ _ => false
  | .reservedDBrE8toEF _ _ => false
  | .reservedDBrF0toFF _ _ => false
  | .faddDoubleReal _ _ => false
  | .fmulDoubleReal _ _ => false
  | .fcomDoubleReal _ _ => false
  | .fcompDoubleReal _ _ => false
  | .fsubDoubleReal _ _ => false
  | .fsubrDoubleReal _ _ => false
  | .fdivDoubleReal _ _ => false
  | .fdivrDoubleReal _ _ => false
  | .faddStiSt _ _ => false
  | .fmulStiSt _ _ => false
  | .reservedDCrD0toDF _ _ => false
  | .fsubrStiSt _ _ => false
  | .fsubStiSt _ _ => false
  | .fdivrStiSt _ _ => false
  | .fdivStiSt _ _ => false
  | .fldDoubleReal _ _ => false
  | .reservedDDmem1 _ _ => false
  | .fstDoubleReal _ _ => false
  | .fstpDoubleReal _ _ => false
  | .frstor _ _ => true
  | .reservedDDmem5 _ _ => false
  | .fsave _ _ => true
  | .fstsw _ _ => true
  | .ffreeSti _ _ => false
  | .reservedDDrC8toCF _ _ => false
  | .fstSti _ _ => false
  | .fstpSti _ _ => false
  | .fucomSti _ _ => false
  | .fucompSti _ _ => false
  | .reservedDDrF0toFF _ _ => false
  | .fiaddWordInteger _ _ => false
  | .fimulWordInteger _ _ => false
  | .ficomWordInteger _ _ => false
  | .ficompWordInteger _ _ => false
  | .fisubWordInteger _ _ => false
  | .fisubrWordInteger _ _ => false
  | .fidivWordInteger _ _ => false
  | .fidivrWordInteger _ _ => false
  | .faddpStiSt _ _ => false
  | .fmulpStiSt _ _ => false
  | .reservedDErD0toD7 _ _ => false
  | .reservedDErD8 _ => false
  | .fcompp _ => false
  | .reservedDErDAtoDB _ _ => false
  | .reservedDErDCtoDF _ _ => false
  | .fsubrpStiSt _ _ => false
  | .fsubpStiSt _ _ => false
  | .fdivrpStiSt _ _ => false
  | .fdivpStiSt _ _ => false
  | .fildWordInteger _ _ => false
  | .reservedDFmem1 _ _ => false
  | .fistWordInteger _ _ => false
  | .fistpWordInteger _ _ => false
  | .fbldPackedDecimal _ _ => false
  | .fildLongInteger _ _ => false
  | .fbstpPackedDecimal _ _ => false
  | .fistpLongInteger _ _ => false
  | .reservedDFrC0toDF _ _ => false
  | .fstswAx _ => true
  | .reservedDFrE1 _ => false
  | .reservedDFrE2toE3 _ _ => false
  | .reservedDFrE4toE7 _ _ => false
  | .reservedDFrE8toEF _ _ => false
  | .reservedDFrF0toFF _ _ => false
  | .wait _ => true

/-- The waiting instructions: all but FNINIT, FNCLEX, FNSTSW, FNSTENV, FNSAVE, and FNSTCW unless it checks
ERROR# (R360, R371). -/
def Instr.waits (p : Params) : Instr → Bool
  | .faddSingleReal _ _ => true
  | .fmulSingleReal _ _ => true
  | .fcomSingleReal _ _ => true
  | .fcompSingleReal _ _ => true
  | .fsubSingleReal _ _ => true
  | .fsubrSingleReal _ _ => true
  | .fdivSingleReal _ _ => true
  | .fdivrSingleReal _ _ => true
  | .faddStSti _ _ => true
  | .fmulStSti _ _ => true
  | .fcomSti _ _ => true
  | .fcompSti _ _ => true
  | .fsubStSti _ _ => true
  | .fsubrStSti _ _ => true
  | .fdivStSti _ _ => true
  | .fdivrStSti _ _ => true
  | .fldSingleReal _ _ => true
  | .reservedD9mem1 _ _ => true
  | .fstSingleReal _ _ => true
  | .fstpSingleReal _ _ => true
  | .fldenv _ _ => true
  | .fldcw _ _ => true
  | .fstenv _ _ => false
  | .fstcw _ _ => p.fnstcwChecksError
  | .fldSti _ _ => true
  | .fxchSti _ _ => true
  | .fnop _ => true
  | .reservedD9rD1 _ => true
  | .reservedD9rD2toD3 _ _ => true
  | .reservedD9rD4toD7 _ _ => true
  | .reservedD9rD8toDF _ _ => true
  | .fchs _ => true
  | .fabs _ => true
  | .reservedD9rE2 _ => true
  | .reservedD9rE3 _ => true
  | .ftst _ => true
  | .fxam _ => true
  | .reservedD9rE6 _ => true
  | .reservedD9rE7 _ => true
  | .fld1 _ => true
  | .fldl2t _ => true
  | .fldl2e _ => true
  | .fldpi _ => true
  | .fldlg2 _ => true
  | .fldln2 _ => true
  | .fldz _ => true
  | .reservedD9rEF _ => true
  | .f2xm1 _ => true
  | .fyl2x _ => true
  | .fptan _ => true
  | .fpatan _ => true
  | .fxtract _ => true
  | .fprem1 _ => true
  | .fdecstp _ => true
  | .fincstp _ => true
  | .fprem _ => true
  | .fyl2xp1 _ => true
  | .fsqrt _ => true
  | .fsincos _ => true
  | .frndint _ => true
  | .fscale _ => true
  | .fsin _ => true
  | .fcos _ => true
  | .fiaddShortInteger _ _ => true
  | .fimulShortInteger _ _ => true
  | .ficomShortInteger _ _ => true
  | .ficompShortInteger _ _ => true
  | .fisubShortInteger _ _ => true
  | .fisubrShortInteger _ _ => true
  | .fidivShortInteger _ _ => true
  | .fidivrShortInteger _ _ => true
  | .reservedDArC0toDF _ _ => true
  | .reservedDArE0toE7 _ _ => true
  | .reservedDArE8 _ => true
  | .fucompp _ => true
  | .reservedDArEAtoEB _ _ => true
  | .reservedDArECtoEF _ _ => true
  | .reservedDArF0toFF _ _ => true
  | .fildShortInteger _ _ => true
  | .reservedDBmem1 _ _ => true
  | .fistShortInteger _ _ => true
  | .fistpShortInteger _ _ => true
  | .reservedDBmem4 _ _ => true
  | .fldExtendedReal _ _ => true
  | .reservedDBmem6 _ _ => true
  | .fstpExtendedReal _ _ => true
  | .reservedDBrC0toDF _ _ => true
  | .feni _ => true
  | .fdisi _ => true
  | .fclex _ => false
  | .finit _ => false
  | .fsetpm _ => true
  | .reservedDBrE5 _ => true
  | .reservedDBrE6toE7 _ _ => true
  | .reservedDBrE8toEF _ _ => true
  | .reservedDBrF0toFF _ _ => true
  | .faddDoubleReal _ _ => true
  | .fmulDoubleReal _ _ => true
  | .fcomDoubleReal _ _ => true
  | .fcompDoubleReal _ _ => true
  | .fsubDoubleReal _ _ => true
  | .fsubrDoubleReal _ _ => true
  | .fdivDoubleReal _ _ => true
  | .fdivrDoubleReal _ _ => true
  | .faddStiSt _ _ => true
  | .fmulStiSt _ _ => true
  | .reservedDCrD0toDF _ _ => true
  | .fsubrStiSt _ _ => true
  | .fsubStiSt _ _ => true
  | .fdivrStiSt _ _ => true
  | .fdivStiSt _ _ => true
  | .fldDoubleReal _ _ => true
  | .reservedDDmem1 _ _ => true
  | .fstDoubleReal _ _ => true
  | .fstpDoubleReal _ _ => true
  | .frstor _ _ => true
  | .reservedDDmem5 _ _ => true
  | .fsave _ _ => false
  | .fstsw _ _ => false
  | .ffreeSti _ _ => true
  | .reservedDDrC8toCF _ _ => true
  | .fstSti _ _ => true
  | .fstpSti _ _ => true
  | .fucomSti _ _ => true
  | .fucompSti _ _ => true
  | .reservedDDrF0toFF _ _ => true
  | .fiaddWordInteger _ _ => true
  | .fimulWordInteger _ _ => true
  | .ficomWordInteger _ _ => true
  | .ficompWordInteger _ _ => true
  | .fisubWordInteger _ _ => true
  | .fisubrWordInteger _ _ => true
  | .fidivWordInteger _ _ => true
  | .fidivrWordInteger _ _ => true
  | .faddpStiSt _ _ => true
  | .fmulpStiSt _ _ => true
  | .reservedDErD0toD7 _ _ => true
  | .reservedDErD8 _ => true
  | .fcompp _ => true
  | .reservedDErDAtoDB _ _ => true
  | .reservedDErDCtoDF _ _ => true
  | .fsubrpStiSt _ _ => true
  | .fsubpStiSt _ _ => true
  | .fdivrpStiSt _ _ => true
  | .fdivpStiSt _ _ => true
  | .fildWordInteger _ _ => true
  | .reservedDFmem1 _ _ => true
  | .fistWordInteger _ _ => true
  | .fistpWordInteger _ _ => true
  | .fbldPackedDecimal _ _ => true
  | .fildLongInteger _ _ => true
  | .fbstpPackedDecimal _ _ => true
  | .fistpLongInteger _ _ => true
  | .reservedDFrC0toDF _ _ => true
  | .fstswAx _ => false
  | .reservedDFrE1 _ => true
  | .reservedDFrE2toE3 _ _ => true
  | .reservedDFrE4toE7 _ _ => true
  | .reservedDFrE8toEF _ _ => true
  | .reservedDFrF0toFF _ _ => true
  | .wait _ => true

/-- The reserved encodings (R122). -/
def Instr.reserved : Instr → Bool
  | .faddSingleReal _ _ => false
  | .fmulSingleReal _ _ => false
  | .fcomSingleReal _ _ => false
  | .fcompSingleReal _ _ => false
  | .fsubSingleReal _ _ => false
  | .fsubrSingleReal _ _ => false
  | .fdivSingleReal _ _ => false
  | .fdivrSingleReal _ _ => false
  | .faddStSti _ _ => false
  | .fmulStSti _ _ => false
  | .fcomSti _ _ => false
  | .fcompSti _ _ => false
  | .fsubStSti _ _ => false
  | .fsubrStSti _ _ => false
  | .fdivStSti _ _ => false
  | .fdivrStSti _ _ => false
  | .fldSingleReal _ _ => false
  | .reservedD9mem1 _ _ => true
  | .fstSingleReal _ _ => false
  | .fstpSingleReal _ _ => false
  | .fldenv _ _ => false
  | .fldcw _ _ => false
  | .fstenv _ _ => false
  | .fstcw _ _ => false
  | .fldSti _ _ => false
  | .fxchSti _ _ => false
  | .fnop _ => false
  | .reservedD9rD1 _ => true
  | .reservedD9rD2toD3 _ _ => true
  | .reservedD9rD4toD7 _ _ => true
  | .reservedD9rD8toDF _ _ => true
  | .fchs _ => false
  | .fabs _ => false
  | .reservedD9rE2 _ => true
  | .reservedD9rE3 _ => true
  | .ftst _ => false
  | .fxam _ => false
  | .reservedD9rE6 _ => true
  | .reservedD9rE7 _ => true
  | .fld1 _ => false
  | .fldl2t _ => false
  | .fldl2e _ => false
  | .fldpi _ => false
  | .fldlg2 _ => false
  | .fldln2 _ => false
  | .fldz _ => false
  | .reservedD9rEF _ => true
  | .f2xm1 _ => false
  | .fyl2x _ => false
  | .fptan _ => false
  | .fpatan _ => false
  | .fxtract _ => false
  | .fprem1 _ => false
  | .fdecstp _ => false
  | .fincstp _ => false
  | .fprem _ => false
  | .fyl2xp1 _ => false
  | .fsqrt _ => false
  | .fsincos _ => false
  | .frndint _ => false
  | .fscale _ => false
  | .fsin _ => false
  | .fcos _ => false
  | .fiaddShortInteger _ _ => false
  | .fimulShortInteger _ _ => false
  | .ficomShortInteger _ _ => false
  | .ficompShortInteger _ _ => false
  | .fisubShortInteger _ _ => false
  | .fisubrShortInteger _ _ => false
  | .fidivShortInteger _ _ => false
  | .fidivrShortInteger _ _ => false
  | .reservedDArC0toDF _ _ => true
  | .reservedDArE0toE7 _ _ => true
  | .reservedDArE8 _ => true
  | .fucompp _ => false
  | .reservedDArEAtoEB _ _ => true
  | .reservedDArECtoEF _ _ => true
  | .reservedDArF0toFF _ _ => true
  | .fildShortInteger _ _ => false
  | .reservedDBmem1 _ _ => true
  | .fistShortInteger _ _ => false
  | .fistpShortInteger _ _ => false
  | .reservedDBmem4 _ _ => true
  | .fldExtendedReal _ _ => false
  | .reservedDBmem6 _ _ => true
  | .fstpExtendedReal _ _ => false
  | .reservedDBrC0toDF _ _ => true
  | .feni _ => false
  | .fdisi _ => false
  | .fclex _ => false
  | .finit _ => false
  | .fsetpm _ => false
  | .reservedDBrE5 _ => true
  | .reservedDBrE6toE7 _ _ => true
  | .reservedDBrE8toEF _ _ => true
  | .reservedDBrF0toFF _ _ => true
  | .faddDoubleReal _ _ => false
  | .fmulDoubleReal _ _ => false
  | .fcomDoubleReal _ _ => false
  | .fcompDoubleReal _ _ => false
  | .fsubDoubleReal _ _ => false
  | .fsubrDoubleReal _ _ => false
  | .fdivDoubleReal _ _ => false
  | .fdivrDoubleReal _ _ => false
  | .faddStiSt _ _ => false
  | .fmulStiSt _ _ => false
  | .reservedDCrD0toDF _ _ => true
  | .fsubrStiSt _ _ => false
  | .fsubStiSt _ _ => false
  | .fdivrStiSt _ _ => false
  | .fdivStiSt _ _ => false
  | .fldDoubleReal _ _ => false
  | .reservedDDmem1 _ _ => true
  | .fstDoubleReal _ _ => false
  | .fstpDoubleReal _ _ => false
  | .frstor _ _ => false
  | .reservedDDmem5 _ _ => true
  | .fsave _ _ => false
  | .fstsw _ _ => false
  | .ffreeSti _ _ => false
  | .reservedDDrC8toCF _ _ => true
  | .fstSti _ _ => false
  | .fstpSti _ _ => false
  | .fucomSti _ _ => false
  | .fucompSti _ _ => false
  | .reservedDDrF0toFF _ _ => true
  | .fiaddWordInteger _ _ => false
  | .fimulWordInteger _ _ => false
  | .ficomWordInteger _ _ => false
  | .ficompWordInteger _ _ => false
  | .fisubWordInteger _ _ => false
  | .fisubrWordInteger _ _ => false
  | .fidivWordInteger _ _ => false
  | .fidivrWordInteger _ _ => false
  | .faddpStiSt _ _ => false
  | .fmulpStiSt _ _ => false
  | .reservedDErD0toD7 _ _ => true
  | .reservedDErD8 _ => true
  | .fcompp _ => false
  | .reservedDErDAtoDB _ _ => true
  | .reservedDErDCtoDF _ _ => true
  | .fsubrpStiSt _ _ => false
  | .fsubpStiSt _ _ => false
  | .fdivrpStiSt _ _ => false
  | .fdivpStiSt _ _ => false
  | .fildWordInteger _ _ => false
  | .reservedDFmem1 _ _ => true
  | .fistWordInteger _ _ => false
  | .fistpWordInteger _ _ => false
  | .fbldPackedDecimal _ _ => false
  | .fildLongInteger _ _ => false
  | .fbstpPackedDecimal _ _ => false
  | .fistpLongInteger _ _ => false
  | .reservedDFrC0toDF _ _ => true
  | .fstswAx _ => false
  | .reservedDFrE1 _ => true
  | .reservedDFrE2toE3 _ _ => true
  | .reservedDFrE4toE7 _ _ => true
  | .reservedDFrE8toEF _ _ => true
  | .reservedDFrF0toFF _ _ => true
  | .wait _ => false

/-- WAIT, the one instruction of this machine that is not an ESC instruction (R124). -/
def Instr.isWait : Instr → Bool
  | .wait _ => true
  | _ => false

/-! ### Operands and destinations, from the instruction rules -/

open Sys2Proof.Machine

/-- Where an operand of an instruction comes from. -/
inductive Source
  /-- The stack register `ST(i)`. -/
  | st (i : StIndex)
  /-- A memory real. -/
  | real (f : Fmt)
  /-- An integer of `bits` bits in memory. -/
  | int (bits : Nat)
  /-- A fixed image. -/
  | image (x : Ext)
deriving DecidableEq, Repr

/-- An instance of `arith` (R261): the operation, its left and right operand, its destination and its pops. -/
structure ArithUse where
  op : ArithOp
  left : Source
  right : Source
  dst : StIndex
  pops : Nat
deriving DecidableEq, Repr

/-- The instances of `arith` (R262 to R279). -/
def Instr.arithUse : Instr → Option ArithUse
  | .faddSingleReal _ _ => some ⟨.add, .st 0, .real single, 0, 0⟩
  | .fmulSingleReal _ _ => some ⟨.mul, .st 0, .real single, 0, 0⟩
  | .fcomSingleReal _ _ => none
  | .fcompSingleReal _ _ => none
  | .fsubSingleReal _ _ => some ⟨.sub, .st 0, .real single, 0, 0⟩
  | .fsubrSingleReal _ _ => some ⟨.sub, .real single, .st 0, 0, 0⟩
  | .fdivSingleReal _ _ => some ⟨.div, .st 0, .real single, 0, 0⟩
  | .fdivrSingleReal _ _ => some ⟨.div, .real single, .st 0, 0, 0⟩
  | .faddStSti _ i => some ⟨.add, .st 0, .st i, 0, 0⟩
  | .fmulStSti _ i => some ⟨.mul, .st 0, .st i, 0, 0⟩
  | .fcomSti _ _ => none
  | .fcompSti _ _ => none
  | .fsubStSti _ i => some ⟨.sub, .st 0, .st i, 0, 0⟩
  | .fsubrStSti _ i => some ⟨.sub, .st i, .st 0, 0, 0⟩
  | .fdivStSti _ i => some ⟨.div, .st 0, .st i, 0, 0⟩
  | .fdivrStSti _ i => some ⟨.div, .st i, .st 0, 0, 0⟩
  | .fldSingleReal _ _ => none
  | .reservedD9mem1 _ _ => none
  | .fstSingleReal _ _ => none
  | .fstpSingleReal _ _ => none
  | .fldenv _ _ => none
  | .fldcw _ _ => none
  | .fstenv _ _ => none
  | .fstcw _ _ => none
  | .fldSti _ _ => none
  | .fxchSti _ _ => none
  | .fnop _ => none
  | .reservedD9rD1 _ => none
  | .reservedD9rD2toD3 _ _ => none
  | .reservedD9rD4toD7 _ _ => none
  | .reservedD9rD8toDF _ _ => none
  | .fchs _ => none
  | .fabs _ => none
  | .reservedD9rE2 _ => none
  | .reservedD9rE3 _ => none
  | .ftst _ => none
  | .fxam _ => none
  | .reservedD9rE6 _ => none
  | .reservedD9rE7 _ => none
  | .fld1 _ => none
  | .fldl2t _ => none
  | .fldl2e _ => none
  | .fldpi _ => none
  | .fldlg2 _ => none
  | .fldln2 _ => none
  | .fldz _ => none
  | .reservedD9rEF _ => none
  | .f2xm1 _ => none
  | .fyl2x _ => none
  | .fptan _ => none
  | .fpatan _ => none
  | .fxtract _ => none
  | .fprem1 _ => none
  | .fdecstp _ => none
  | .fincstp _ => none
  | .fprem _ => none
  | .fyl2xp1 _ => none
  | .fsqrt _ => none
  | .fsincos _ => none
  | .frndint _ => none
  | .fscale _ => none
  | .fsin _ => none
  | .fcos _ => none
  | .fiaddShortInteger _ _ => some ⟨.add, .st 0, .int 32, 0, 0⟩
  | .fimulShortInteger _ _ => some ⟨.mul, .st 0, .int 32, 0, 0⟩
  | .ficomShortInteger _ _ => none
  | .ficompShortInteger _ _ => none
  | .fisubShortInteger _ _ => some ⟨.sub, .st 0, .int 32, 0, 0⟩
  | .fisubrShortInteger _ _ => some ⟨.sub, .int 32, .st 0, 0, 0⟩
  | .fidivShortInteger _ _ => some ⟨.div, .st 0, .int 32, 0, 0⟩
  | .fidivrShortInteger _ _ => some ⟨.div, .int 32, .st 0, 0, 0⟩
  | .reservedDArC0toDF _ _ => none
  | .reservedDArE0toE7 _ _ => none
  | .reservedDArE8 _ => none
  | .fucompp _ => none
  | .reservedDArEAtoEB _ _ => none
  | .reservedDArECtoEF _ _ => none
  | .reservedDArF0toFF _ _ => none
  | .fildShortInteger _ _ => none
  | .reservedDBmem1 _ _ => none
  | .fistShortInteger _ _ => none
  | .fistpShortInteger _ _ => none
  | .reservedDBmem4 _ _ => none
  | .fldExtendedReal _ _ => none
  | .reservedDBmem6 _ _ => none
  | .fstpExtendedReal _ _ => none
  | .reservedDBrC0toDF _ _ => none
  | .feni _ => none
  | .fdisi _ => none
  | .fclex _ => none
  | .finit _ => none
  | .fsetpm _ => none
  | .reservedDBrE5 _ => none
  | .reservedDBrE6toE7 _ _ => none
  | .reservedDBrE8toEF _ _ => none
  | .reservedDBrF0toFF _ _ => none
  | .faddDoubleReal _ _ => some ⟨.add, .st 0, .real double, 0, 0⟩
  | .fmulDoubleReal _ _ => some ⟨.mul, .st 0, .real double, 0, 0⟩
  | .fcomDoubleReal _ _ => none
  | .fcompDoubleReal _ _ => none
  | .fsubDoubleReal _ _ => some ⟨.sub, .st 0, .real double, 0, 0⟩
  | .fsubrDoubleReal _ _ => some ⟨.sub, .real double, .st 0, 0, 0⟩
  | .fdivDoubleReal _ _ => some ⟨.div, .st 0, .real double, 0, 0⟩
  | .fdivrDoubleReal _ _ => some ⟨.div, .real double, .st 0, 0, 0⟩
  | .faddStiSt _ i => some ⟨.add, .st i, .st 0, i, 0⟩
  | .fmulStiSt _ i => some ⟨.mul, .st i, .st 0, i, 0⟩
  | .reservedDCrD0toDF _ _ => none
  | .fsubrStiSt _ i => some ⟨.sub, .st 0, .st i, i, 0⟩
  | .fsubStiSt _ i => some ⟨.sub, .st i, .st 0, i, 0⟩
  | .fdivrStiSt _ i => some ⟨.div, .st 0, .st i, i, 0⟩
  | .fdivStiSt _ i => some ⟨.div, .st i, .st 0, i, 0⟩
  | .fldDoubleReal _ _ => none
  | .reservedDDmem1 _ _ => none
  | .fstDoubleReal _ _ => none
  | .fstpDoubleReal _ _ => none
  | .frstor _ _ => none
  | .reservedDDmem5 _ _ => none
  | .fsave _ _ => none
  | .fstsw _ _ => none
  | .ffreeSti _ _ => none
  | .reservedDDrC8toCF _ _ => none
  | .fstSti _ _ => none
  | .fstpSti _ _ => none
  | .fucomSti _ _ => none
  | .fucompSti _ _ => none
  | .reservedDDrF0toFF _ _ => none
  | .fiaddWordInteger _ _ => some ⟨.add, .st 0, .int 16, 0, 0⟩
  | .fimulWordInteger _ _ => some ⟨.mul, .st 0, .int 16, 0, 0⟩
  | .ficomWordInteger _ _ => none
  | .ficompWordInteger _ _ => none
  | .fisubWordInteger _ _ => some ⟨.sub, .st 0, .int 16, 0, 0⟩
  | .fisubrWordInteger _ _ => some ⟨.sub, .int 16, .st 0, 0, 0⟩
  | .fidivWordInteger _ _ => some ⟨.div, .st 0, .int 16, 0, 0⟩
  | .fidivrWordInteger _ _ => some ⟨.div, .int 16, .st 0, 0, 0⟩
  | .faddpStiSt _ i => some ⟨.add, .st i, .st 0, i, 1⟩
  | .fmulpStiSt _ i => some ⟨.mul, .st i, .st 0, i, 1⟩
  | .reservedDErD0toD7 _ _ => none
  | .reservedDErD8 _ => none
  | .fcompp _ => none
  | .reservedDErDAtoDB _ _ => none
  | .reservedDErDCtoDF _ _ => none
  | .fsubrpStiSt _ i => some ⟨.sub, .st 0, .st i, i, 1⟩
  | .fsubpStiSt _ i => some ⟨.sub, .st i, .st 0, i, 1⟩
  | .fdivrpStiSt _ i => some ⟨.div, .st 0, .st i, i, 1⟩
  | .fdivpStiSt _ i => some ⟨.div, .st i, .st 0, i, 1⟩
  | .fildWordInteger _ _ => none
  | .reservedDFmem1 _ _ => none
  | .fistWordInteger _ _ => none
  | .fistpWordInteger _ _ => none
  | .fbldPackedDecimal _ _ => none
  | .fildLongInteger _ _ => none
  | .fbstpPackedDecimal _ _ => none
  | .fistpLongInteger _ _ => none
  | .reservedDFrC0toDF _ _ => none
  | .fstswAx _ => none
  | .reservedDFrE1 _ => none
  | .reservedDFrE2toE3 _ _ => none
  | .reservedDFrE4toE7 _ _ => none
  | .reservedDFrE8toEF _ _ => none
  | .reservedDFrF0toFF _ _ => none
  | .wait _ => none

/-- An instance of `cmp` (R230): the second operand, `unordered_quiet`, the pops. -/
structure CompareUse where
  operand : Source
  quiet : Bool
  pops : Nat
deriving DecidableEq, Repr

/-- The comparisons (R231 to R239). -/
def Instr.compareUse : Instr → Option CompareUse
  | .faddSingleReal _ _ => none
  | .fmulSingleReal _ _ => none
  | .fcomSingleReal _ _ => some ⟨.real single, false, 0⟩
  | .fcompSingleReal _ _ => some ⟨.real single, false, 1⟩
  | .fsubSingleReal _ _ => none
  | .fsubrSingleReal _ _ => none
  | .fdivSingleReal _ _ => none
  | .fdivrSingleReal _ _ => none
  | .faddStSti _ _ => none
  | .fmulStSti _ _ => none
  | .fcomSti _ i => some ⟨.st i, false, 0⟩
  | .fcompSti _ i => some ⟨.st i, false, 1⟩
  | .fsubStSti _ _ => none
  | .fsubrStSti _ _ => none
  | .fdivStSti _ _ => none
  | .fdivrStSti _ _ => none
  | .fldSingleReal _ _ => none
  | .reservedD9mem1 _ _ => none
  | .fstSingleReal _ _ => none
  | .fstpSingleReal _ _ => none
  | .fldenv _ _ => none
  | .fldcw _ _ => none
  | .fstenv _ _ => none
  | .fstcw _ _ => none
  | .fldSti _ _ => none
  | .fxchSti _ _ => none
  | .fnop _ => none
  | .reservedD9rD1 _ => none
  | .reservedD9rD2toD3 _ _ => none
  | .reservedD9rD4toD7 _ _ => none
  | .reservedD9rD8toDF _ _ => none
  | .fchs _ => none
  | .fabs _ => none
  | .reservedD9rE2 _ => none
  | .reservedD9rE3 _ => none
  | .ftst _ => some ⟨.image 0, false, 0⟩
  | .fxam _ => none
  | .reservedD9rE6 _ => none
  | .reservedD9rE7 _ => none
  | .fld1 _ => none
  | .fldl2t _ => none
  | .fldl2e _ => none
  | .fldpi _ => none
  | .fldlg2 _ => none
  | .fldln2 _ => none
  | .fldz _ => none
  | .reservedD9rEF _ => none
  | .f2xm1 _ => none
  | .fyl2x _ => none
  | .fptan _ => none
  | .fpatan _ => none
  | .fxtract _ => none
  | .fprem1 _ => none
  | .fdecstp _ => none
  | .fincstp _ => none
  | .fprem _ => none
  | .fyl2xp1 _ => none
  | .fsqrt _ => none
  | .fsincos _ => none
  | .frndint _ => none
  | .fscale _ => none
  | .fsin _ => none
  | .fcos _ => none
  | .fiaddShortInteger _ _ => none
  | .fimulShortInteger _ _ => none
  | .ficomShortInteger _ _ => some ⟨.int 32, false, 0⟩
  | .ficompShortInteger _ _ => some ⟨.int 32, false, 1⟩
  | .fisubShortInteger _ _ => none
  | .fisubrShortInteger _ _ => none
  | .fidivShortInteger _ _ => none
  | .fidivrShortInteger _ _ => none
  | .reservedDArC0toDF _ _ => none
  | .reservedDArE0toE7 _ _ => none
  | .reservedDArE8 _ => none
  | .fucompp _ => some ⟨.st 1, true, 2⟩
  | .reservedDArEAtoEB _ _ => none
  | .reservedDArECtoEF _ _ => none
  | .reservedDArF0toFF _ _ => none
  | .fildShortInteger _ _ => none
  | .reservedDBmem1 _ _ => none
  | .fistShortInteger _ _ => none
  | .fistpShortInteger _ _ => none
  | .reservedDBmem4 _ _ => none
  | .fldExtendedReal _ _ => none
  | .reservedDBmem6 _ _ => none
  | .fstpExtendedReal _ _ => none
  | .reservedDBrC0toDF _ _ => none
  | .feni _ => none
  | .fdisi _ => none
  | .fclex _ => none
  | .finit _ => none
  | .fsetpm _ => none
  | .reservedDBrE5 _ => none
  | .reservedDBrE6toE7 _ _ => none
  | .reservedDBrE8toEF _ _ => none
  | .reservedDBrF0toFF _ _ => none
  | .faddDoubleReal _ _ => none
  | .fmulDoubleReal _ _ => none
  | .fcomDoubleReal _ _ => some ⟨.real double, false, 0⟩
  | .fcompDoubleReal _ _ => some ⟨.real double, false, 1⟩
  | .fsubDoubleReal _ _ => none
  | .fsubrDoubleReal _ _ => none
  | .fdivDoubleReal _ _ => none
  | .fdivrDoubleReal _ _ => none
  | .faddStiSt _ _ => none
  | .fmulStiSt _ _ => none
  | .reservedDCrD0toDF _ _ => none
  | .fsubrStiSt _ _ => none
  | .fsubStiSt _ _ => none
  | .fdivrStiSt _ _ => none
  | .fdivStiSt _ _ => none
  | .fldDoubleReal _ _ => none
  | .reservedDDmem1 _ _ => none
  | .fstDoubleReal _ _ => none
  | .fstpDoubleReal _ _ => none
  | .frstor _ _ => none
  | .reservedDDmem5 _ _ => none
  | .fsave _ _ => none
  | .fstsw _ _ => none
  | .ffreeSti _ _ => none
  | .reservedDDrC8toCF _ _ => none
  | .fstSti _ _ => none
  | .fstpSti _ _ => none
  | .fucomSti _ i => some ⟨.st i, true, 0⟩
  | .fucompSti _ i => some ⟨.st i, true, 1⟩
  | .reservedDDrF0toFF _ _ => none
  | .fiaddWordInteger _ _ => none
  | .fimulWordInteger _ _ => none
  | .ficomWordInteger _ _ => some ⟨.int 16, false, 0⟩
  | .ficompWordInteger _ _ => some ⟨.int 16, false, 1⟩
  | .fisubWordInteger _ _ => none
  | .fisubrWordInteger _ _ => none
  | .fidivWordInteger _ _ => none
  | .fidivrWordInteger _ _ => none
  | .faddpStiSt _ _ => none
  | .fmulpStiSt _ _ => none
  | .reservedDErD0toD7 _ _ => none
  | .reservedDErD8 _ => none
  | .fcompp _ => some ⟨.st 1, false, 2⟩
  | .reservedDErDAtoDB _ _ => none
  | .reservedDErDCtoDF _ _ => none
  | .fsubrpStiSt _ _ => none
  | .fsubpStiSt _ _ => none
  | .fdivrpStiSt _ _ => none
  | .fdivpStiSt _ _ => none
  | .fildWordInteger _ _ => none
  | .reservedDFmem1 _ _ => none
  | .fistWordInteger _ _ => none
  | .fistpWordInteger _ _ => none
  | .fbldPackedDecimal _ _ => none
  | .fildLongInteger _ _ => none
  | .fbstpPackedDecimal _ _ => none
  | .fistpLongInteger _ _ => none
  | .reservedDFrC0toDF _ _ => none
  | .fstswAx _ => none
  | .reservedDFrE1 _ => none
  | .reservedDFrE2toE3 _ _ => none
  | .reservedDFrE4toE7 _ _ => none
  | .reservedDFrE8toEF _ _ => none
  | .reservedDFrF0toFF _ _ => none
  | .wait _ => none

/-- The loads of a memory operand (R201, R202, R203, R212, R213, R217). -/
inductive LoadUse
  | real (f : Fmt)
  | ext
  | int (bits : Nat)
  | bcd
deriving DecidableEq, Repr

/-- What a load reads. -/
def Instr.loadUse : Instr → Option LoadUse
  | .faddSingleReal _ _ => none
  | .fmulSingleReal _ _ => none
  | .fcomSingleReal _ _ => none
  | .fcompSingleReal _ _ => none
  | .fsubSingleReal _ _ => none
  | .fsubrSingleReal _ _ => none
  | .fdivSingleReal _ _ => none
  | .fdivrSingleReal _ _ => none
  | .faddStSti _ _ => none
  | .fmulStSti _ _ => none
  | .fcomSti _ _ => none
  | .fcompSti _ _ => none
  | .fsubStSti _ _ => none
  | .fsubrStSti _ _ => none
  | .fdivStSti _ _ => none
  | .fdivrStSti _ _ => none
  | .fldSingleReal _ _ => some (.real single)
  | .reservedD9mem1 _ _ => none
  | .fstSingleReal _ _ => none
  | .fstpSingleReal _ _ => none
  | .fldenv _ _ => none
  | .fldcw _ _ => none
  | .fstenv _ _ => none
  | .fstcw _ _ => none
  | .fldSti _ _ => none
  | .fxchSti _ _ => none
  | .fnop _ => none
  | .reservedD9rD1 _ => none
  | .reservedD9rD2toD3 _ _ => none
  | .reservedD9rD4toD7 _ _ => none
  | .reservedD9rD8toDF _ _ => none
  | .fchs _ => none
  | .fabs _ => none
  | .reservedD9rE2 _ => none
  | .reservedD9rE3 _ => none
  | .ftst _ => none
  | .fxam _ => none
  | .reservedD9rE6 _ => none
  | .reservedD9rE7 _ => none
  | .fld1 _ => none
  | .fldl2t _ => none
  | .fldl2e _ => none
  | .fldpi _ => none
  | .fldlg2 _ => none
  | .fldln2 _ => none
  | .fldz _ => none
  | .reservedD9rEF _ => none
  | .f2xm1 _ => none
  | .fyl2x _ => none
  | .fptan _ => none
  | .fpatan _ => none
  | .fxtract _ => none
  | .fprem1 _ => none
  | .fdecstp _ => none
  | .fincstp _ => none
  | .fprem _ => none
  | .fyl2xp1 _ => none
  | .fsqrt _ => none
  | .fsincos _ => none
  | .frndint _ => none
  | .fscale _ => none
  | .fsin _ => none
  | .fcos _ => none
  | .fiaddShortInteger _ _ => none
  | .fimulShortInteger _ _ => none
  | .ficomShortInteger _ _ => none
  | .ficompShortInteger _ _ => none
  | .fisubShortInteger _ _ => none
  | .fisubrShortInteger _ _ => none
  | .fidivShortInteger _ _ => none
  | .fidivrShortInteger _ _ => none
  | .reservedDArC0toDF _ _ => none
  | .reservedDArE0toE7 _ _ => none
  | .reservedDArE8 _ => none
  | .fucompp _ => none
  | .reservedDArEAtoEB _ _ => none
  | .reservedDArECtoEF _ _ => none
  | .reservedDArF0toFF _ _ => none
  | .fildShortInteger _ _ => some (.int 32)
  | .reservedDBmem1 _ _ => none
  | .fistShortInteger _ _ => none
  | .fistpShortInteger _ _ => none
  | .reservedDBmem4 _ _ => none
  | .fldExtendedReal _ _ => some (.ext)
  | .reservedDBmem6 _ _ => none
  | .fstpExtendedReal _ _ => none
  | .reservedDBrC0toDF _ _ => none
  | .feni _ => none
  | .fdisi _ => none
  | .fclex _ => none
  | .finit _ => none
  | .fsetpm _ => none
  | .reservedDBrE5 _ => none
  | .reservedDBrE6toE7 _ _ => none
  | .reservedDBrE8toEF _ _ => none
  | .reservedDBrF0toFF _ _ => none
  | .faddDoubleReal _ _ => none
  | .fmulDoubleReal _ _ => none
  | .fcomDoubleReal _ _ => none
  | .fcompDoubleReal _ _ => none
  | .fsubDoubleReal _ _ => none
  | .fsubrDoubleReal _ _ => none
  | .fdivDoubleReal _ _ => none
  | .fdivrDoubleReal _ _ => none
  | .faddStiSt _ _ => none
  | .fmulStiSt _ _ => none
  | .reservedDCrD0toDF _ _ => none
  | .fsubrStiSt _ _ => none
  | .fsubStiSt _ _ => none
  | .fdivrStiSt _ _ => none
  | .fdivStiSt _ _ => none
  | .fldDoubleReal _ _ => some (.real double)
  | .reservedDDmem1 _ _ => none
  | .fstDoubleReal _ _ => none
  | .fstpDoubleReal _ _ => none
  | .frstor _ _ => none
  | .reservedDDmem5 _ _ => none
  | .fsave _ _ => none
  | .fstsw _ _ => none
  | .ffreeSti _ _ => none
  | .reservedDDrC8toCF _ _ => none
  | .fstSti _ _ => none
  | .fstpSti _ _ => none
  | .fucomSti _ _ => none
  | .fucompSti _ _ => none
  | .reservedDDrF0toFF _ _ => none
  | .fiaddWordInteger _ _ => none
  | .fimulWordInteger _ _ => none
  | .ficomWordInteger _ _ => none
  | .ficompWordInteger _ _ => none
  | .fisubWordInteger _ _ => none
  | .fisubrWordInteger _ _ => none
  | .fidivWordInteger _ _ => none
  | .fidivrWordInteger _ _ => none
  | .faddpStiSt _ _ => none
  | .fmulpStiSt _ _ => none
  | .reservedDErD0toD7 _ _ => none
  | .reservedDErD8 _ => none
  | .fcompp _ => none
  | .reservedDErDAtoDB _ _ => none
  | .reservedDErDCtoDF _ _ => none
  | .fsubrpStiSt _ _ => none
  | .fsubpStiSt _ _ => none
  | .fdivrpStiSt _ _ => none
  | .fdivpStiSt _ _ => none
  | .fildWordInteger _ _ => some (.int 16)
  | .reservedDFmem1 _ _ => none
  | .fistWordInteger _ _ => none
  | .fistpWordInteger _ _ => none
  | .fbldPackedDecimal _ _ => some (.bcd)
  | .fildLongInteger _ _ => some (.int 64)
  | .fbstpPackedDecimal _ _ => none
  | .fistpLongInteger _ _ => none
  | .reservedDFrC0toDF _ _ => none
  | .fstswAx _ => none
  | .reservedDFrE1 _ => none
  | .reservedDFrE2toE3 _ _ => none
  | .reservedDFrE4toE7 _ _ => none
  | .reservedDFrE8toEF _ _ => none
  | .reservedDFrF0toFF _ _ => none
  | .wait _ => none

/-- The stores of ST(0) to memory (R206, R207, R209, R214 to R216, R218): the format and the pops. -/
structure StoreUse where
  format : LoadUse
  pops : Nat
deriving DecidableEq, Repr

/-- What a store writes. -/
def Instr.storeUse : Instr → Option StoreUse
  | .faddSingleReal _ _ => none
  | .fmulSingleReal _ _ => none
  | .fcomSingleReal _ _ => none
  | .fcompSingleReal _ _ => none
  | .fsubSingleReal _ _ => none
  | .fsubrSingleReal _ _ => none
  | .fdivSingleReal _ _ => none
  | .fdivrSingleReal _ _ => none
  | .faddStSti _ _ => none
  | .fmulStSti _ _ => none
  | .fcomSti _ _ => none
  | .fcompSti _ _ => none
  | .fsubStSti _ _ => none
  | .fsubrStSti _ _ => none
  | .fdivStSti _ _ => none
  | .fdivrStSti _ _ => none
  | .fldSingleReal _ _ => none
  | .reservedD9mem1 _ _ => none
  | .fstSingleReal _ _ => some ⟨.real single, 0⟩
  | .fstpSingleReal _ _ => some ⟨.real single, 1⟩
  | .fldenv _ _ => none
  | .fldcw _ _ => none
  | .fstenv _ _ => none
  | .fstcw _ _ => none
  | .fldSti _ _ => none
  | .fxchSti _ _ => none
  | .fnop _ => none
  | .reservedD9rD1 _ => none
  | .reservedD9rD2toD3 _ _ => none
  | .reservedD9rD4toD7 _ _ => none
  | .reservedD9rD8toDF _ _ => none
  | .fchs _ => none
  | .fabs _ => none
  | .reservedD9rE2 _ => none
  | .reservedD9rE3 _ => none
  | .ftst _ => none
  | .fxam _ => none
  | .reservedD9rE6 _ => none
  | .reservedD9rE7 _ => none
  | .fld1 _ => none
  | .fldl2t _ => none
  | .fldl2e _ => none
  | .fldpi _ => none
  | .fldlg2 _ => none
  | .fldln2 _ => none
  | .fldz _ => none
  | .reservedD9rEF _ => none
  | .f2xm1 _ => none
  | .fyl2x _ => none
  | .fptan _ => none
  | .fpatan _ => none
  | .fxtract _ => none
  | .fprem1 _ => none
  | .fdecstp _ => none
  | .fincstp _ => none
  | .fprem _ => none
  | .fyl2xp1 _ => none
  | .fsqrt _ => none
  | .fsincos _ => none
  | .frndint _ => none
  | .fscale _ => none
  | .fsin _ => none
  | .fcos _ => none
  | .fiaddShortInteger _ _ => none
  | .fimulShortInteger _ _ => none
  | .ficomShortInteger _ _ => none
  | .ficompShortInteger _ _ => none
  | .fisubShortInteger _ _ => none
  | .fisubrShortInteger _ _ => none
  | .fidivShortInteger _ _ => none
  | .fidivrShortInteger _ _ => none
  | .reservedDArC0toDF _ _ => none
  | .reservedDArE0toE7 _ _ => none
  | .reservedDArE8 _ => none
  | .fucompp _ => none
  | .reservedDArEAtoEB _ _ => none
  | .reservedDArECtoEF _ _ => none
  | .reservedDArF0toFF _ _ => none
  | .fildShortInteger _ _ => none
  | .reservedDBmem1 _ _ => none
  | .fistShortInteger _ _ => some ⟨.int 32, 0⟩
  | .fistpShortInteger _ _ => some ⟨.int 32, 1⟩
  | .reservedDBmem4 _ _ => none
  | .fldExtendedReal _ _ => none
  | .reservedDBmem6 _ _ => none
  | .fstpExtendedReal _ _ => some ⟨.ext, 1⟩
  | .reservedDBrC0toDF _ _ => none
  | .feni _ => none
  | .fdisi _ => none
  | .fclex _ => none
  | .finit _ => none
  | .fsetpm _ => none
  | .reservedDBrE5 _ => none
  | .reservedDBrE6toE7 _ _ => none
  | .reservedDBrE8toEF _ _ => none
  | .reservedDBrF0toFF _ _ => none
  | .faddDoubleReal _ _ => none
  | .fmulDoubleReal _ _ => none
  | .fcomDoubleReal _ _ => none
  | .fcompDoubleReal _ _ => none
  | .fsubDoubleReal _ _ => none
  | .fsubrDoubleReal _ _ => none
  | .fdivDoubleReal _ _ => none
  | .fdivrDoubleReal _ _ => none
  | .faddStiSt _ _ => none
  | .fmulStiSt _ _ => none
  | .reservedDCrD0toDF _ _ => none
  | .fsubrStiSt _ _ => none
  | .fsubStiSt _ _ => none
  | .fdivrStiSt _ _ => none
  | .fdivStiSt _ _ => none
  | .fldDoubleReal _ _ => none
  | .reservedDDmem1 _ _ => none
  | .fstDoubleReal _ _ => some ⟨.real double, 0⟩
  | .fstpDoubleReal _ _ => some ⟨.real double, 1⟩
  | .frstor _ _ => none
  | .reservedDDmem5 _ _ => none
  | .fsave _ _ => none
  | .fstsw _ _ => none
  | .ffreeSti _ _ => none
  | .reservedDDrC8toCF _ _ => none
  | .fstSti _ _ => none
  | .fstpSti _ _ => none
  | .fucomSti _ _ => none
  | .fucompSti _ _ => none
  | .reservedDDrF0toFF _ _ => none
  | .fiaddWordInteger _ _ => none
  | .fimulWordInteger _ _ => none
  | .ficomWordInteger _ _ => none
  | .ficompWordInteger _ _ => none
  | .fisubWordInteger _ _ => none
  | .fisubrWordInteger _ _ => none
  | .fidivWordInteger _ _ => none
  | .fidivrWordInteger _ _ => none
  | .faddpStiSt _ _ => none
  | .fmulpStiSt _ _ => none
  | .reservedDErD0toD7 _ _ => none
  | .reservedDErD8 _ => none
  | .fcompp _ => none
  | .reservedDErDAtoDB _ _ => none
  | .reservedDErDCtoDF _ _ => none
  | .fsubrpStiSt _ _ => none
  | .fsubpStiSt _ _ => none
  | .fdivrpStiSt _ _ => none
  | .fdivpStiSt _ _ => none
  | .fildWordInteger _ _ => none
  | .reservedDFmem1 _ _ => none
  | .fistWordInteger _ _ => some ⟨.int 16, 0⟩
  | .fistpWordInteger _ _ => some ⟨.int 16, 1⟩
  | .fbldPackedDecimal _ _ => none
  | .fildLongInteger _ _ => none
  | .fbstpPackedDecimal _ _ => some ⟨.bcd, 1⟩
  | .fistpLongInteger _ _ => some ⟨.int 64, 1⟩
  | .reservedDFrC0toDF _ _ => none
  | .fstswAx _ => none
  | .reservedDFrE1 _ => none
  | .reservedDFrE2toE3 _ _ => none
  | .reservedDFrE4toE7 _ _ => none
  | .reservedDFrE8toEF _ _ => none
  | .reservedDFrF0toFF _ _ => none
  | .wait _ => none

/-- What an instruction may do to TOP (R32). -/
inductive TopEffect
  | keeps
  | pushes
  | pops (k : Nat)
  | increments
  | decrements
  | sets
deriving DecidableEq, Repr

/-- What an instruction may do to the exception flags and SF (R34, R35). -/
inductive FlagEffect
  /-- It sets flags and clears none. -/
  | sets
  | clears
  /-- It loads them from memory. -/
  | loads
  /-- They are drawn. -/
  | drawn
deriving DecidableEq, Repr

/-- What an instruction may write: the contents of which stack registers (numbered before it executes), TOP,
the flags, the control word. -/
structure Writes where
  regs : List StIndex
  top : TopEffect
  flags : FlagEffect
  control : Bool
deriving DecidableEq, Repr

/-- Every stack index. -/
def everyRegister : List StIndex := [0, 1, 2, 3, 4, 5, 6, 7]

/-- What each instruction may write (R23, R32, R35, R42, and the instruction rules). -/
def Instr.writes : Instr → Writes
  | .faddSingleReal _ _ => ⟨[0], .keeps, .sets, false⟩
  | .fmulSingleReal _ _ => ⟨[0], .keeps, .sets, false⟩
  | .fcomSingleReal _ _ => ⟨[], .keeps, .sets, false⟩
  | .fcompSingleReal _ _ => ⟨[], .pops 1, .sets, false⟩
  | .fsubSingleReal _ _ => ⟨[0], .keeps, .sets, false⟩
  | .fsubrSingleReal _ _ => ⟨[0], .keeps, .sets, false⟩
  | .fdivSingleReal _ _ => ⟨[0], .keeps, .sets, false⟩
  | .fdivrSingleReal _ _ => ⟨[0], .keeps, .sets, false⟩
  | .faddStSti _ _ => ⟨[0], .keeps, .sets, false⟩
  | .fmulStSti _ _ => ⟨[0], .keeps, .sets, false⟩
  | .fcomSti _ _ => ⟨[], .keeps, .sets, false⟩
  | .fcompSti _ _ => ⟨[], .pops 1, .sets, false⟩
  | .fsubStSti _ _ => ⟨[0], .keeps, .sets, false⟩
  | .fsubrStSti _ _ => ⟨[0], .keeps, .sets, false⟩
  | .fdivStSti _ _ => ⟨[0], .keeps, .sets, false⟩
  | .fdivrStSti _ _ => ⟨[0], .keeps, .sets, false⟩
  | .fldSingleReal _ _ => ⟨[7], .pushes, .sets, false⟩
  | .reservedD9mem1 _ _ => ⟨everyRegister, .sets, .drawn, true⟩
  | .fstSingleReal _ _ => ⟨[], .keeps, .sets, false⟩
  | .fstpSingleReal _ _ => ⟨[], .pops 1, .sets, false⟩
  | .fldenv _ _ => ⟨[], .sets, .loads, true⟩
  | .fldcw _ _ => ⟨[], .keeps, .sets, true⟩
  | .fstenv _ _ => ⟨[], .keeps, .sets, true⟩
  | .fstcw _ _ => ⟨[], .keeps, .sets, false⟩
  | .fldSti _ _ => ⟨[7], .pushes, .sets, false⟩
  | .fxchSti _ i => ⟨[0, i], .keeps, .sets, false⟩
  | .fnop _ => ⟨[], .keeps, .sets, false⟩
  | .reservedD9rD1 _ => ⟨everyRegister, .sets, .drawn, true⟩
  | .reservedD9rD2toD3 _ _ => ⟨everyRegister, .sets, .drawn, true⟩
  | .reservedD9rD4toD7 _ _ => ⟨everyRegister, .sets, .drawn, true⟩
  | .reservedD9rD8toDF _ _ => ⟨everyRegister, .sets, .drawn, true⟩
  | .fchs _ => ⟨[0], .keeps, .sets, false⟩
  | .fabs _ => ⟨[0], .keeps, .sets, false⟩
  | .reservedD9rE2 _ => ⟨everyRegister, .sets, .drawn, true⟩
  | .reservedD9rE3 _ => ⟨everyRegister, .sets, .drawn, true⟩
  | .ftst _ => ⟨[], .keeps, .sets, false⟩
  | .fxam _ => ⟨[], .keeps, .sets, false⟩
  | .reservedD9rE6 _ => ⟨everyRegister, .sets, .drawn, true⟩
  | .reservedD9rE7 _ => ⟨everyRegister, .sets, .drawn, true⟩
  | .fld1 _ => ⟨[7], .pushes, .sets, false⟩
  | .fldl2t _ => ⟨[7], .pushes, .sets, false⟩
  | .fldl2e _ => ⟨[7], .pushes, .sets, false⟩
  | .fldpi _ => ⟨[7], .pushes, .sets, false⟩
  | .fldlg2 _ => ⟨[7], .pushes, .sets, false⟩
  | .fldln2 _ => ⟨[7], .pushes, .sets, false⟩
  | .fldz _ => ⟨[7], .pushes, .sets, false⟩
  | .reservedD9rEF _ => ⟨everyRegister, .sets, .drawn, true⟩
  | .f2xm1 _ => ⟨[0], .keeps, .sets, false⟩
  | .fyl2x _ => ⟨[1], .pops 1, .sets, false⟩
  | .fptan _ => ⟨[0, 7], .pushes, .sets, false⟩
  | .fpatan _ => ⟨[1], .pops 1, .sets, false⟩
  | .fxtract _ => ⟨[0, 7], .pushes, .sets, false⟩
  | .fprem1 _ => ⟨[0], .keeps, .sets, false⟩
  | .fdecstp _ => ⟨[], .decrements, .sets, false⟩
  | .fincstp _ => ⟨[], .increments, .sets, false⟩
  | .fprem _ => ⟨[0], .keeps, .sets, false⟩
  | .fyl2xp1 _ => ⟨[1], .pops 1, .sets, false⟩
  | .fsqrt _ => ⟨[0], .keeps, .sets, false⟩
  | .fsincos _ => ⟨[0, 7], .pushes, .sets, false⟩
  | .frndint _ => ⟨[0], .keeps, .sets, false⟩
  | .fscale _ => ⟨[0], .keeps, .sets, false⟩
  | .fsin _ => ⟨[0], .keeps, .sets, false⟩
  | .fcos _ => ⟨[0], .keeps, .sets, false⟩
  | .fiaddShortInteger _ _ => ⟨[0], .keeps, .sets, false⟩
  | .fimulShortInteger _ _ => ⟨[0], .keeps, .sets, false⟩
  | .ficomShortInteger _ _ => ⟨[], .keeps, .sets, false⟩
  | .ficompShortInteger _ _ => ⟨[], .pops 1, .sets, false⟩
  | .fisubShortInteger _ _ => ⟨[0], .keeps, .sets, false⟩
  | .fisubrShortInteger _ _ => ⟨[0], .keeps, .sets, false⟩
  | .fidivShortInteger _ _ => ⟨[0], .keeps, .sets, false⟩
  | .fidivrShortInteger _ _ => ⟨[0], .keeps, .sets, false⟩
  | .reservedDArC0toDF _ _ => ⟨everyRegister, .sets, .drawn, true⟩
  | .reservedDArE0toE7 _ _ => ⟨everyRegister, .sets, .drawn, true⟩
  | .reservedDArE8 _ => ⟨everyRegister, .sets, .drawn, true⟩
  | .fucompp _ => ⟨[], .pops 2, .sets, false⟩
  | .reservedDArEAtoEB _ _ => ⟨everyRegister, .sets, .drawn, true⟩
  | .reservedDArECtoEF _ _ => ⟨everyRegister, .sets, .drawn, true⟩
  | .reservedDArF0toFF _ _ => ⟨everyRegister, .sets, .drawn, true⟩
  | .fildShortInteger _ _ => ⟨[7], .pushes, .sets, false⟩
  | .reservedDBmem1 _ _ => ⟨everyRegister, .sets, .drawn, true⟩
  | .fistShortInteger _ _ => ⟨[], .keeps, .sets, false⟩
  | .fistpShortInteger _ _ => ⟨[], .pops 1, .sets, false⟩
  | .reservedDBmem4 _ _ => ⟨everyRegister, .sets, .drawn, true⟩
  | .fldExtendedReal _ _ => ⟨[7], .pushes, .sets, false⟩
  | .reservedDBmem6 _ _ => ⟨everyRegister, .sets, .drawn, true⟩
  | .fstpExtendedReal _ _ => ⟨[], .pops 1, .sets, false⟩
  | .reservedDBrC0toDF _ _ => ⟨everyRegister, .sets, .drawn, true⟩
  | .feni _ => ⟨[], .keeps, .sets, false⟩
  | .fdisi _ => ⟨[], .keeps, .sets, false⟩
  | .fclex _ => ⟨[], .keeps, .clears, false⟩
  | .finit _ => ⟨[], .sets, .clears, true⟩
  | .fsetpm _ => ⟨[], .keeps, .sets, false⟩
  | .reservedDBrE5 _ => ⟨everyRegister, .sets, .drawn, true⟩
  | .reservedDBrE6toE7 _ _ => ⟨everyRegister, .sets, .drawn, true⟩
  | .reservedDBrE8toEF _ _ => ⟨everyRegister, .sets, .drawn, true⟩
  | .reservedDBrF0toFF _ _ => ⟨everyRegister, .sets, .drawn, true⟩
  | .faddDoubleReal _ _ => ⟨[0], .keeps, .sets, false⟩
  | .fmulDoubleReal _ _ => ⟨[0], .keeps, .sets, false⟩
  | .fcomDoubleReal _ _ => ⟨[], .keeps, .sets, false⟩
  | .fcompDoubleReal _ _ => ⟨[], .pops 1, .sets, false⟩
  | .fsubDoubleReal _ _ => ⟨[0], .keeps, .sets, false⟩
  | .fsubrDoubleReal _ _ => ⟨[0], .keeps, .sets, false⟩
  | .fdivDoubleReal _ _ => ⟨[0], .keeps, .sets, false⟩
  | .fdivrDoubleReal _ _ => ⟨[0], .keeps, .sets, false⟩
  | .faddStiSt _ i => ⟨[i], .keeps, .sets, false⟩
  | .fmulStiSt _ i => ⟨[i], .keeps, .sets, false⟩
  | .reservedDCrD0toDF _ _ => ⟨everyRegister, .sets, .drawn, true⟩
  | .fsubrStiSt _ i => ⟨[i], .keeps, .sets, false⟩
  | .fsubStiSt _ i => ⟨[i], .keeps, .sets, false⟩
  | .fdivrStiSt _ i => ⟨[i], .keeps, .sets, false⟩
  | .fdivStiSt _ i => ⟨[i], .keeps, .sets, false⟩
  | .fldDoubleReal _ _ => ⟨[7], .pushes, .sets, false⟩
  | .reservedDDmem1 _ _ => ⟨everyRegister, .sets, .drawn, true⟩
  | .fstDoubleReal _ _ => ⟨[], .keeps, .sets, false⟩
  | .fstpDoubleReal _ _ => ⟨[], .pops 1, .sets, false⟩
  | .frstor _ _ => ⟨everyRegister, .sets, .loads, true⟩
  | .reservedDDmem5 _ _ => ⟨everyRegister, .sets, .drawn, true⟩
  | .fsave _ _ => ⟨[], .sets, .clears, true⟩
  | .fstsw _ _ => ⟨[], .keeps, .sets, false⟩
  | .ffreeSti _ _ => ⟨[], .keeps, .sets, false⟩
  | .reservedDDrC8toCF _ _ => ⟨everyRegister, .sets, .drawn, true⟩
  | .fstSti _ i => ⟨[i], .keeps, .sets, false⟩
  | .fstpSti _ i => ⟨[i], .pops 1, .sets, false⟩
  | .fucomSti _ _ => ⟨[], .keeps, .sets, false⟩
  | .fucompSti _ _ => ⟨[], .pops 1, .sets, false⟩
  | .reservedDDrF0toFF _ _ => ⟨everyRegister, .sets, .drawn, true⟩
  | .fiaddWordInteger _ _ => ⟨[0], .keeps, .sets, false⟩
  | .fimulWordInteger _ _ => ⟨[0], .keeps, .sets, false⟩
  | .ficomWordInteger _ _ => ⟨[], .keeps, .sets, false⟩
  | .ficompWordInteger _ _ => ⟨[], .pops 1, .sets, false⟩
  | .fisubWordInteger _ _ => ⟨[0], .keeps, .sets, false⟩
  | .fisubrWordInteger _ _ => ⟨[0], .keeps, .sets, false⟩
  | .fidivWordInteger _ _ => ⟨[0], .keeps, .sets, false⟩
  | .fidivrWordInteger _ _ => ⟨[0], .keeps, .sets, false⟩
  | .faddpStiSt _ i => ⟨[i], .pops 1, .sets, false⟩
  | .fmulpStiSt _ i => ⟨[i], .pops 1, .sets, false⟩
  | .reservedDErD0toD7 _ _ => ⟨everyRegister, .sets, .drawn, true⟩
  | .reservedDErD8 _ => ⟨everyRegister, .sets, .drawn, true⟩
  | .fcompp _ => ⟨[], .pops 2, .sets, false⟩
  | .reservedDErDAtoDB _ _ => ⟨everyRegister, .sets, .drawn, true⟩
  | .reservedDErDCtoDF _ _ => ⟨everyRegister, .sets, .drawn, true⟩
  | .fsubrpStiSt _ i => ⟨[i], .pops 1, .sets, false⟩
  | .fsubpStiSt _ i => ⟨[i], .pops 1, .sets, false⟩
  | .fdivrpStiSt _ i => ⟨[i], .pops 1, .sets, false⟩
  | .fdivpStiSt _ i => ⟨[i], .pops 1, .sets, false⟩
  | .fildWordInteger _ _ => ⟨[7], .pushes, .sets, false⟩
  | .reservedDFmem1 _ _ => ⟨everyRegister, .sets, .drawn, true⟩
  | .fistWordInteger _ _ => ⟨[], .keeps, .sets, false⟩
  | .fistpWordInteger _ _ => ⟨[], .pops 1, .sets, false⟩
  | .fbldPackedDecimal _ _ => ⟨[7], .pushes, .sets, false⟩
  | .fildLongInteger _ _ => ⟨[7], .pushes, .sets, false⟩
  | .fbstpPackedDecimal _ _ => ⟨[], .pops 1, .sets, false⟩
  | .fistpLongInteger _ _ => ⟨[], .pops 1, .sets, false⟩
  | .reservedDFrC0toDF _ _ => ⟨everyRegister, .sets, .drawn, true⟩
  | .fstswAx _ => ⟨[], .keeps, .sets, false⟩
  | .reservedDFrE1 _ => ⟨everyRegister, .sets, .drawn, true⟩
  | .reservedDFrE2toE3 _ _ => ⟨everyRegister, .sets, .drawn, true⟩
  | .reservedDFrE4toE7 _ _ => ⟨everyRegister, .sets, .drawn, true⟩
  | .reservedDFrE8toEF _ _ => ⟨everyRegister, .sets, .drawn, true⟩
  | .reservedDFrF0toFF _ _ => ⟨everyRegister, .sets, .drawn, true⟩
  | .wait _ => ⟨[], .keeps, .sets, false⟩

/-- The register that FFREE names, numbered before it executes (R347). -/
def Instr.freed : Instr → List StIndex
  | .ffreeSti _ i => [i]
  | _ => []

/-- The registers, numbered before it executes, whose tags an instruction may change: those it writes, pushes, pops or
frees; every one if it loads or sets all tags (R24, R170, R171, R347). -/
def Instr.tags (i : Instr) : List StIndex :=
  match i.writes.top with
  | .sets => everyRegister
  | .pops k => (List.range k).map (BitVec.ofNat 3) ++ i.writes.regs
  | .keeps => i.freed ++ i.writes.regs
  | .pushes => i.writes.regs
  | .increments => []
  | .decrements => []

end Sys2Proof

namespace Sys2Proof.Machine


/-! ### The operand of an instruction in a state -/

/-- The effective address of an instruction's memory operand (R107 to R111). -/
def State.operandRef (s : State) (i : Instr) : Option MemRef := i.memArg?.map (effectiveAddress s.cpu i.prefixes)

/-- The memory operand of an instruction in a state, with its size and direction. -/
def State.operand (s : State) (i : Instr) : Option (MemRef × OperandUse) :=
  match s.operandRef i, i.operandUse (s.operandSize i.prefixes) with
  | some r, some u => some (r, u)
  | _, _ => none

/-- The bytes an instruction may store to: those of a written operand. -/
def State.storedAddresses (s : State) (i : Instr) : List Nat :=
  match s.operand i with
  | some (r, u) => if u.stores then s.cpu.segs.addresses r u.bytes else []
  | none => []

/-- Every byte of the memory operand is accessible, and the host reports no fault on it (R78, R79). -/
def State.operandReady (s : State) (i : Instr) : Bool :=
  match s.operand i with
  | some (r, u) => s.cpu.segs.allowsBytes r u.bytes && !s.launch.hostFaultOn r u.bytes u.stores
  | none => true

/-! ### What an instruction leaves in the NPX -/

/-- The operand of an instruction as a number, zero for an instruction without one. -/
def State.operandValue (s : State) (i : Instr) : Nat :=
  match s.operand i with
  | some (r, u) => s.readOperand r u.bytes
  | none => 0

/-- An operand with its class, none for an empty register (R172, R261). -/
def State.source (s : State) (i : Instr) : Source → Option Opnd
  | .st k => s.npx.stOpnd k
  | .real f => some (f.opnd (s.operandValue i))
  | .int bits => some (intOpnd bits (s.operandValue i))
  | .image x => some (opndOf x)

/-- Registers, tags and TOP are what they were. -/
def Npx.SameStack (n m : Npx) : Prop := m.regs = n.regs ∧ m.empty = n.empty ∧ m.sw.top = n.sw.top

/-- The flags of `n` and those of `l`, SF as well if `fault`; the control word is what it was. -/
def Npx.Flagged (n m : Npx) (l : List Exc) (fault : Bool) : Prop :=
  (∀ e, m.sw.flag e = (n.sw.flag e || l.contains e)) ∧ m.sw.sf = (n.sw.sf || fault) ∧ m.cw = n.cw

/-- Whether physical register `j` is one of the top `k`. -/
def Npx.amongTop (n : Npx) (k : Nat) (j : BitVec 3) : Bool := decide ((j - n.sw.top).toNat < k)

/-- No register changes; the top `k` become empty, and TOP moves past them (R171). -/
def Npx.Popped (n m : Npx) (k : Nat) : Prop :=
  m.regs = n.regs ∧ (∀ j, m.isEmpty j = (n.amongTop k j || n.isEmpty j)) ∧ m.sw.top = n.sw.top + BitVec.ofNat 3 k

/-- Physical register `d` takes `x` and becomes nonempty, then the top `k` become empty; no other register
changes (R171, R174). -/
def Npx.Wrote (n m : Npx) (d : BitVec 3) (x : Ext) (k : Nat) : Prop :=
  (∀ j, m.reg j = if j = d then x else n.reg j) ∧
  (∀ j, m.isEmpty j = (n.amongTop k j || (decide (j ≠ d) && n.isEmpty j))) ∧ m.sw.top = n.sw.top + BitVec.ofNat 3 k

/-- TOP goes down, the new top takes `x` and becomes nonempty; no other register changes (R170). -/
def Npx.Pushed (n m : Npx) (x : Ext) : Prop :=
  (∀ j, m.reg j = if j = n.sw.top - 1 then x else n.reg j) ∧
  (∀ j, m.isEmpty j = (decide (j ≠ n.sw.top - 1) && n.isEmpty j)) ∧ m.sw.top = n.sw.top - 1

/-- The top takes `x`, then `y` is pushed; no other register changes. -/
def Npx.WrotePushed (n m : Npx) (x y : Ext) : Prop :=
  (∀ j, m.reg j = if j = n.sw.top - 1 then y else if j = n.sw.top then x else n.reg j) ∧
  (∀ j, m.isEmpty j = (decide (j ≠ n.sw.top - 1) && decide (j ≠ n.sw.top) && n.isEmpty j)) ∧
  m.sw.top = n.sw.top - 1

/-- DE, when an operand is denormal (R164). -/
def denormalFlag (a b : Opnd) : List Exc := if a.cls == .denormal || b.cls == .denormal then [.de] else []

/-- A denormal operand does not stop the instruction: there is none, or DE is masked (R164). -/
def Npx.denormalOk (n : Npx) (a b : Opnd) : Bool := !(a.cls == .denormal || b.cls == .denormal) || n.masked .de

/-- The exceptions of a result. -/
def Delivered.exceptions (r : Delivered) : List Exc :=
  (if r.oe then [.oe] else []) ++ (if r.ue then [.ue] else []) ++ (if r.pe then [.pe] else [])

/-- An operand whose value is a real number: Zero, Denormal or Normal (R142). -/
def Opnd.finite (a : Opnd) : Bool := a.cls == .zero || a.cls == .denormal || a.cls == .normal

/-- A finite operand other than a zero. -/
def Opnd.nonzero (a : Opnd) : Bool := a.cls == .denormal || a.cls == .normal

/-- An operand that is no NaN and of no unsupported class. -/
def Opnd.ordinary (a : Opnd) : Bool := a.finite || a.cls == .infinity

/-- The pairs of operands that are invalid for an operation (R261): infinities that cancel, zero times infinity, zero
by zero, infinity by infinity. -/
inductive InvalidPair : ArithOp → Opnd → Opnd → Prop
  | sum (a b : Opnd) : a.cls = .infinity → b.cls = .infinity → extSign a.img ≠ extSign b.img → InvalidPair .add a b
  | difference (a b : Opnd) : a.cls = .infinity → b.cls = .infinity → extSign a.img = extSign b.img → InvalidPair .sub a b
  | zeroTimes (a b : Opnd) : a.cls = .zero → b.cls = .infinity → InvalidPair .mul a b
  | timesZero (a b : Opnd) : a.cls = .infinity → b.cls = .zero → InvalidPair .mul a b
  | zeroByZero (a b : Opnd) : a.cls = .zero → b.cls = .zero → InvalidPair .div a b
  | infinityByInfinity (a b : Opnd) : a.cls = .infinity → b.cls = .infinity → InvalidPair .div a b

/-- The exact special sums of `a` and an operand `b` of effective sign `sb` (R261). -/
inductive SpecialSum (rc : RC) (a b : Opnd) (sb : Bool) : Ext → Prop
  | infinityLeft : a.cls = .infinity → b.finite = true → SpecialSum rc a b sb (extInf (extSign a.img))
  | infinityRight : a.finite = true → b.cls = .infinity → SpecialSum rc a b sb (extInf sb)
  | infinities : a.cls = .infinity → b.cls = .infinity → extSign a.img = sb → SpecialSum rc a b sb (extInf sb)
  | sameZeros : a.cls = .zero → b.cls = .zero → extSign a.img = sb → SpecialSum rc a b sb (extZero sb)
  | otherZeros : a.cls = .zero → b.cls = .zero → extSign a.img ≠ sb → SpecialSum rc a b sb (extZero (decide (rc = .down)))

/-- The exact special results of an operation (R261). -/
inductive SpecialResult (rc : RC) (a b : Opnd) : ArithOp → Ext → Prop
  | sum (x : Ext) : SpecialSum rc a b (extSign b.img) x → SpecialResult rc a b .add x
  | difference (x : Ext) : SpecialSum rc a b (!extSign b.img) x → SpecialResult rc a b .sub x
  | infinityTimes : a.cls = .infinity → b.cls = .infinity ∨ b.nonzero = true →
      SpecialResult rc a b .mul (extInf (extSign a.img ^^ extSign b.img))
  | timesInfinity : a.nonzero = true → b.cls = .infinity →
      SpecialResult rc a b .mul (extInf (extSign a.img ^^ extSign b.img))
  | zeroTimes : a.cls = .zero → b.finite = true →
      SpecialResult rc a b .mul (extZero (extSign a.img ^^ extSign b.img))
  | timesZero : a.nonzero = true → b.cls = .zero →
      SpecialResult rc a b .mul (extZero (extSign a.img ^^ extSign b.img))
  | infinityBy : a.cls = .infinity → b.finite = true →
      SpecialResult rc a b .div (extInf (extSign a.img ^^ extSign b.img))
  | byInfinity : a.finite = true → b.cls = .infinity →
      SpecialResult rc a b .div (extZero (extSign a.img ^^ extSign b.img))
  | zeroBy : a.cls = .zero → b.nonzero = true → SpecialResult rc a b .div (extZero (extSign a.img ^^ extSign b.img))

/-- C3, C2, C0. -/
def StatusWord.code (w : StatusWord) : Bool × Bool × Bool := (w.c3, w.c2, w.c0)

/-- The condition code of a comparison (R39). -/
def Order.code : Order → Bool × Bool × Bool
  | .greater => (false, false, false)
  | .less => (false, false, true)
  | .equal => (true, false, false)
  | .unordered => (true, true, true)

/-- The step from `s` to `t` took an interrupt `v`. -/
def State.Took (s t : State) (v : Interrupt) : Prop := ∃ e, e.vector = v ∧ t.taken = e :: s.taken

/-- The step from `s` to `t` took interrupt `v` before the instruction was executed: the return address is the
instruction's own, and nothing of the NPX, the pointers, memory and the general registers changes (R361, R383). -/
def State.TookHere (s t : State) (v : Interrupt) : Prop :=
  t.taken = ⟨v, ⟨s.cpu.segs.cs.selector, s.cpu.eip⟩, s.cpu.segs.cs⟩ :: s.taken ∧ t.npx = s.npx ∧ t.ptrs = s.ptrs ∧
  t.mem = s.mem ∧ t.cpu.gprs = s.cpu.gprs

/-- `push(x)` with its response to a full register (R170); `l` are the exceptions the instruction signals. -/
def Npx.PushRule (n m : Npx) (x : Ext) (l : List Exc) : Prop :=
  (n.isEmpty (n.sw.top - 1) = true → n.Pushed m x ∧ n.Flagged m l false ∧ m.sw.c1 = false) ∧
  (n.isEmpty (n.sw.top - 1) = false → n.masked .ie = true →
    n.Pushed m indefinite ∧ n.Flagged m [.ie] true ∧ m.sw.c1 = true) ∧
  (n.isEmpty (n.sw.top - 1) = false → n.masked .ie = false →
    n.SameStack m ∧ n.Flagged m [.ie] true ∧ m.sw.c1 = true)

/-- The response to an empty source register for an instruction that writes physical register `d` and pops `k`
times (R172, R173). -/
def Npx.UnderflowRule (n m : Npx) (d : BitVec 3) (k : Nat) : Prop :=
  n.Flagged m [.ie] true ∧ m.sw.c1 = false ∧
  (n.masked .ie = true → n.Wrote m d indefinite k) ∧ (n.masked .ie = false → n.SameStack m)

/-- An exception that stops an instruction before it computes, if it is unmasked: a flag, and nothing else (R169). -/
def Npx.Stopped (n m : Npx) (l : List Exc) : Prop := n.SameStack m ∧ n.Flagged m l false ∧ m.sw.c1 = false

/-- The word at an offset of a memory operand (R72, R73). -/
def State.wordAt (t : State) (r : MemRef) (off : Nat) : BitVec 16 :=
  BitVec.ofNat 16 (t.mem.readList [t.cpu.segs.address r off, t.cpu.segs.address r (off + 1)])

/-- The ten bytes at an offset of a memory operand as a register image (R92). -/
def State.imageAt (t : State) (r : MemRef) (off : Nat) : Ext :=
  BitVec.ofNat 80 (t.mem.readList ((List.range 10).map fun k => t.cpu.segs.address r (off + k)))

/-! ### When an instruction executes normally (R350, R361) -/

/-- No interrupt 7 (R376). -/
def State.available (s : State) (i : Instr) : Bool :=
  if i.isWait then !(s.cpu.ts && s.cpu.mp) else !(s.cpu.em || s.cpu.ts)

/-- Step 2 of R361 lets the instruction go on: it does not wait, or BUSY# and ERROR# are inactive. -/
def State.proceeds (s : State) (i : Instr) : Bool := !i.waits s.params || (!s.busyIn && !s.errorIn)

/-- The conditions under which an instruction executes normally (R361); a reserved encoding must also have
a meaning (R122). -/
def State.ready (s : State) (i : Instr) : Bool :=
  s.available i && s.proceeds i && s.operandReady i && (!i.reserved || decide (s.params.reservedEsc = .draw))

/-! ### The invariant -/

/-- What holds between steps: memory in canonical form, BUSY# and PEREQ inactive (R427), the bus logic idle (assumption
39), and the reserved control-word bits as they read back (R44). -/
structure State.Inv (s : State) : Prop where
  mem : s.mem.wf = true
  busy : s.busy = false
  pereq : s.pereq = false
  bus : s.bus = .ti
  control : readbackCw s.params.cwReadback s.npx.cw = s.npx.cw

end Sys2Proof.Machine
end

