-- ==== Sys2Proof/Meaning.lean ====
section
/-! DEFINITION. The real numbers that images and exact results stand for, and what rounding and delivering a real
number means (R142, R143, R150, R153, R166, R167, R183): the terms in which numerical claims are made. Nothing here
is computed by the machine. -/

namespace Sys2Proof.Machine

/-- The real number an exact magnitude stands for. -/
noncomputable def Mag.real : Mag → ℝ
  | .ratio n d k => (n : ℝ) / d * 2 ^ k
  | .root n k => Real.sqrt (n * 2 ^ k)

/-- A sign as a factor. -/
def signOf (neg : Bool) : ℝ := if neg then -1 else 1

/-- The real number `±m·2^k`. -/
noncomputable def Val.real (v : Val) : ℝ := signOf v.neg * v.m * 2 ^ v.k

/-- `val(x)` of a Zero, Denormal or Normal image (R142). -/
noncomputable def extReal (x : Ext) : ℝ := (valOf x).real

/-- The value of a Zero, Denormal or Normal image of a memory real format (R143). -/
noncomputable def Fmt.real (f : Fmt) (v : Nat) : ℝ :=
  signOf (f.sign v) *
    if f.exp v = 0 then (f.frac v : ℝ) * 2 ^ (1 - (f.bias : ℤ) - f.fracBits)
    else (2 ^ f.fracBits + f.frac v : ℝ) * 2 ^ ((f.exp v : ℤ) - f.bias - f.fracBits)

/-- The value of a rounded magnitude. -/
noncomputable def Rounded.real (r : Rounded) : ℝ := (r.q : ℝ) * 2 ^ r.t

/-- `floor(log2 x)`. -/
noncomputable def floorLog2 (x : ℝ) : ℤ := ⌊Real.logb 2 x⌋

/-- `mag` is the multiple of `ulp` to which a value of sign `neg` and magnitude `x` is rounded (R150). -/
noncomputable def IsRounded (rc : RC) (neg : Bool) (x ulp mag : ℝ) : Prop :=
  let lo := (⌊x / ulp⌋ : ℝ) * ulp
  let hi := lo + ulp
  match rc with
  | .nearest =>
    (x - lo < hi - x → mag = lo) ∧ (hi - x < x - lo → mag = hi) ∧
    (x - lo = hi - x → (Even ⌊x / ulp⌋ → mag = lo) ∧ (Odd ⌊x / ulp⌋ → mag = hi))
  | .down => if neg then (lo = x → mag = lo) ∧ (lo ≠ x → mag = hi) else mag = lo
  | .up => if neg then mag = lo else (lo = x → mag = lo) ∧ (lo ≠ x → mag = hi)
  | .chop => mag = lo

/-- The unit in the last place of a precision-`p` significand of magnitude `x` (R150). -/
noncomputable def ulpOf (x : ℝ) (p : Nat) : ℝ := 2 ^ (floorLog2 x - p + 1)

/-- `img` is the register image of sign `neg` and magnitude `y`, a value of the extended format (R142). -/
noncomputable def IsImage (img : Ext) (neg : Bool) (y : ℝ) : Prop :=
  extSign img = neg ∧ extReal img = signOf neg * y ∧
  (y = 0 → classOf img = .zero) ∧ (0 < y → y < 2 ^ (-16382 : ℤ) → classOf img = .denormal) ∧
  (2 ^ (-16382 : ℤ) ≤ y → classOf img = .normal)

/-- The exceptions and C1 of a delivered result. -/
def Delivered.Signals (d : Delivered) (oe ue inexact roundup : Prop) : Prop :=
  (d.oe = true ↔ oe) ∧ (d.ue = true ↔ ue) ∧ (d.pe = true ↔ inexact) ∧ (d.c1 = true ↔ roundup)

/-- `d` is what `deliver(v, p)` answers for the value of sign `neg` and magnitude `x > 0` (R153), with the responses
to overflow (R166) and underflow (R167); `om`, `um` are the masks. An unmasked result whose moved exponent is still
outside the format has no stated image. -/
noncomputable def IsDelivered (rc : RC) (om um : Bool) (neg : Bool) (x : ℝ) (p : Nat) (d : Delivered) : Prop :=
  ∃ mag, IsRounded rc neg x (ulpOf x p) mag ∧
    let e := floorLog2 mag
    (16383 < e → om = true → d.Signals True False True (overflowToInf rc neg = true) ∧
      d.img = if overflowToInf rc neg then extInf neg else maxFinite neg p) ∧
    (16383 < e → om = false → d.Signals True False (mag ≠ x) (x < mag) ∧
      (e - 24576 ≤ 16383 → IsImage d.img neg (mag * 2 ^ (-24576 : ℤ)))) ∧
    (e < -16382 → um = true → ∃ den, IsRounded rc neg x (2 ^ (-16382 - (p : ℤ) + 1)) den ∧
      d.Signals False (den ≠ x) (den ≠ x) (x < den) ∧ IsImage d.img neg den) ∧
    (e < -16382 → um = false → d.Signals False True (mag ≠ x) (x < mag) ∧
      (-16382 ≤ e + 24576 → IsImage d.img neg (mag * 2 ^ (24576 : ℤ)))) ∧
    (-16382 ≤ e → e ≤ 16383 → d.Signals False False (mag ≠ x) (x < mag) ∧ IsImage d.img neg mag)

/-- The exact value of an operation (R261). -/
noncomputable def ArithOp.real : ArithOp → ℝ → ℝ → ℝ
  | .add, a, b => a + b
  | .sub, a, b => a - b
  | .mul, a, b => a * b
  | .div, a, b => a / b

end Sys2Proof.Machine
end

