-- ==== Sys2Proof/Certificates/Slice0/Obligations.lean ====
section
/-! DEFINITION. The statements for the provers. -/

open Sys2Proof Sys2Proof.Machine

/-! ### Encoding -/

/-- Every well-formed instruction is read back from its own bytes, whatever follows them: no bit of a prefix, an opcode,
a ModRM or SIB byte or a displacement is dropped (R101, R104 to R110). -/
def Obligations.DecodeEncode : Prop :=
  ∀ (dflt : Size) (i : Instr) (rest : List Byte), i.wf dflt = true → decode dflt (encode i ++ rest) = .ok (i, rest)

/-- What the decoder reads is what the encoder writes: two byte sequences of one instruction are equal, so every
accepted encoding is canonical; and an instruction of at most 15 bytes that was read is well formed. -/
def Obligations.EncodeDecode : Prop :=
  ∀ (dflt : Size) (bs rest : List Byte) (i : Instr), decode dflt bs = .ok (i, rest) →
    encode i ++ rest = bs ∧ (i.length ≤ maxLength → i.wf dflt = true)

/-- Every byte pair that begins with 11011B is an instruction after any prefixes, once enough bytes follow; the
instruction has these prefixes, and 2 to 7 bytes without them; it has a memory operand in forms 1 and 2 of the data sheet,
and in the others nothing after its second byte (R100, R101, R102, R104; that the decoder reads prefixes in any
order and number, past 15 bytes too, is the model's choice, assumption 30). -/
def Obligations.EscBytesDecode : Prop :=
  ∀ (dflt : Size) (pre : List Prefix) (b1 b2 : Byte) (tail : List Byte),
    b1.extractLsb' 3 5 = 0b11011 → 5 ≤ tail.length →
    ∃ i rest, decode dflt (pre.map prefixByte ++ b1 :: b2 :: tail) = .ok (i, rest) ∧ i.prefixes = pre ∧
      pre.length + 2 ≤ i.length ∧ i.length ≤ pre.length + 7 ∧
      (i.memArg?.isSome = true ↔ escForm b1 b2 = some .one ∨ escForm b1 b2 = some .two) ∧
      (i.memArg? = none → i.length = pre.length + 2)

/-- Eight words of the opcode table, among them the four that fit no form of the data sheet, and the two instructions of
the listing of Figure 7-8, decode to the instructions they stand for (R102, R112, R114 to R121, R124). -/
def Obligations.DecodedWords : Prop :=
  decodeTableWord 16 0xD9E8 = some (.fld1 []) ∧ decodeTableWord 16 0xDEC1 = some (.faddpStiSt [] 1) ∧
  decodeTableWord 16 0xDAE9 = some (.fucompp []) ∧ decodeTableWord 16 0xDBE3 = some (.finit []) ∧
  decodeTableWord 16 0xD9D0 = some (.fnop []) ∧ decodeTableWord 16 0xDED9 = some (.fcompp []) ∧
  decodeTableWord 16 0xDFE0 = some (.fstswAx []) ∧ decodeTableWord 8 0x9B = some (.wait []) ∧
  decode .s32 [0xDC, 0x0C, 0x0B] = .ok (.fmulDoubleReal [] (.sib .x1 (some .ecx) .ebx .none), []) ∧
  decode .s32 [0xDC, 0x04, 0x0A] = .ok (.faddDoubleReal [] (.sib .x1 (some .ecx) .edx .none), [])

/-! ### The step and its invariant -/

/-- When the bytes at CS:EIP are those of a well-formed instruction inside the code segment, a step is that
instruction's effect; EIP is moved by the instruction itself (R48, R361). The model's choices: the bytes are those memory
holds at that moment, unless the parameter `self_modifying_code` refuses bytes the program has stored (92 D16, assumption
31); an instruction has at most 15 bytes (assumption 30); and it must lie inside the limit (92 D3, assumption 32). -/
def Obligations.StepRunsDecoded : Prop :=
  ∀ (s : State) (i : Instr), s.stranded = false → s.launch.endAddress ≠ some s.cpu.eip →
    i.wf s.cpu.addressSize = true → s.codeAllowed i.length = true →
    (s.params.selfModifyingCode = .refuse → ∀ k < i.length,
      (s.cpu.segs.cs.base + (s.cpu.eip + BitVec.ofNat 32 k)).toNat ∉ s.stored) →
    (∀ (k : Nat) (h : k < (encode i).length),
      s.mem.read (s.cpu.segs.cs.base + (s.cpu.eip + BitVec.ofNat 32 k)).toNat = (encode i)[k]) →
    step s = exec i s

/-- Every step keeps the invariant: memory stays in canonical form, BUSY# and PEREQ are inactive between steps
(R427), the bus logic is idle between steps (read from R427, assumption 39), and the control word's reserved bits stay as they read back (R44). -/
def Obligations.StepKeepsInvariant : Prop := ∀ s t : State, s.Inv → step s = .next t → t.Inv

/-- The state after reset meets the invariant. -/
def Obligations.ResetInvariant : Prop := State.reset.Inv

/-- The NPX after a hardware RESET, from any state, and the state the machine starts in: CW = 037EH, SW = 8081H, every
register tagged empty, the pointers zero, ERROR# active, the bus logic idle (R60, R63 to R66, R411). -/
def Obligations.ResetValues : Prop :=
  ∀ s t : State, t = s.hardwareReset ∨ t = State.reset →
    t.npx.cw = 0x037E ∧ t.npx.statusWord = 0x8081 ∧ t.npx.tagWord = 0xFFFF ∧ t.ptrs = ⟨0, 0, 0, 0, 0⟩ ∧
    t.errorPin = true ∧ t.busy = false ∧ t.pereq = false ∧ t.bus = .ti

/-- The status word's layout: B is a copy of ES, and ES is set exactly when an exception flag is set whose mask bit
is clear; ERROR# is asserted while ES is set (R31, R33). The places of the other bits are R30's, those of C3, C2 and C0
general knowledge (assumption 40). The tag word: field k is 11B for an empty register, else 01B for a zero, 00B for a
normal number and 10B for every other class of the register's content (R24, R25, R145; the codes are general knowledge,
assumption 40). -/
def Obligations.StatusAndTagWords : Prop :=
  (∀ n : Npx, n.statusWord =
       BitVec.ofBool n.es ++ BitVec.ofBool n.sw.c3 ++ n.sw.top ++ BitVec.ofBool n.sw.c2 ++ BitVec.ofBool n.sw.c1 ++
         BitVec.ofBool n.sw.c0 ++ BitVec.ofBool n.es ++ BitVec.ofBool n.sw.sf ++ BitVec.ofBool n.sw.pe ++
         BitVec.ofBool n.sw.ue ++ BitVec.ofBool n.sw.oe ++ BitVec.ofBool n.sw.ze ++ BitVec.ofBool n.sw.de ++
         BitVec.ofBool n.sw.ie ∧
     (n.es = true ↔ ∃ e, n.sw.flag e = true ∧ n.masked e = false)) ∧
  (∀ s : State, s.errorPin = s.npx.es) ∧
  (∀ (n : Npx) (k : BitVec 3), n.tagWord.extractLsb' (2 * k.toNat) 2 =
     if n.isEmpty k then 3
     else if classOf (n.reg k) = .zero then 1
     else if classOf (n.reg k) = .normal then 0
     else 2)

/-! ### Entering an instruction: interrupts 7, 16, 13, 9 and BUSY# -/

/-- Interrupt 7: every ESC instruction, no-wait forms included, when EM or TS is set; WAIT when TS and MP are set, and
in no other case (R376; that WAIT looks at MP is general knowledge, R50, 92 D7, assumption 40). Before anything else is
looked at (92 D13), and with no change of NPX state or pointers; that the entry changes no byte of memory and no general
register is the model's choice (assumption 10). -/
def Obligations.Interrupt7 : Prop :=
  (∀ (i : Instr) (s : State), i.isWait = false → s.cpu.em = true ∨ s.cpu.ts = true →
    ∃ t, exec i s = .next t ∧ s.TookHere t .deviceNotAvailable) ∧
  (∀ (pre : List Prefix) (s : State), s.cpu.ts = true → s.cpu.mp = true →
    ∃ t, exec (.wait pre) s = .next t ∧ s.TookHere t .deviceNotAvailable) ∧
  (∀ (pre : List Prefix) (s t : State), s.cpu.ts = false ∨ s.cpu.mp = false → exec (.wait pre) s = .next t →
    ¬s.Took t .deviceNotAvailable)

/-- Interrupt 16: a waiting instruction that meets ES = 1 takes it instead of being executed; no NPX state and no
pointer changes, and the return address is the instruction's own (R380). The instructions that do not take it are FNINIT,
FNCLEX, FNSTSW AX, FNSTSW, FNSTENV and FNSAVE, and FNSTCW where the parameter says so (R371). That the entry changes no
byte of memory and no general register is the model's choice (assumption 10). -/
def Obligations.Interrupt16 : Prop :=
  (∀ (i : Instr) (s : State), s.params.platform = .standard → s.available i = true → i.waits s.params = true →
     s.busyIn = false → s.npx.es = true →
     ∃ t, exec i s = .next t ∧ s.TookHere t .numericException ∧ (s.launch.handler16 = none → t.cpu.eip = s.cpu.eip)) ∧
  (∀ (i : Instr) (s t : State), s.params.platform = .standard → s.available i = true → s.busyIn = false →
     s.npx.es = true → exec i s = .next t →
     (s.Took t .numericException ↔
       ¬((∃ pre, i = .finit pre ∨ i = .fclex pre ∨ i = .fstswAx pre) ∨
         (∃ pre m, i = .fstsw pre m ∨ i = .fstenv pre m ∨ i = .fsave pre m ∨
           (i = .fstcw pre m ∧ s.params.fnstcwChecksError = false)))))

/-- The limit checks of an operand (R78). Interrupt 13: the first word or doubleword of the operand is not entirely
accessible; the 80387 has not executed the instruction (R382; the width is 92 D9). Interrupt 9: the operand starts inside
its segment and runs out of it; no byte outside the accessible bytes of a stored operand changes, and no 80386 general
register does (R381; what else remains is drawn, assumption 28). That entering an interrupt changes no byte of memory
and no general register is the model's choice (assumption 10). -/
def Obligations.LimitChecks : Prop :=
  (∀ (i : Instr) (s : State) (r : MemRef) (u : OperandUse), s.available i = true → s.proceeds i = true →
     s.operand i = some (r, u) →
     s.cpu.segs.allowsBytes r (if r.size = .s16 ∨ u.bytes = 2 then 2 else 4) = false →
     ∃ t, exec i s = .next t ∧ s.TookHere t .generalProtection) ∧
  (∀ (i : Instr) (s : State) (r : MemRef) (u : OperandUse), s.available i = true → s.proceeds i = true →
     s.operand i = some (r, u) →
     s.cpu.segs.allowsBytes r (if r.size = .s16 ∨ u.bytes = 2 then 2 else 4) = true →
     s.launch.hostFaultOn r u.bytes u.stores = false → s.cpu.segs.allowsBytes r u.bytes = false →
     ∃ t, exec i s = .next t ∧ s.Took t .segmentOverrun ∧ t.cpu.gprs = s.cpu.gprs ∧
       (∀ a, (u.stores = true → ∀ k < u.bytes, s.cpu.segs.allowsByte r k = true → s.cpu.segs.address r k ≠ a) →
         t.mem.read a = s.mem.read a))

/-- A waiting instruction holds while BUSY# is active: nothing changes (R53, R361). WAIT does nothing but move EIP
on, when no interrupt is due and BUSY# is inactive (R350). -/
def Obligations.WaitsForBusy : Prop :=
  (∀ (i : Instr) (s : State), s.available i = true → i.waits s.params = true → s.busyIn = true → exec i s = .next s) ∧
  (∀ (pre : List Prefix) (s : State), s.cpu.ts = false ∨ s.cpu.mp = false → s.busyIn = false → s.errorIn = false →
     ∃ t, exec (.wait pre) s = .next t ∧ t.npx = s.npx ∧ t.ptrs = s.ptrs ∧ t.mem = s.mem ∧ t.taken = s.taken ∧
       t.cpu = { s.cpu with eip := s.cpu.eip + BitVec.ofNat 32 (pre.length + 1) })

/-- Entry and return of interrupts 7, 13 and 16: the processor goes to the handler the launch supplies and stays where it
is when there is none; a return from the handler leads back to the interrupted instruction, with nothing in the NPX
changed by entry and return (R374, R383; that the launch supplies handlers is assumption 10, the return a host
operation, assumption 11). -/
def Obligations.EntryAndReturn : Prop :=
  ∀ (i : Instr) (s t : State) (v : Interrupt), exec i s = .next t → s.TookHere t v → v ≠ .segmentOverrun →
    t.cpu = (match s.launch.handler v with
      | some h => { s.cpu with eip := h.eip, segs := { s.cpu.segs with cs := h.code } }
      | none => s.cpu) ∧
    t.returnFromInterrupt = s

/-- Where the machine stops by name. A step: after an interrupt without a handler, at the end address, at bytes that
are no instruction, at the code-segment limit, and, where the parameter `self_modifying_code` refuses it, at a byte the
program has stored (R5, R427, 92 D16; assumptions 30, 31, 32). An instruction: the host reports a fault of
its own on the operand (R79, assumption 9), or the encoding is reserved and the parameter `reserved_esc` refuses it (R122,
assumption 16). -/
def Obligations.StopsByName : Prop :=
  (∀ s : State,
     (s.stranded = true → step s = .fault .interruptWithoutHandler) ∧
     (s.stranded = false → s.launch.endAddress = some s.cpu.eip → step s = .fault .runEnded) ∧
     (s.stranded = false → s.launch.endAddress ≠ some s.cpu.eip →
       (∀ e, s.fetch = .error e → step s = .refused (.undecodable e)) ∧
       (∀ p, s.fetch = .ok p → s.codeAllowed p.2 = false → step s = .refused .codeSegmentLimit) ∧
       (∀ p, s.fetch = .ok p → s.codeAllowed p.2 = true → s.params.selfModifyingCode = .refuse →
         (∃ k < p.2, (s.cpu.segs.cs.base + (s.cpu.eip + BitVec.ofNat 32 k)).toNat ∈ s.stored) →
         step s = .refused .selfModifyingCode))) ∧
  ((∀ (i : Instr) (s : State) (r : MemRef) (u : OperandUse), s.available i = true → s.proceeds i = true →
     s.operand i = some (r, u) →
     s.cpu.segs.allowsBytes r (if r.size = .s16 ∨ u.bytes = 2 then 2 else 4) = true →
     s.launch.hostFaultOn r u.bytes u.stores = true → exec i s = .fault .hostMemoryFault) ∧
   (∀ (i : Instr) (s : State), i.reserved = true → s.params.reservedEsc = .refuse → s.available i = true →
     s.proceeds i = true → exec i s = .refused .reservedEncoding))

/-! ### What every instruction does, and what it leaves alone -/

/-- Every instruction, reserved encodings included when they have a meaning, executes when no interrupt 7 is due,
BUSY# and ERROR# let it go on and its operand is accessible: it ends in a next state, no interrupt is taken, EIP has
moved past the instruction and BUSY# and PEREQ are inactive (R48, R361, R370). That reserved encodings complete and have no
operand to check is the model's choice (assumption 16), and so is that EIP advances modulo 2^32 in 16-bit code (92 D3,
assumption 32). -/
def Obligations.EveryInstructionCompletes : Prop :=
  ∀ (i : Instr) (s : State), s.ready i = true →
    ∃ t, exec i s = .next t ∧ t.taken = s.taken ∧ t.cpu.eip = s.cpu.eip + BitVec.ofNat 32 i.length ∧
      t.cpu.segs = s.cpu.segs ∧ t.busy = false ∧ t.pereq = false

/-- The pointers (R47, R175): a numeric instruction leaves its own address and the eleven opcode bits, and its operand's
address if it has one of a known size; FINIT and FSAVE leave zeros; the other administrative instructions but FLDENV and
FRSTOR leave them alone (92 D6). In protected mode an address is selector and offset, else a linear address with a zero
selector (92 D11). That a reserved encoding updates the pointers as a numeric instruction does is the model's choice
(assumption 16). -/
def Obligations.PointersUpdated : Prop :=
  ∀ (i : Instr) (s : State), s.ready i = true →
    ∃ t, exec i s = .next t ∧
      (i.administrative = false →
        t.ptrs.fop = ((encode i).getD i.prefixes.length 0).extractLsb' 0 3 ++ (encode i).getD (i.prefixes.length + 1) 0 ∧
        (s.cpu.mode = .protectedMode → t.ptrs.fcs = s.cpu.segs.cs.selector ∧ t.ptrs.fip = s.cpu.eip) ∧
        (s.cpu.mode ≠ .protectedMode →
          t.ptrs.fcs = 0 ∧ t.ptrs.fip = (s.cpu.segs.cs.selector.setWidth 32 <<< 4) + s.cpu.eip) ∧
        ∀ r u, s.operand i = some (r, u) →
          (s.cpu.mode = .protectedMode → t.ptrs.fds = (s.cpu.segs.get r.seg).selector ∧ t.ptrs.fdp = r.off) ∧
          (s.cpu.mode ≠ .protectedMode →
            t.ptrs.fds = 0 ∧ t.ptrs.fdp = ((s.cpu.segs.get r.seg).selector.setWidth 32 <<< 4) + r.off)) ∧
      (i.administrative = true → i.writes.top ≠ .sets → t.ptrs = s.ptrs) ∧
      (∀ pre, i = .finit pre → t.ptrs = ⟨0, 0, 0, 0, 0⟩) ∧
      (∀ pre m, i = .fsave pre m → t.ptrs = ⟨0, 0, 0, 0, 0⟩)

/-- The frame of the 80386: FSTSW AX writes AX, and no other instruction writes a general register; EFLAGS, CR0's bits,
the mode, the size attributes and the segment registers but CS stay, and CS stays unless an interrupt is taken; what the
launch supplies and the parameters stay, and on the standard connection IRQ13 and the latches of the other one do (R26,
R50, R327). The model's choices: the mode and CR0 are inputs (assumption 34), an interrupt entry leaves ESP (assumption
10), interrupt 9 leaves the general registers (assumption 28), and so does a reserved encoding (assumption 16). -/
def Obligations.HostFrame : Prop :=
  ∀ (i : Instr) (s t : State), exec i s = .next t →
    t.cpu = { s.cpu with gprs := t.cpu.gprs, eip := t.cpu.eip, segs := { s.cpu.segs with cs := t.cpu.segs.cs } } ∧
    (t.taken = s.taken → t.cpu.segs.cs = s.cpu.segs.cs) ∧
    (t.cpu.gprs = s.cpu.gprs ∨
      ∃ pre, i = .fstswAx pre ∧
        t.cpu.gprs = { s.cpu.gprs with eax := s.cpu.gprs.eax.extractLsb' 16 16 ++ s.npx.statusWord }) ∧
    t.launch = s.launch ∧ t.params = s.params ∧
    (s.params.platform = .standard →
      t.irq13 = s.irq13 ∧ t.busyLatch = s.busyLatch ∧ t.pereqLatch = s.pereqLatch)

/-- The frame of memory: every byte outside the operand of a storing instruction reads as before; an instruction that
stores nothing changes no byte (R72, R75, R88). The operand's address is computed as the instruction computes it. The
model's choices: a reserved memory form stores nothing (assumption 16), interrupt 9 changes no byte but the operand's
(assumption 28), and an interrupt entry writes no stack (assumption 10). The addresses the machine records as stored (its
own record, assumption 31) only grow, by bytes of the operand; where such code is refused a changed byte is among
them. -/
def Obligations.MemoryFrame : Prop :=
  ∀ (i : Instr) (s t : State), exec i s = .next t →
    (∀ a, (∀ r u, s.operand i = some (r, u) → u.stores = true → a ∉ s.cpu.segs.addresses r u.bytes) →
      t.mem.read a = s.mem.read a) ∧
    (s.params.selfModifyingCode = .coherent → t.stored = s.stored) ∧
    (s.params.selfModifyingCode = .refuse → ∀ a,
      (a ∈ s.stored ∨ t.mem.read a ≠ s.mem.read a → a ∈ t.stored) ∧
      (a ∈ t.stored → a ∈ s.stored ∨
        ∃ r u, s.operand i = some (r, u) ∧ u.stores = true ∧ a ∈ s.cpu.segs.addresses r u.bytes))

/-- The frame of the NPX, interrupt 9 included. No register changes other than those an instruction writes, named by
their numbers before it executes (R23). TOP is written by push, pop, FINCSTP, FDECSTP, FINIT, FSAVE, FLDENV and FRSTOR, and
by nothing else but a reserved encoding; a push or pop moves it by as much as it pushes or pops, or not at all (R22, R32).
A tag changes only for a register that the instruction writes, pushes, pops or frees, or when the instruction loads or
sets all tags: FCLEX, FINCSTP and FDECSTP change none (R24, R170, R171, R333).
The control word is written by FLDCW, FLDENV, FRSTOR, FINIT, FSAVE and FSTENV, and by nothing else but a reserved encoding
(R42, R325, R337). -/
def Obligations.NpxFrame : Prop :=
  (∀ (i : Instr) (s t : State), exec i s = .next t →
     ∀ k, (∀ j ∈ i.writes.regs, s.npx.phys j ≠ k) → t.npx.reg k = s.npx.reg k) ∧
  (∀ (i : Instr) (s t : State), exec i s = .next t →
     match i.writes.top with
     | .keeps => t.npx.sw.top = s.npx.sw.top
     | .pushes => t.npx.sw.top = s.npx.sw.top ∨ t.npx.sw.top = s.npx.sw.top - 1
     | .pops k => t.npx.sw.top = s.npx.sw.top ∨ t.npx.sw.top = s.npx.sw.top + BitVec.ofNat 3 k
     | .increments => t.npx.sw.top = s.npx.sw.top ∨ t.npx.sw.top = s.npx.sw.top + 1
     | .decrements => t.npx.sw.top = s.npx.sw.top ∨ t.npx.sw.top = s.npx.sw.top - 1
     | .sets => True) ∧
  (∀ (i : Instr) (s t : State), exec i s = .next t →
     ∀ k, (∀ j ∈ i.tags, s.npx.phys j ≠ k) → t.npx.isEmpty k = s.npx.isEmpty k) ∧
  (∀ (i : Instr) (s t : State), exec i s = .next t → i.writes.control = false →
     t.npx.cw = s.npx.cw)

/-- The flags and SF are sticky: an instruction that is not FCLEX, FINIT, FSAVE, FLDENV, FRSTOR or reserved clears none;
FCLEX, FINIT and FSAVE clear them all; FLDENV and FRSTOR load them from the image (R34, R35). -/
def Obligations.FlagsAreSticky : Prop :=
  (∀ (i : Instr) (s t : State), exec i s = .next t → i.writes.flags = .sets →
    (∀ e, s.npx.sw.flag e = true → t.npx.sw.flag e = true) ∧ (s.npx.sw.sf = true → t.npx.sw.sf = true)) ∧
  (∀ (i : Instr) (s : State), s.ready i = true → i.writes.flags = .clears →
    ∃ t, exec i s = .next t ∧ (∀ e, t.npx.sw.flag e = false) ∧ t.npx.sw.sf = false) ∧
  (∀ (i : Instr) (s : State) (r : MemRef) (u : OperandUse), s.ready i = true → i.writes.flags = .loads →
    s.operand i = some (r, u) →
    ∃ t, exec i s = .next t ∧
      let w := s.wordAt r (if s.operandSize i.prefixes = .s16 then 2 else 4)
      t.npx.sw.ie = w.getLsbD 0 ∧ t.npx.sw.de = w.getLsbD 1 ∧ t.npx.sw.ze = w.getLsbD 2 ∧ t.npx.sw.oe = w.getLsbD 3 ∧
      t.npx.sw.ue = w.getLsbD 4 ∧ t.npx.sw.pe = w.getLsbD 5 ∧ t.npx.sw.sf = w.getLsbD 6)

/-- On the standard connection (R390) ERROR# goes inactive only in FNINIT, FNCLEX, FNSTENV and FNSAVE, since interrupt 16
keeps FLDCW, FLDENV and FRSTOR from executing while it is active; on either connection each of the four makes it inactive
(R372). What else makes it inactive on the PC/AT connection is stated by PcAtConnection. -/
def Obligations.ErrorDeassertion : Prop :=
  (∀ (i : Instr) (s t : State), s.params.platform = .standard → exec i s = .next t → s.errorPin = true →
    t.errorPin = false →
    (∃ pre, i = .finit pre ∨ i = .fclex pre) ∨ ∃ pre m, i = .fstenv pre m ∨ i = .fsave pre m) ∧
  (∀ (i : Instr) (s : State),
    ((∃ pre, i = .finit pre ∨ i = .fclex pre) ∨ ∃ pre m, i = .fstenv pre m ∨ i = .fsave pre m) →
    s.ready i = true → ∃ t, exec i s = .next t ∧ t.errorPin = false)

/-- The mode of the 80386 makes no difference: the same instruction in the same state but for the mode leaves the same
NPX registers, takes the same interrupts and stops in the same way; only the bytes FSTENV and FSAVE store, and the
pointers, have a format that depends on the mode (R14, R386). -/
def Obligations.ModeIndependence : Prop :=
  ∀ (i : Instr) (s : State) (md : CpuMode),
    let s' : State := { s with cpu := { s.cpu with mode := md } }
    (∀ t, exec i s = .next t →
      ∃ t', exec i s' = .next t' ∧ t'.npx = t.npx ∧ t'.taken = t.taken ∧ t'.cpu = { t.cpu with mode := md } ∧
        ((∀ pre m, i ≠ .fstenv pre m ∧ i ≠ .fsave pre m) → t'.mem = t.mem)) ∧
    (∀ f, exec i s = .fault f → exec i s' = .fault f) ∧
    (∀ e, exec i s = .refused e → exec i s' = .refused e)

/-- The PC/AT connection (R82, R392, assumption 33): no instruction takes interrupt 16; when ERROR# rises, in an
instruction, at interrupt 9 or at RESET, IRQ13 is requested, BUSY# is latched and PEREQ is reactivated; while BUSY# is
latched every waiting instruction that takes no interrupt 7 holds; a write to port F0H removes both and changes nothing
else. That RESET keeps what was latched before is the model's choice too (assumption 44). Beside FNINIT, FNCLEX, FNSTENV
and FNSAVE only FLDCW, FLDENV and FRSTOR, and a reserved encoding by its draw (assumption 16), make ERROR# inactive: no
interrupt 16 stops them here (R372); an FLDCW that executes and masks every exception does. -/
def Obligations.PcAtConnection : Prop :=
  ∀ s : State, s.params.platform = .pcAt →
    let latched (t : State) : Prop :=
      let rises := !s.errorPin && t.errorPin
      t.irq13 = (s.irq13 || rises) ∧ t.busyLatch = (s.busyLatch || rises) ∧ t.pereqLatch = (s.pereqLatch || rises)
    (∀ (i : Instr) (t : State), exec i s = .next t → latched t ∧ ¬s.Took t .numericException) ∧
    latched s.hardwareReset ∧
    s.errorIn = false ∧ s.busyIn = (s.busy || s.busyLatch) ∧ s.pereqIn = (s.pereq || s.pereqLatch) ∧
    (∀ i : Instr, s.busyLatch = true → s.available i = true → i.waits s.params = true → exec i s = .next s) ∧
    s.writePortF0 = { s with busyLatch := false, pereqLatch := false } ∧
    (∀ (i : Instr) (t : State), exec i s = .next t → s.errorPin = true → t.errorPin = false →
      (∃ pre, i = .finit pre ∨ i = .fclex pre) ∨
      (∃ pre m, i = .fstenv pre m ∨ i = .fsave pre m ∨ i = .fldcw pre m ∨ i = .fldenv pre m ∨ i = .frstor pre m) ∨
      i.reserved = true) ∧
    (∀ (pre : List Prefix) (m : MemArg) (r : MemRef), s.ready (.fldcw pre m) = true →
      s.operandRef (.fldcw pre m) = some r → (s.wordAt r 0).extractLsb' 0 6 = 0x3F →
      ∃ t, exec (.fldcw pre m) s = .next t ∧ t.errorPin = false)

/-! ### Data transfer and constants -/

/-- The constant loads push their constant, rounded in the direction of RC, with the push's response to a full register
(R250 to R257). -/
def Obligations.ConstantLoads : Prop :=
  ∀ (i : Instr) (pre : List Prefix) (s : State) (x : Ext),
    let up := s.npx.rc = .nearest ∨ s.npx.rc = .up
    ((i = .fldz pre ∧ x = 0) ∨ (i = .fld1 pre ∧ x = 0x3FFF8000000000000000) ∨
      (i = .fldpi pre ∧ (up → x = 0x4000C90FDAA22168C235) ∧ (¬up → x = 0x4000C90FDAA22168C234)) ∨
      (i = .fldl2t pre ∧ (s.npx.rc = .up → x = 0x4000D49A784BCD1B8AFF) ∧ (s.npx.rc ≠ .up → x = 0x4000D49A784BCD1B8AFE)) ∨
      (i = .fldl2e pre ∧ (up → x = 0x3FFFB8AA3B295C17F0BC) ∧ (¬up → x = 0x3FFFB8AA3B295C17F0BB)) ∨
      (i = .fldlg2 pre ∧ (up → x = 0x3FFD9A209A84FBCFF799) ∧ (¬up → x = 0x3FFD9A209A84FBCFF798)) ∨
      (i = .fldln2 pre ∧ (up → x = 0x3FFEB17217F7D1CF79AC) ∧ (¬up → x = 0x3FFEB17217F7D1CF79AB))) →
    s.ready i = true → ∃ t, exec i s = .next t ∧ s.npx.PushRule t.npx x []

/-- FLD of a single or double real: the widened operand is pushed; a signaling NaN signals IE and is quieted, a denormal
signals DE, and each stops the load when unmasked; a full register comes first (R201, R202). -/
def Obligations.RealLoads : Prop :=
  ∀ (i : Instr) (f : Fmt) (s : State), i.loadUse = some (.real f) → s.ready i = true →
    ∃ t, exec i s = .next t ∧
      let o := f.opnd (s.operandValue i)
      let room := s.npx.isEmpty (s.npx.sw.top - 1)
      (room = false → s.npx.PushRule t.npx o.img []) ∧
      (room = true → o.cls = .snan →
        (s.npx.masked .ie = true → s.npx.PushRule t.npx (quiet o.img) [.ie]) ∧
        (s.npx.masked .ie = false → s.npx.Stopped t.npx [.ie])) ∧
      (room = true → o.cls = .denormal →
        (s.npx.masked .de = true → s.npx.PushRule t.npx o.img [.de]) ∧
        (s.npx.masked .de = false → s.npx.Stopped t.npx [.de])) ∧
      (room = true → o.cls ≠ .snan → o.cls ≠ .denormal → s.npx.PushRule t.npx o.img [])

/-- FLD of an extended real pushes the ten bytes bit for bit; FILD pushes the integer; FBLD the decimal, when its
digits are decimal digits (R203, R212, R213, R217). FLD ST(i) pushes a copy of the register; an empty one underflows, and
masked the indefinite is pushed (R204; C1 is not stated when the destination is full as well). -/
def Obligations.ExactLoads : Prop :=
  (∀ (i : Instr) (s : State), s.ready i = true →
     (i.loadUse = some .ext →
       ∃ t, exec i s = .next t ∧ s.npx.PushRule t.npx (BitVec.ofNat 80 (s.operandValue i)) []) ∧
     (∀ bits, i.loadUse = some (.int bits) →
       ∃ t, exec i s = .next t ∧ s.npx.PushRule t.npx (extOfInt (intOf bits (s.operandValue i))) []) ∧
     (i.loadUse = some .bcd →
       ∃ t, exec i s = .next t ∧ ∀ x, extOfBcd (s.operandValue i) = some x → s.npx.PushRule t.npx x [])) ∧
  (∀ (pre : List Prefix) (k : StIndex) (s : State), s.ready (.fldSti pre k) = true →
     ∃ t, exec (.fldSti pre k) s = .next t ∧
       (∀ x, s.npx.st k = some x → s.npx.PushRule t.npx x []) ∧
       (s.npx.st k = none → s.npx.Flagged t.npx [.ie] true ∧
         (s.npx.masked .ie = true → s.npx.Pushed t.npx indefinite) ∧
         (s.npx.masked .ie = false → s.npx.SameStack t.npx) ∧
         (s.npx.masked .ie = false ∨ s.npx.isEmpty (s.npx.sw.top - 1) = true → t.npx.sw.c1 = false)))

/-- FST, FSTP, FIST, FISTP, FBSTP: the bytes of the operand become the converted ST(0), and the stack is popped as often
as the instruction says; where the conversion has nothing to store, memory and the stack are as before. An empty ST(0)
underflows: masked, the indefinite of the format is stored (R206, R207, R209, R214 to R216, R218). On the standard
connection: on the other one a store with an unmasked exception may write undefined data (R392). PE and C1 after an
unmasked overflow or underflow are the model's choice (assumption 41). -/
def Obligations.StoresToMemory : Prop :=
  ∀ (i : Instr) (u : StoreUse) (s : State) (r : MemRef) (w : OperandUse), i.storeUse = some u →
    s.operand i = some (r, w) → s.params.platform = .standard → s.ready i = true →
    ∃ t, exec i s = .next t ∧
      (s.npx.st 0 = none → s.npx.Flagged t.npx [.ie] true ∧ t.npx.sw.c1 = false ∧
        (s.npx.masked .ie = true → s.npx.Popped t.npx u.pops ∧
          t.readOperand r w.bytes = match u.format with
            | .real f => f.indefinite
            | .ext => 0xFFFFC000000000000000
            | .int bits => 2 ^ (bits - 1)
            | .bcd => 0xFFFFC000000000000000) ∧
        (s.npx.masked .ie = false → s.npx.SameStack t.npx ∧ t.mem = s.mem)) ∧
      (∀ x, s.npx.st 0 = some x →
        let c : Stored := match u.format with
          | .real f => f.narrow s.npx.rc (s.npx.masked .ie) (s.npx.masked .oe) (s.npx.masked .ue) x
          | .ext => ⟨some x.toNat, false, false, false, false, false⟩
          | .int bits => intOfExt bits s.npx.rc (s.npx.masked .ie) x
          | .bcd => bcdOfExt s.npx.rc (s.npx.masked .ie) x
        s.npx.Flagged t.npx ((if c.ie then [.ie] else []) ++ (if c.oe then [.oe] else []) ++
          (if c.ue then [.ue] else []) ++ (if c.pe then [.pe] else [])) false ∧ t.npx.sw.c1 = c.c1 ∧
        (∀ v, c.bits = some v → t.readOperand r w.bytes = v ∧ s.npx.Popped t.npx u.pops) ∧
        (c.bits = none → t.mem = s.mem ∧ s.npx.SameStack t.npx))

/-- FST ST(i) and FSTP ST(i) copy ST(0) bit for bit (R208, R210); FABS clears and FCHS inverts the sign bit of
ST(0), whatever its class (R290, R291); an empty ST(0) underflows. FXCH exchanges the two registers; an empty one
underflows: masked, each empty one is first filled with the indefinite (R173, R211). -/
def Obligations.RegisterOperations : Prop :=
  ((∀ (i : Instr) (pre : List Prefix) (k : StIndex) (pops : Nat) (s : State),
      (i = .fstSti pre k ∧ pops = 0) ∨ (i = .fstpSti pre k ∧ pops = 1) → s.ready i = true →
      ∃ t, exec i s = .next t ∧
        (∀ x, s.npx.st 0 = some x →
          s.npx.Wrote t.npx (s.npx.phys k) x pops ∧ s.npx.Flagged t.npx [] false ∧ t.npx.sw.c1 = false) ∧
        (s.npx.st 0 = none → s.npx.UnderflowRule t.npx (s.npx.phys k) pops)) ∧
   (∀ (i : Instr) (pre : List Prefix) (f : Ext → Ext) (s : State),
      (i = .fabs pre ∧ f = fun x => x &&& 0x7FFFFFFFFFFFFFFFFFFF) ∨
        (i = .fchs pre ∧ f = fun x => x ^^^ 0x80000000000000000000) → s.ready i = true →
      ∃ t, exec i s = .next t ∧
        (∀ x, s.npx.st 0 = some x →
          s.npx.Wrote t.npx (s.npx.phys 0) (f x) 0 ∧ s.npx.Flagged t.npx [] false ∧ t.npx.sw.c1 = false) ∧
        (s.npx.st 0 = none → s.npx.UnderflowRule t.npx (s.npx.phys 0) 0))) ∧
  (∀ (pre : List Prefix) (k : StIndex) (s : State), s.ready (.fxchSti pre k) = true →
     ∃ t, exec (.fxchSti pre k) s = .next t ∧
       let a := s.npx.phys 0
       let b := s.npx.phys k
       let x := if s.npx.isEmpty a then indefinite else s.npx.reg a
       let y := if s.npx.isEmpty b then indefinite else s.npx.reg b
       let under := s.npx.isEmpty a || s.npx.isEmpty b
       t.npx.sw.c1 = false ∧ s.npx.Flagged t.npx (if under then [.ie] else []) under ∧
       t.npx.sw.top = s.npx.sw.top ∧
       (under = false ∨ s.npx.masked .ie = true →
         (∀ j, t.npx.reg j = if j = a then y else if j = b then x else s.npx.reg j) ∧
         (∀ j, t.npx.isEmpty j = (decide (j ≠ a) && decide (j ≠ b) && s.npx.isEmpty j))) ∧
       (under = true → s.npx.masked .ie = false → s.npx.SameStack t.npx))

/-- Widening a memory real is exact: every class keeps its sign and value, a denormal becomes a normal image, and a NaN
keeps its fraction in the top bits (R143, R180). -/
def Obligations.WideningIsExact : Prop :=
  ∀ (f : Fmt) (v : Nat), f = single ∨ f = double → v < 2 ^ (1 + f.expBits + f.fracBits) →
    (f.memClass v = .zero → f.widen v = extZero (f.sign v)) ∧
    (f.memClass v = .infinity → f.widen v = extInf (f.sign v)) ∧
    (f.memClass v = .denormal ∨ f.memClass v = .normal →
      classOf (f.widen v) = .normal ∧ extSign (f.widen v) = f.sign v ∧ extReal (f.widen v) = f.real v) ∧
    (f.memClass v = .qnan ∨ f.memClass v = .snan →
      classOf (f.widen v) = f.memClass v ∧ extSign (f.widen v) = f.sign v ∧
      (extSig (f.widen v)).toNat = 2 ^ 63 + f.frac v * 2 ^ (63 - f.fracBits))

/-- Storing to a memory real (R183). A finite number is rounded by RC to the precision of the format; overflow and
underflow with the format's own limits, masked as for a register and unmasked with nothing stored. A zero and an infinity
are stored exactly; a quiet NaN with the top bits of its fraction; a signaling NaN and an unsupported image are invalid:
masked, the quieted NaN and the indefinite of the format are stored, unmasked, nothing is. PE and C1 of a store that an
unmasked overflow or underflow stops are the model's choice (assumption 41) and not claimed. -/
def Obligations.NarrowingRounds : Prop :=
  ∀ (f : Fmt) (rc : RC) (im om um : Bool) (x : Ext), f = single ∨ f = double →
    let c := f.narrow rc im om um x
    let neg := extSign x
    let y := |extReal x|
    (∀ v, c.bits = some v → v < 2 ^ (1 + f.expBits + f.fracBits)) ∧
    (classOf x = .normal ∨ classOf x = .denormal →
      c.ie = false ∧
      ∃ mag, IsRounded rc neg y (ulpOf y (f.fracBits + 1)) mag ∧
        let e := floorLog2 mag
        ((f.bias : ℤ) < e → c.oe = true ∧ c.ue = false ∧
          (om = false → c.bits = none) ∧
          (om = true → c.pe = true ∧ c.c1 = overflowToInf rc neg ∧ ∃ v, c.bits = some v ∧ f.sign v = neg ∧
            (overflowToInf rc neg = true → f.memClass v = .infinity) ∧
            (overflowToInf rc neg = false → f.memClass v = .normal ∧
              |f.real v| = (2 ^ (f.fracBits + 1) - 1) * 2 ^ ((f.bias : ℤ) - f.fracBits)))) ∧
        (e < 1 - (f.bias : ℤ) → c.oe = false ∧
          (um = false → c.ue = true ∧ c.bits = none) ∧
          (um = true → ∃ den, IsRounded rc neg y (2 ^ (1 - (f.bias : ℤ) - f.fracBits)) den ∧
            (c.ue = true ↔ den ≠ y) ∧ (c.pe = true ↔ den ≠ y) ∧ (c.c1 = true ↔ y < den) ∧
            ∃ v, c.bits = some v ∧ f.sign v = neg ∧ |f.real v| = den)) ∧
        (1 - (f.bias : ℤ) ≤ e → e ≤ f.bias → c.oe = false ∧ c.ue = false ∧ (c.pe = true ↔ mag ≠ y) ∧
          (c.c1 = true ↔ y < mag) ∧ ∃ v, c.bits = some v ∧ f.sign v = neg ∧ f.memClass v = .normal ∧ |f.real v| = mag)) ∧
    let exact (v : Nat) : Stored := ⟨some v, false, false, false, false, false⟩
    let invalid (v : Nat) : Stored := ⟨if im then some v else none, true, false, false, false, false⟩
    let sign := if neg then 2 ^ (f.expBits + f.fracBits) else 0
    let inf := sign + (2 ^ f.expBits - 1) * 2 ^ f.fracBits
    let fraction := (extSig x).toNat % 2 ^ 63 / 2 ^ (63 - f.fracBits)
    (classOf x = .zero → c = exact sign) ∧
    (classOf x = .infinity → c = exact inf) ∧
    (classOf x = .qnan → c = exact (inf + fraction)) ∧
    (classOf x = .snan → c = invalid (inf + 2 ^ (f.fracBits - 1) + fraction)) ∧
    (classOf x = .unsupported → c = invalid (2 ^ (1 + f.expBits + f.fracBits) - 2 ^ (f.fracBits - 1)))

/-- An integer in memory is loaded exactly (R141, R181), and `int_from_ext` stores what FILD loaded, whatever RC is.
A decimal of 18 digits is loaded exactly, with its sign, and FBSTP stores what FBLD loaded, whatever RC is (R182, R185). -/
def Obligations.IntegerFormatsRoundTrip : Prop :=
  (∀ (bits v : Nat) (rc : RC) (im : Bool), bits = 16 ∨ bits = 32 ∨ bits = 64 → v < 2 ^ bits →
     IsImage (extOfInt (intOf bits v)) (decide (intOf bits v < 0)) |(intOf bits v : ℝ)| ∧
     intOfExt bits rc im (extOfInt (intOf bits v)) = ⟨some v, false, false, false, false, false⟩) ∧
  (∀ (v n : Nat) (rc : RC) (im : Bool), bcdDigits 18 v = (n, true) →
     ∃ x, extOfBcd v = some x ∧ IsImage x (v.testBit 79) n ∧
       (v < 2 ^ 80 → v / 2 ^ 72 % 2 ^ 7 = 0 → bcdOfExt rc im x = ⟨some v, false, false, false, false, false⟩))

/-- `int_from_ext`: a number is rounded to an integer by RC and stored in two's complement if that integer is in range;
out of range, an infinity, any NaN and an unsupported image are invalid: masked, the integer indefinite is stored,
unmasked, nothing is (R184). -/
def Obligations.IntegerConversion : Prop :=
  ∀ (bits : Nat) (rc : RC) (im : Bool) (x : Ext), bits = 16 ∨ bits = 32 ∨ bits = 64 →
    let c := intOfExt bits rc im x
    let invalid : Stored := ⟨if im then some (2 ^ (bits - 1)) else none, true, false, false, false, false⟩
    (classOf x = .zero → c = ⟨some 0, false, false, false, false, false⟩) ∧
    (classOf x = .infinity ∨ classOf x = .qnan ∨ classOf x = .snan ∨ classOf x = .unsupported → c = invalid) ∧
    (classOf x = .normal ∨ classOf x = .denormal →
      ∃ n : Nat, IsRounded rc (extSign x) |extReal x| 1 n ∧
        let m : ℤ := if extSign x then -(n : ℤ) else n
        (-(2 ^ (bits - 1)) ≤ m ∧ m ≤ 2 ^ (bits - 1) - 1 → c.ie = false ∧ c.oe = false ∧ c.ue = false ∧
          (c.pe = true ↔ (n : ℝ) ≠ |extReal x|) ∧ (c.c1 = true ↔ |extReal x| < n) ∧
          ∃ v, c.bits = some v ∧ v < 2 ^ bits ∧ intOf bits v = m) ∧
        (m < -(2 ^ (bits - 1)) ∨ 2 ^ (bits - 1) - 1 < m → c = invalid))

/-- `bcd_from_ext`: rounded to an integer by RC; up to 18 digits are stored with the sign of the register and zeros in
bits 78 to 72, anything else is invalid (R91, R185). -/
def Obligations.BcdConversion : Prop :=
  ∀ (rc : RC) (im : Bool) (x : Ext),
    let c := bcdOfExt rc im x
    let invalid : Stored := ⟨if im then some 0xFFFFC000000000000000 else none, true, false, false, false, false⟩
    (classOf x = .zero → c = ⟨some (if extSign x then 2 ^ 79 else 0), false, false, false, false, false⟩) ∧
    (classOf x = .infinity ∨ classOf x = .qnan ∨ classOf x = .snan ∨ classOf x = .unsupported → c = invalid) ∧
    (classOf x = .normal ∨ classOf x = .denormal →
      ∃ n : Nat, IsRounded rc (extSign x) |extReal x| 1 n ∧
        (n ≤ 10 ^ 18 - 1 → c.ie = false ∧ c.oe = false ∧ c.ue = false ∧ (c.pe = true ↔ (n : ℝ) ≠ |extReal x|) ∧
          (c.c1 = true ↔ |extReal x| < n) ∧
          ∃ v, c.bits = some v ∧ v < 2 ^ 80 ∧ v.testBit 79 = extSign x ∧ v / 2 ^ 72 % 2 ^ 7 = 0 ∧
            bcdDigits 18 v = (n, true)) ∧
        (10 ^ 18 - 1 < n → c = invalid))

/-! ### Comparison -/

/-- `compare(a, b)`: numbers compare by their values, with the infinities at the two ends and the two zeros equal; a NaN
or an unsupported operand is unordered (R190). -/
def Obligations.OrderOfValues : Prop :=
  ∀ a b : Opnd,
    (a.ordinary = false ∨ b.ordinary = false → compareOpnd a b = .unordered) ∧
    (a.finite = true → b.finite = true →
      (extReal b.img < extReal a.img → compareOpnd a b = .greater) ∧
      (extReal a.img < extReal b.img → compareOpnd a b = .less) ∧
      (extReal a.img = extReal b.img → compareOpnd a b = .equal)) ∧
    (a.cls = .infinity → b.finite = true → compareOpnd a b = if extSign a.img then .less else .greater) ∧
    (a.finite = true → b.cls = .infinity → compareOpnd a b = if extSign b.img then .greater else .less) ∧
    (a.cls = .infinity → b.cls = .infinity →
      compareOpnd a b = if extSign a.img = extSign b.img then .equal else if extSign a.img then .less else .greater)

/-- The comparisons: condition code, C1, flags and pops, for empty registers, invalid operands, quiet NaNs, denormals and
numbers (R39, R173, R230 to R239). -/
def Obligations.Comparisons : Prop :=
  ∀ (i : Instr) (u : CompareUse) (s : State), i.compareUse = some u → s.ready i = true →
    ∃ t, exec i s = .next t ∧ t.npx.sw.c1 = false ∧
      (s.npx.stOpnd 0 = none ∨ s.source i u.operand = none →
        s.npx.Flagged t.npx [.ie] true ∧
        (s.npx.masked .ie = true → s.npx.Popped t.npx u.pops ∧ t.npx.sw.code = Order.unordered.code) ∧
        (s.npx.masked .ie = false → s.npx.SameStack t.npx ∧ t.npx.sw.code = s.npx.sw.code)) ∧
      (∀ a b, s.npx.stOpnd 0 = some a → s.source i u.operand = some b →
        let nan := a.isNan || b.isNan
        let invalid := a.isInvalid || b.isInvalid || (!u.quiet && nan)
        (invalid = true → s.npx.Flagged t.npx [.ie] false ∧
          (s.npx.masked .ie = true → s.npx.Popped t.npx u.pops ∧ t.npx.sw.code = Order.unordered.code) ∧
          (s.npx.masked .ie = false → s.npx.SameStack t.npx ∧ t.npx.sw.code = s.npx.sw.code)) ∧
        (invalid = false → nan = true →
          s.npx.Flagged t.npx [] false ∧ s.npx.Popped t.npx u.pops ∧ t.npx.sw.code = Order.unordered.code) ∧
        (invalid = false → nan = false → s.npx.Flagged t.npx (denormalFlag a b) false ∧
          (s.npx.denormalOk a b = true → s.npx.Popped t.npx u.pops ∧ t.npx.sw.code = (compareOpnd a b).code) ∧
          (s.npx.denormalOk a b = false → s.npx.SameStack t.npx ∧ t.npx.sw.code = s.npx.sw.code)))

/-- FXAM: the class of the top register in C3, C2, C0 and its sign in C1, the sign of an empty register too; no flag and
no register changes, and the combinations 1101 and 1111 are never produced (R40, R240). -/
def Obligations.Examine : Prop :=
  ∀ (pre : List Prefix) (s : State), s.ready (.fxam pre) = true →
    ∃ t, exec (.fxam pre) s = .next t ∧ s.npx.SameStack t.npx ∧ s.npx.Flagged t.npx [] false ∧
      t.npx.sw.c1 = (s.npx.reg s.npx.sw.top).getLsbD 79 ∧
      t.npx.sw.code =
        (if s.npx.isEmpty s.npx.sw.top then (true, false, true)
        else match classOf (s.npx.reg s.npx.sw.top) with
          | .unsupported => (false, false, false)
          | .qnan => (false, false, true)
          | .snan => (false, false, true)
          | .normal => (false, true, false)
          | .infinity => (false, true, true)
          | .zero => (true, false, false)
          | .denormal => (true, true, false)) ∧
      ¬(t.npx.sw.c3 = true ∧ t.npx.sw.c2 = true ∧ t.npx.sw.c0 = true)

/-! ### Arithmetic -/

/-- `round(v, p, rc)` of an exact nonzero value, fraction or square root: the neighbouring multiples of the unit in the
last place, the choice between them, and the two flags (R150). -/
def Obligations.RoundingIsR150 : Prop :=
  ∀ (rc : RC) (neg : Bool) (x : Mag) (p : Nat), p = 24 ∨ p = 53 ∨ p = 64 → 0 < x.real →
    let r := roundTo rc neg x p
    IsRounded rc neg x.real (ulpOf x.real p) r.real ∧ (r.inexact = true ↔ r.real ≠ x.real) ∧
      (r.roundup = true ↔ x.real < r.real)

/-- `deliver(v, p)`: the register image, the exceptions and C1 of an exact nonzero result, in range, overflowing and
tiny, masked and unmasked (R153, R166, R167; where a masked tiny result of 24 or 53 bits is denormalized is the spec's
choice in R167 and U4, and the model's, assumption 18). -/
def Obligations.DeliveryIsR153 : Prop :=
  ∀ (rc : RC) (om um neg : Bool) (x : Mag) (p d : Nat), p = 24 ∨ p = 53 ∨ p = 64 → 0 < x.real →
    IsDelivered rc om um neg x.real p (deliver rc om um neg x p d)

/-- The NaN that two operands give: the only NaN; the quiet one of a quiet and a signaling one; of two of a kind the one
with the larger significand, of equal ones the positive one; each with the quiet bit set. The indefinite when neither is
a NaN (R163). -/
def Obligations.NanChoice : Prop :=
  ∀ a b : Opnd,
    (a.isNan = true → b.isNan = false → nanResult a b = a.img ||| 0x4000000000000000) ∧
    (a.isNan = false → b.isNan = true → nanResult a b = b.img ||| 0x4000000000000000) ∧
    (a.isNan = false → b.isNan = false → nanResult a b = 0xFFFFC000000000000000) ∧
    (a.cls = .qnan → b.cls = .snan → nanResult a b = a.img) ∧ (a.cls = .snan → b.cls = .qnan → nanResult a b = b.img) ∧
    (a.isNan = true → a.cls = b.cls →
      ((extSig b.img).toNat < (extSig a.img).toNat → nanResult a b = a.img ||| 0x4000000000000000) ∧
      ((extSig a.img).toNat < (extSig b.img).toNat → nanResult a b = b.img ||| 0x4000000000000000) ∧
      (extSig a.img = extSig b.img → extSign a.img = false → nanResult a b = a.img ||| 0x4000000000000000) ∧
      (extSig a.img = extSig b.img → extSign b.img = false → extSign a.img = true →
        nanResult a b = b.img ||| 0x4000000000000000))

/-- Steps 1 to 5 of `arith`, for every add, subtract, multiply and divide instruction: an empty register, an invalid
operand or pair, a quiet NaN, an unmasked denormal, a division by zero (R261 to R279). C1 = 0 after them, but for the
empty register, is the model's choice (92 D15, assumption 14). -/
def Obligations.ArithmeticChecks : Prop :=
  ∀ (i : Instr) (u : ArithUse) (s : State), i.arithUse = some u → s.ready i = true →
    ∃ t, exec i s = .next t ∧
      let d := s.npx.phys u.dst
      (s.source i u.left = none ∨ s.source i u.right = none → s.npx.UnderflowRule t.npx d u.pops) ∧
      ∀ a b, s.source i u.left = some a → s.source i u.right = some b →
        (a.isInvalid = true ∨ b.isInvalid = true → s.npx.Flagged t.npx [.ie] false ∧ t.npx.sw.c1 = false ∧
          (s.npx.masked .ie = true → s.npx.Wrote t.npx d (nanResult a b) u.pops) ∧
          (s.npx.masked .ie = false → s.npx.SameStack t.npx)) ∧
        (a.isInvalid = false → b.isInvalid = false → a.isNan = true ∨ b.isNan = true →
          s.npx.Wrote t.npx d (nanResult a b) u.pops ∧ s.npx.Flagged t.npx [] false ∧ t.npx.sw.c1 = false) ∧
        (InvalidPair u.op a b → s.npx.Flagged t.npx [.ie] false ∧ t.npx.sw.c1 = false ∧
          (s.npx.masked .ie = true → s.npx.Wrote t.npx d 0xFFFFC000000000000000 u.pops) ∧
          (s.npx.masked .ie = false → s.npx.SameStack t.npx)) ∧
        (a.ordinary = true → b.ordinary = true → ¬InvalidPair u.op a b → s.npx.denormalOk a b = false →
          s.npx.Stopped t.npx [.de]) ∧
        (u.op = .div → a.nonzero = true → b.cls = .zero → s.npx.denormalOk a b = true →
          s.npx.Flagged t.npx (denormalFlag a b ++ [.ze]) false ∧ t.npx.sw.c1 = false ∧
          (s.npx.masked .ze = true → s.npx.Wrote t.npx d (extInf (extSign a.img ^^ extSign b.img)) u.pops) ∧
          (s.npx.masked .ze = false → s.npx.SameStack t.npx))

/-- Step 6 of `arith`: the exact results with infinities and zeros, no exception but DE (R261 to R279); C1 = 0 by
92 D15 (assumption 14). -/
def Obligations.ArithmeticSpecialResults : Prop :=
  ∀ (i : Instr) (u : ArithUse) (s : State) (a b : Opnd) (x : Ext), i.arithUse = some u → s.ready i = true →
    s.source i u.left = some a → s.source i u.right = some b → s.npx.denormalOk a b = true →
    SpecialResult s.npx.rc a b u.op x →
    ∃ t, exec i s = .next t ∧ s.npx.Wrote t.npx (s.npx.phys u.dst) x u.pops ∧
      s.npx.Flagged t.npx (denormalFlag a b) false ∧ t.npx.sw.c1 = false

/-- Step 7 of `arith`: the destination of every add, subtract, multiply and divide instruction receives the exact result
of the operation on the operands' values, rounded once by RC to the precision PC selects, with the responses to overflow
and underflow; a zero sum has the sign RC gives it; then the pops (R152, R153, R261 to R279; a masked tiny result of 24 or
53 bits is denormalized as R167 chooses, assumption 18; FIDIV can overflow by R261 where R275 reads that it cannot,
assumption 45). PC = 01 is reserved. -/
def Obligations.ArithmeticIsCorrectlyRounded : Prop :=
  ∀ (i : Instr) (u : ArithUse) (s : State) (a b : Opnd) (p : Nat), i.arithUse = some u → s.ready i = true →
    s.source i u.left = some a → s.source i u.right = some b → s.npx.denormalOk a b = true →
    a.finite = true → b.finite = true →
    (u.op = .add ∨ u.op = .sub → a.nonzero = true ∨ b.nonzero = true) →
    (u.op = .mul ∨ u.op = .div → a.nonzero = true ∧ b.nonzero = true) →
    s.npx.precision = some p →
    ∃ t, exec i s = .next t ∧
      let d := s.npx.phys u.dst
      let v := u.op.real (extReal a.img) (extReal b.img)
      (v = 0 → s.npx.Wrote t.npx d (extZero (decide (s.npx.rc = .down))) u.pops ∧
        s.npx.Flagged t.npx (denormalFlag a b) false ∧ t.npx.sw.c1 = false) ∧
      (v ≠ 0 → ∃ (neg : Bool) (r : Delivered), (neg = true ↔ v < 0) ∧
        IsDelivered s.npx.rc (s.npx.masked .oe) (s.npx.masked .ue) neg |v| p r ∧
        s.npx.Wrote t.npx d r.img u.pops ∧ s.npx.Flagged t.npx (denormalFlag a b ++ r.exceptions) false ∧
        t.npx.sw.c1 = r.c1)

/-- The checks that FSQRT, FRNDINT, F2XM1, FSCALE, FPATAN, FYL2X and FYL2XP1 share: an empty register, an invalid operand,
a quiet NaN, and an unmasked denormal, of either sign and beside a number, a zero or an infinity; the negative operands that
FSQRT and FYL2X find invalid come before it (R173, R280, R282, R287, R300, R308). C1 = 0 after an invalid operand, a quiet
NaN and an unmasked denormal is the model's choice (92 D15, assumption 14). -/
def Obligations.SharedOperandChecks : Prop :=
  ∀ (i : Instr) (pre : List Prefix) (j k d : StIndex) (pops : Nat) (s : State),
    ((i = .fsqrt pre ∨ i = .frndint pre ∨ i = .f2xm1 pre) ∧ j = 0 ∧ k = 0 ∧ d = 0 ∧ pops = 0) ∨
      (i = .fscale pre ∧ j = 0 ∧ k = 1 ∧ d = 0 ∧ pops = 0) ∨
      ((i = .fpatan pre ∨ i = .fyl2x pre ∨ i = .fyl2xp1 pre) ∧ j = 1 ∧ k = 0 ∧ d = 1 ∧ pops = 1) →
    s.ready i = true →
    ∃ t, exec i s = .next t ∧
      (s.npx.stOpnd j = none ∨ s.npx.stOpnd k = none → s.npx.UnderflowRule t.npx (s.npx.phys d) pops) ∧
      ∀ a b, s.npx.stOpnd j = some a → s.npx.stOpnd k = some b →
        (a.isInvalid = true ∨ b.isInvalid = true → s.npx.Flagged t.npx [.ie] false ∧ t.npx.sw.c1 = false ∧
          (s.npx.masked .ie = true → s.npx.Wrote t.npx (s.npx.phys d) (nanResult a b) pops) ∧
          (s.npx.masked .ie = false → s.npx.SameStack t.npx)) ∧
        (a.isInvalid = false → b.isInvalid = false → a.isNan = true ∨ b.isNan = true →
          s.npx.Wrote t.npx (s.npx.phys d) (nanResult a b) pops ∧ s.npx.Flagged t.npx [] false ∧ t.npx.sw.c1 = false) ∧
        (a.ordinary = true → b.ordinary = true → s.npx.denormalOk a b = false →
          (i = .fsqrt pre → extSign a.img = false) → (i = .fyl2x pre → extSign b.img = true → b.cls = .zero) →
          s.npx.Stopped t.npx [.de])

/-- FSQRT: a zero and +infinity are their own roots; any other negative operand is invalid; a positive number's root is
rounded once by RC to the precision PC selects (R280). C1 = 0 where nothing is rounded is the model's choice (92 D15,
assumption 14). -/
def Obligations.SquareRoot : Prop :=
  ∀ (pre : List Prefix) (s : State) (a : Opnd), s.ready (.fsqrt pre) = true → s.npx.stOpnd 0 = some a →
    ∃ t, exec (.fsqrt pre) s = .next t ∧
      let top := s.npx.phys 0
      (a.cls = .zero ∨ a.cls = .infinity ∧ extSign a.img = false →
        s.npx.Wrote t.npx top a.img 0 ∧ s.npx.Flagged t.npx [] false ∧ t.npx.sw.c1 = false) ∧
      (a.nonzero = true ∨ a.cls = .infinity → extSign a.img = true →
        s.npx.Flagged t.npx [.ie] false ∧ t.npx.sw.c1 = false ∧
        (s.npx.masked .ie = true → s.npx.Wrote t.npx top 0xFFFFC000000000000000 0) ∧
        (s.npx.masked .ie = false → s.npx.SameStack t.npx)) ∧
      (a.nonzero = true → extSign a.img = false → s.npx.denormalOk a a = true → ∀ p, s.npx.precision = some p →
        ∃ r : Delivered, IsDelivered s.npx.rc (s.npx.masked .oe) (s.npx.masked .ue) false (Real.sqrt (extReal a.img)) p r ∧
          s.npx.Wrote t.npx top r.img 0 ∧ s.npx.Flagged t.npx (denormalFlag a a ++ r.exceptions) false ∧
          t.npx.sw.c1 = r.c1)

/-- FSCALE: ST(0) times two to the power ST(1) truncated to an integer, rounded to 64 bits; the infinities and the two
invalid pairs (R282). C1 = 0 where nothing is rounded is the model's choice (92 D15, assumption 14). -/
def Obligations.Scale : Prop :=
  ∀ (pre : List Prefix) (s : State) (a b : Opnd), s.ready (.fscale pre) = true → s.npx.stOpnd 0 = some a →
    s.npx.stOpnd 1 = some b → a.ordinary = true → b.ordinary = true →
    ∃ t, exec (.fscale pre) s = .next t ∧
      let top := s.npx.phys 0
      let invalid := b.cls = .infinity ∧
        ((a.cls = .zero ∧ extSign b.img = false) ∨ (a.cls = .infinity ∧ extSign b.img = true))
      (invalid → s.npx.Flagged t.npx [.ie] false ∧ t.npx.sw.c1 = false ∧
        (s.npx.masked .ie = true → s.npx.Wrote t.npx top 0xFFFFC000000000000000 0) ∧
        (s.npx.masked .ie = false → s.npx.SameStack t.npx)) ∧
      (¬invalid → s.npx.denormalOk a b = true → b.cls = .infinity →
        s.npx.Wrote t.npx top (if extSign b.img then extZero (extSign a.img) else extInf (extSign a.img)) 0 ∧
        s.npx.Flagged t.npx (denormalFlag a b) false ∧ t.npx.sw.c1 = false) ∧
      (s.npx.denormalOk a b = true → b.finite = true → a.cls = .zero ∨ a.cls = .infinity →
        s.npx.Wrote t.npx top a.img 0 ∧ s.npx.Flagged t.npx (denormalFlag a b) false ∧ t.npx.sw.c1 = false) ∧
      (s.npx.denormalOk a b = true → b.finite = true → a.nonzero = true →
        ∃ (k : ℤ) (r : Delivered), k = (if extReal b.img < 0 then ⌈extReal b.img⌉ else ⌊extReal b.img⌋) ∧
          IsDelivered s.npx.rc (s.npx.masked .oe) (s.npx.masked .ue) (extSign a.img) (|extReal a.img| * 2 ^ k) 64 r ∧
          s.npx.Wrote t.npx top r.img 0 ∧ s.npx.Flagged t.npx (denormalFlag a b ++ r.exceptions) false ∧
          t.npx.sw.c1 = r.c1)

/-- FRNDINT: ST(0) rounded to an integer by RC, with the sign of the operand; PE when it was none, C1 when its magnitude
went up (R287). A zero and an infinity stay as they are; C1 = 0 then is the model's choice (92 D15, assumption 14). -/
def Obligations.RoundToInteger : Prop :=
  ∀ (pre : List Prefix) (s : State) (a : Opnd), s.ready (.frndint pre) = true → s.npx.stOpnd 0 = some a →
    ∃ t, exec (.frndint pre) s = .next t ∧
      (a.cls = .zero ∨ a.cls = .infinity →
        s.npx.Wrote t.npx (s.npx.phys 0) a.img 0 ∧ s.npx.Flagged t.npx [] false ∧ t.npx.sw.c1 = false) ∧
      (a.nonzero = true → s.npx.denormalOk a a = true →
        ∃ (n : Nat) (x : Ext) (inexact : Bool), IsRounded s.npx.rc (extSign a.img) |extReal a.img| 1 n ∧
          (inexact = true ↔ (n : ℝ) ≠ |extReal a.img|) ∧ IsImage x (extSign a.img) n ∧
          s.npx.Wrote t.npx (s.npx.phys 0) x 0 ∧
          s.npx.Flagged t.npx (denormalFlag a a ++ if inexact then [.pe] else []) false ∧
          (t.npx.sw.c1 = true ↔ |extReal a.img| < n))

/-- FXTRACT: ST(0) becomes its exponent, and its significand, from 1 up to 2, is pushed; a zero divides by zero, and
leaves minus infinity and itself; an infinity leaves plus infinity and itself; a stack fault gives two indefinites
(R288; with both stack faults C1 is not stated). -/
def Obligations.Extract : Prop :=
  ∀ (pre : List Prefix) (s : State), s.ready (.fxtract pre) = true →
    ∃ t, exec (.fxtract pre) s = .next t ∧
      let room := s.npx.isEmpty (s.npx.sw.top - 1)
      (s.npx.stOpnd 0 = none ∨ room = false → s.npx.Flagged t.npx [.ie] true ∧
        (s.npx.stOpnd 0 ≠ none → t.npx.sw.c1 = true) ∧ (room = true → t.npx.sw.c1 = false) ∧
        (s.npx.masked .ie = true → s.npx.WrotePushed t.npx 0xFFFFC000000000000000 0xFFFFC000000000000000) ∧
        (s.npx.masked .ie = false → s.npx.SameStack t.npx)) ∧
      ∀ a, s.npx.stOpnd 0 = some a → room = true → t.npx.sw.c1 = false ∧
        (a.isInvalid = true → s.npx.Flagged t.npx [.ie] false ∧
          (s.npx.masked .ie = true → s.npx.WrotePushed t.npx (nanResult a a) (nanResult a a)) ∧
          (s.npx.masked .ie = false → s.npx.SameStack t.npx)) ∧
        (a.cls = .qnan → s.npx.WrotePushed t.npx a.img a.img ∧ s.npx.Flagged t.npx [] false) ∧
        (a.cls = .zero → s.npx.Flagged t.npx [.ze] false ∧
          (s.npx.masked .ze = true → s.npx.WrotePushed t.npx (extInf true) a.img) ∧
          (s.npx.masked .ze = false → s.npx.SameStack t.npx)) ∧
        (a.cls = .infinity → s.npx.WrotePushed t.npx (extInf false) a.img ∧ s.npx.Flagged t.npx [] false) ∧
        (a.nonzero = true → s.npx.Flagged t.npx (denormalFlag a a) false ∧
          (s.npx.denormalOk a a = false → s.npx.SameStack t.npx) ∧
          (s.npx.denormalOk a a = true →
            ∃ x y, IsImage x (decide (floorLog2 |extReal a.img| < 0)) |(floorLog2 |extReal a.img| : ℝ)| ∧
              IsImage y (extSign a.img) (|extReal a.img| / 2 ^ floorLog2 |extReal a.img|) ∧ s.npx.WrotePushed t.npx x y))

/-- FPREM and FPREM1 on two numbers: the exact remainder, by the quotient truncated or rounded to nearest; C0, C3, C1
hold the three low bits of the quotient's magnitude and C2 is 0 when the reduction is complete; else C2 is 1, the others
are 0, and the partial remainder is that of R283 for some step size from 32 to 63. A zero remainder has the sign of
ST(0); a tiny one with UM = 0 has its exponent moved up (R38, R283 to R285). -/
def Obligations.Remainder : Prop :=
  ∀ (i : Instr) (pre : List Prefix) (s : State) (a b : Opnd), i = .fprem pre ∨ i = .fprem1 pre → s.ready i = true →
    s.npx.stOpnd 0 = some a → s.npx.stOpnd 1 = some b → a.nonzero = true → b.nonzero = true →
    s.npx.denormalOk a b = true →
    ∃ t, exec i s = .next t ∧
      let x := |extReal a.img|
      let y := |extReal b.img|
      let dist := floorLog2 x - floorLog2 y
      ∃ (r : ℝ) (z : Ext) (tiny : Bool),
        (dist < 64 → ∃ q : Nat,
          IsRounded (if i = .fprem pre then .chop else .nearest) false (x / y) 1 q ∧
          r = signOf (extSign a.img) * (x - q * y) ∧ t.npx.sw.c2 = false ∧ t.npx.sw.c0 = q.testBit 2 ∧
          t.npx.sw.c3 = q.testBit 1 ∧ t.npx.sw.c1 = q.testBit 0) ∧
        (64 ≤ dist → ∃ k : ℤ, 32 ≤ k ∧ k ≤ 63 ∧
          r = signOf (extSign a.img) * (x - y * ⌊x / y / 2 ^ (dist - k)⌋ * 2 ^ (dist - k)) ∧
          t.npx.sw.c2 = true ∧ t.npx.sw.c0 = false ∧ t.npx.sw.c3 = false ∧ t.npx.sw.c1 = false) ∧
        (tiny = true ↔ r ≠ 0 ∧ |r| < 2 ^ (-16382 : ℤ) ∧ s.npx.masked .ue = false) ∧
        (r = 0 → z = extZero (extSign a.img)) ∧
        (r ≠ 0 → ∃ neg : Bool, (neg = true ↔ r < 0) ∧
          IsImage z neg (if tiny then |r| * 2 ^ (24576 : ℤ) else |r|)) ∧
        s.npx.Wrote t.npx (s.npx.phys 0) z 0 ∧
        s.npx.Flagged t.npx (denormalFlag a b ++ if tiny then [.ue] else []) false

/-- FPREM and FPREM1 otherwise: an infinity by anything and anything by zero are invalid, an infinite divisor and a zero
dividend leave ST(0) with a zero quotient; invalid operands, NaNs, empty registers and an unmasked denormal as for the
other arithmetic instructions (R283). -/
def Obligations.RemainderSpecialCases : Prop :=
  ∀ (i : Instr) (pre : List Prefix) (s : State), i = .fprem pre ∨ i = .fprem1 pre → s.ready i = true →
    ∃ t, exec i s = .next t ∧
      let top := s.npx.phys 0
      (s.npx.stOpnd 0 = none ∨ s.npx.stOpnd 1 = none → s.npx.UnderflowRule t.npx top 0) ∧
      ∀ a b, s.npx.stOpnd 0 = some a → s.npx.stOpnd 1 = some b →
        (a.isInvalid = true ∨ b.isInvalid = true → s.npx.Flagged t.npx [.ie] false ∧
          (s.npx.masked .ie = true → s.npx.Wrote t.npx top (nanResult a b) 0) ∧
          (s.npx.masked .ie = false → s.npx.SameStack t.npx)) ∧
        (a.isInvalid = false → b.isInvalid = false → a.isNan = true ∨ b.isNan = true →
          s.npx.Wrote t.npx top (nanResult a b) 0 ∧ s.npx.Flagged t.npx [] false) ∧
        (a.ordinary = true → b.ordinary = true → a.cls = .infinity ∨ b.cls = .zero →
          s.npx.Flagged t.npx [.ie] false ∧
          (s.npx.masked .ie = true → s.npx.Wrote t.npx top 0xFFFFC000000000000000 0) ∧
          (s.npx.masked .ie = false → s.npx.SameStack t.npx)) ∧
        (a.finite = true → b.ordinary = true → b.cls ≠ .zero → s.npx.denormalOk a b = false →
          s.npx.SameStack t.npx ∧ s.npx.Flagged t.npx [.de] false) ∧
        (a.finite = true → b.ordinary = true → b.cls ≠ .zero → s.npx.denormalOk a b = true →
          a.cls = .zero ∨ b.cls = .infinity →
          s.npx.Wrote t.npx top a.img 0 ∧ s.npx.Flagged t.npx (denormalFlag a b) false ∧
          t.npx.sw.c2 = false ∧ t.npx.sw.c0 = false ∧ t.npx.sw.c3 = false ∧ t.npx.sw.c1 = false)

/-! ### Transcendental instructions -/

/-- FSIN, FCOS, FPTAN and FSINCOS of an operand of magnitude 2^63 or more: C2 = 1, nothing else changes but C1,
which is undefined. Of a zero they are exact: the zero, 1.0, the zero and 1.0, the zero and 1.0, with C2 = 0 and C1 = 0.
Of what is no number: an infinity, a signaling NaN and an unsupported image are invalid, a quiet NaN passes through; an
unmasked denormal stops them; and their stack faults, after which FPTAN still pushes 1.0 if there is room (R162, R173,
R300, R301, R302, R303, R305; assumption 24). C1 = 0 where no rounding took place is the model's choice (92 D15, assumption
14). -/
def Obligations.TrigonometricSpecialCases : Prop :=
  ((∀ (i : Instr) (pre : List Prefix) (s : State) (a : Opnd),
      i = .fsin pre ∨ i = .fcos pre ∨ ((i = .fptan pre ∨ i = .fsincos pre) ∧ s.npx.isEmpty (s.npx.sw.top - 1) = true) →
      s.ready i = true → s.npx.stOpnd 0 = some a → a.finite = true → (2 : ℝ) ^ 63 ≤ |extReal a.img| →
      ∃ t, exec i s = .next t ∧ s.npx.SameStack t.npx ∧ s.npx.Flagged t.npx [] false ∧ t.npx.sw.c2 = true) ∧
   (∀ (pre : List Prefix) (s : State) (a : Opnd), s.npx.stOpnd 0 = some a → a.cls = .zero →
      (s.ready (.fsin pre) = true → ∃ t, exec (.fsin pre) s = .next t ∧ s.npx.Wrote t.npx (s.npx.phys 0) a.img 0 ∧
        s.npx.Flagged t.npx [] false ∧ t.npx.sw.c2 = false ∧ t.npx.sw.c1 = false) ∧
      (s.ready (.fcos pre) = true →
        ∃ t, exec (.fcos pre) s = .next t ∧ s.npx.Wrote t.npx (s.npx.phys 0) 0x3FFF8000000000000000 0 ∧
          s.npx.Flagged t.npx [] false ∧ t.npx.sw.c2 = false ∧ t.npx.sw.c1 = false) ∧
      (∀ i, i = .fptan pre ∨ i = .fsincos pre → s.ready i = true → s.npx.isEmpty (s.npx.sw.top - 1) = true →
        ∃ t, exec i s = .next t ∧ s.npx.WrotePushed t.npx a.img 0x3FFF8000000000000000 ∧
          s.npx.Flagged t.npx [] false ∧ t.npx.sw.c2 = false ∧ t.npx.sw.c1 = false))) ∧
  (∀ (i : Instr) (pre : List Prefix) (s : State), s.ready i = true →
     let room := s.npx.isEmpty (s.npx.sw.top - 1)
     (i = .fsin pre ∨ i = .fcos pre → ∃ t, exec i s = .next t ∧
       (s.npx.stOpnd 0 = none → s.npx.UnderflowRule t.npx (s.npx.phys 0) 0) ∧
       ∀ a, s.npx.stOpnd 0 = some a →
         (a.isInvalid = true ∨ a.cls = .infinity → s.npx.Flagged t.npx [.ie] false ∧ t.npx.sw.c1 = false ∧
           (s.npx.masked .ie = true → s.npx.Wrote t.npx (s.npx.phys 0) (nanResult a a) 0) ∧
           (s.npx.masked .ie = false → s.npx.SameStack t.npx)) ∧
         (a.cls = .qnan → s.npx.Wrote t.npx (s.npx.phys 0) (nanResult a a) 0 ∧ s.npx.Flagged t.npx [] false) ∧
         (a.nonzero = true → s.npx.denormalOk a a = false → s.npx.Stopped t.npx [.de])) ∧
     (i = .fptan pre ∨ i = .fsincos pre → ∃ t, exec i s = .next t ∧
       (s.npx.stOpnd 0 = none ∨ room = false → s.npx.Flagged t.npx [.ie] true ∧
         (s.npx.stOpnd 0 ≠ none → t.npx.sw.c1 = true) ∧ (room = true → t.npx.sw.c1 = false) ∧
         (s.npx.masked .ie = false → s.npx.SameStack t.npx) ∧
         (room = false → s.npx.masked .ie = true →
           s.npx.WrotePushed t.npx 0xFFFFC000000000000000 0xFFFFC000000000000000) ∧
         (room = true → s.npx.masked .ie = true → s.npx.WrotePushed t.npx 0xFFFFC000000000000000
           (if i = .fptan pre then 0x3FFF8000000000000000 else 0xFFFFC000000000000000))) ∧
       ∀ a, s.npx.stOpnd 0 = some a → room = true →
         let second := if i = .fptan pre then 0x3FFF8000000000000000 else nanResult a a
         (a.isInvalid = true ∨ a.cls = .infinity → s.npx.Flagged t.npx [.ie] false ∧ t.npx.sw.c1 = false ∧
           (s.npx.masked .ie = true → s.npx.WrotePushed t.npx (nanResult a a) second) ∧
           (s.npx.masked .ie = false → s.npx.SameStack t.npx)) ∧
         (a.cls = .qnan → s.npx.Flagged t.npx [] false ∧ s.npx.WrotePushed t.npx (nanResult a a) second) ∧
         (a.nonzero = true → s.npx.denormalOk a a = false → s.npx.Stopped t.npx [.de])))

/-- The special values of FPATAN, y = ST(1) and x = ST(0): a zero, or a multiple of pi by the quadrant, rounded by RC, with
the sign of y; then the pop (R306; that PE is signalled with the multiples of pi is assumption 23, and not claimed). -/
def Obligations.ArctangentSpecialValues : Prop :=
  ∀ (pre : List Prefix) (s : State) (x y : Opnd) (z : Ext), s.ready (.fpatan pre) = true →
    s.npx.stOpnd 0 = some x → s.npx.stOpnd 1 = some y → s.npx.denormalOk y x = true →
    let up := s.npx.rc = .nearest ∨ s.npx.rc = .up
    let neg := extSign x.img = true
    (((y.cls = .zero ∧ x.ordinary = true ∨ y.nonzero = true ∧ x.cls = .infinity) ∧ ¬neg ∧ z = 0) ∨
      ((y.cls = .zero ∧ x.ordinary = true ∨ y.nonzero = true ∧ x.cls = .infinity) ∧ neg ∧
        (up → z = 0x4000C90FDAA22168C235) ∧ (¬up → z = 0x4000C90FDAA22168C234)) ∨
      ((x.cls = .zero ∧ (y.nonzero = true ∨ y.cls = .infinity) ∨ y.cls = .infinity ∧ x.finite = true) ∧
        (up → z = 0x3FFFC90FDAA22168C235) ∧ (¬up → z = 0x3FFFC90FDAA22168C234)) ∨
      (y.cls = .infinity ∧ x.cls = .infinity ∧ ¬neg ∧
        (up → z = 0x3FFEC90FDAA22168C235) ∧ (¬up → z = 0x3FFEC90FDAA22168C234)) ∨
      (y.cls = .infinity ∧ x.cls = .infinity ∧ neg ∧
        (up → z = 0x400096CBE3F9990E91A8) ∧ (¬up → z = 0x400096CBE3F9990E91A7))) →
    ∃ t, exec (.fpatan pre) s = .next t ∧
      s.npx.Wrote t.npx (s.npx.phys 1) (if extSign y.img then z ^^^ 0x80000000000000000000 else z) 1

/-- The special values of the logarithms and the exponential, x = ST(0) and y = ST(1). FYL2X: the invalid operands,
the division by zero, and the exact values; then the pop (R308). FYL2XP1: a zero x gives a zero, and is invalid with an
infinite y; a small x with an infinite y gives an infinity; then the pop (R309). F2XM1 of a zero, of 1.0 and of -1.0 is
exact (R307). C1 = 0 after the invalid cases, the division by zero and the exact values is the model's choice (92 D15,
assumption 14). -/
def Obligations.LogarithmSpecialValues : Prop :=
  (∀ (pre : List Prefix) (s : State) (x y : Opnd), s.ready (.fyl2x pre) = true → s.npx.stOpnd 0 = some x →
     s.npx.stOpnd 1 = some y → x.ordinary = true → y.ordinary = true →
     ∃ t, exec (.fyl2x pre) s = .next t ∧
       let d := s.npx.phys 1
       let sx := extSign x.img
       let sy := extSign y.img
       let one := x.nonzero = true ∧ extReal x.img = 1
       let invalid := (sx = true ∧ x.cls ≠ .zero) ∨ (x.cls = .zero ∧ y.cls = .zero) ∨
         (x.cls = .infinity ∧ y.cls = .zero) ∨ (one ∧ y.cls = .infinity)
       (invalid → s.npx.Flagged t.npx [.ie] false ∧ t.npx.sw.c1 = false ∧
         (s.npx.masked .ie = true → s.npx.Wrote t.npx d 0xFFFFC000000000000000 1) ∧
         (s.npx.masked .ie = false → s.npx.SameStack t.npx)) ∧
       (¬invalid → s.npx.denormalOk y x = true →
         (x.cls = .zero → y.nonzero = true →
           s.npx.Flagged t.npx (denormalFlag y x ++ [.ze]) false ∧ t.npx.sw.c1 = false ∧
           (s.npx.masked .ze = true → s.npx.Wrote t.npx d (extInf (!sy)) 1) ∧
           (s.npx.masked .ze = false → s.npx.SameStack t.npx)) ∧
         ∀ z, ((x.cls = .zero ∧ y.cls = .infinity ∧ z = extInf (!sy)) ∨ (x.cls = .infinity ∧ z = extInf sy) ∨
             (x.nonzero = true ∧ y.cls = .infinity ∧ 1 < extReal x.img ∧ z = extInf sy) ∨
             (x.nonzero = true ∧ y.cls = .infinity ∧ extReal x.img < 1 ∧ z = extInf (!sy)) ∨
             (one ∧ z = extZero sy) ∨
             (x.nonzero = true ∧ ¬one ∧ y.cls = .zero ∧ 1 < extReal x.img ∧ z = extZero sy) ∨
             (x.nonzero = true ∧ y.cls = .zero ∧ extReal x.img < 1 ∧ z = extZero (!sy))) →
           s.npx.Wrote t.npx d z 1 ∧ s.npx.Flagged t.npx (denormalFlag y x) false ∧ t.npx.sw.c1 = false)) ∧
  (∀ (pre : List Prefix) (s : State) (x y : Opnd), s.ready (.fyl2xp1 pre) = true → s.npx.stOpnd 0 = some x →
     s.npx.stOpnd 1 = some y → s.npx.denormalOk y x = true →
     ∃ t, exec (.fyl2xp1 pre) s = .next t ∧
       let d := s.npx.phys 1
       let sign := extSign x.img ^^ extSign y.img
       (x.cls = .zero → y.cls = .infinity → s.npx.Flagged t.npx [.ie] false ∧ t.npx.sw.c1 = false ∧
         (s.npx.masked .ie = true → s.npx.Wrote t.npx d 0xFFFFC000000000000000 1) ∧
         (s.npx.masked .ie = false → s.npx.SameStack t.npx)) ∧
       (x.cls = .zero → y.finite = true → s.npx.Wrote t.npx d (extZero sign) 1 ∧
         s.npx.Flagged t.npx (denormalFlag y x) false ∧ t.npx.sw.c1 = false) ∧
       (x.nonzero = true → |extReal x.img| < (2 - Real.sqrt 2) / 2 → y.cls = .infinity →
         s.npx.Wrote t.npx d (extInf sign) 1 ∧ s.npx.Flagged t.npx (denormalFlag y x) false ∧ t.npx.sw.c1 = false)) ∧
  (∀ (pre : List Prefix) (s : State) (a : Opnd) (z : Ext), s.ready (.f2xm1 pre) = true → s.npx.stOpnd 0 = some a →
     s.npx.denormalOk a a = true →
     ((a.cls = .zero ∧ z = a.img) ∨ (a.nonzero = true ∧ extReal a.img = 1 ∧ z = 0x3FFF8000000000000000) ∨
       (a.nonzero = true ∧ extReal a.img = -1 ∧ z = 0xBFFE8000000000000000)) →
     ∃ t, exec (.f2xm1 pre) s = .next t ∧ s.npx.Wrote t.npx (s.npx.phys 0) z 0 ∧ s.npx.Flagged t.npx [] false ∧
       t.npx.sw.c1 = false)

/-- The results of the transcendental instructions on numbers in their ranges, with overflow and underflow masked: a
result is written, the instruction's push or pop made, and the reduction bit cleared; the result is a Zero, Denormal or
Normal, never a NaN or an unsupported image, and an infinity only from FYL2X, with OE. The sine of a tiny operand is a
denormal, with UE. The exact values are irrational, so PE is set (read from R300, not stated by it, assumption 21), but for
FYL2X: if PE was clear and stays clear, its result is exact. Every inexact zero or denormal of FYL2X, and so one that R167
rounds to zero, signals UE: that R308 has the loss of accuracy judged on the exact value, and not on the result of
`transc`, is the reading of assumption 21. With underflow unmasked FYL2X gives a Normal, or an infinity with OE where
overflow is masked; from no flags, if UE is signalled the result is a number below the format times 2^24576, and if
PE is not, it is the exact value, times 2^24576 with UE and over 2^24576 with OE (R166, R167, R300 to R309). -/
def Obligations.TranscendentalResults : Prop :=
  (∀ (i : Instr) (pre : List Prefix) (s : State) (a : Opnd), s.ready i = true → s.npx.stOpnd 0 = some a →
     a.nonzero = true → s.npx.denormalOk a a = true → |extReal a.img| < (2 : ℝ) ^ 63 →
     s.npx.masked .oe = true → s.npx.masked .ue = true →
     let supported (x : Ext) : Prop := classOf x = .zero ∨ classOf x = .denormal ∨ classOf x = .normal
     let tiny : Prop := |extReal a.img| < 2 ^ (-16382 : ℤ)
     let done (t : State) : Prop := t.npx.sw.c2 = false ∧ t.npx.sw.pe = true
     (i = .fsin pre ∨ i = .fcos pre → ∃ t x, exec i s = .next t ∧ supported x ∧
       s.npx.Wrote t.npx (s.npx.phys 0) x 0 ∧ done t ∧
       (i = .fsin pre → tiny → classOf x = .denormal ∧ t.npx.sw.ue = true)) ∧
     (i = .fptan pre → s.npx.isEmpty (s.npx.sw.top - 1) = true → ∃ t x, exec i s = .next t ∧ supported x ∧
       s.npx.WrotePushed t.npx x 0x3FFF8000000000000000 ∧ done t) ∧
     (i = .fsincos pre → s.npx.isEmpty (s.npx.sw.top - 1) = true → ∃ t x y, exec i s = .next t ∧ supported x ∧
       supported y ∧ s.npx.WrotePushed t.npx x y ∧ done t ∧
       (tiny → classOf x = .denormal ∧ t.npx.sw.ue = true))) ∧
  (∀ (i : Instr) (pre : List Prefix) (s : State) (x : Opnd), s.ready i = true → s.npx.stOpnd 0 = some x →
     x.nonzero = true → s.npx.masked .oe = true → s.npx.masked .ue = true → s.npx.masked .de = true →
     let supported (z : Ext) : Prop := classOf z = .zero ∨ classOf z = .denormal ∨ classOf z = .normal
     (i = .f2xm1 pre → |extReal x.img| ≤ 1 →
       ∃ t z, exec i s = .next t ∧ supported z ∧ s.npx.Wrote t.npx (s.npx.phys 0) z 0 ∧
         (|extReal x.img| < 1 → t.npx.sw.pe = true)) ∧
     ∀ y, s.npx.stOpnd 1 = some y → y.nonzero = true →
       (i = .fpatan pre ∨ i = .fyl2xp1 pre ∧ |extReal x.img| < (2 - Real.sqrt 2) / 2 →
         ∃ t z, exec i s = .next t ∧ supported z ∧ s.npx.Wrote t.npx (s.npx.phys 1) z 1 ∧ t.npx.sw.pe = true) ∧
       (i = .fyl2x pre → extSign x.img = false →
         ∃ t z, exec i s = .next t ∧ (supported z ∨ classOf z = .infinity ∧ t.npx.sw.oe = true) ∧
           s.npx.Wrote t.npx (s.npx.phys 1) z 1 ∧
           (s.npx.sw.pe = false → t.npx.sw.pe = false →
             supported z ∧ extReal z = extReal y.img * Real.logb 2 (extReal x.img)) ∧
           (s.npx.sw.pe = false → t.npx.sw.pe = true → classOf z = .zero ∨ classOf z = .denormal → t.npx.sw.ue = true))) ∧
  (∀ (pre : List Prefix) (s : State) (x y : Opnd), s.ready (.fyl2x pre) = true → s.npx.stOpnd 0 = some x →
     s.npx.stOpnd 1 = some y → x.nonzero = true → y.nonzero = true → extSign x.img = false → extReal x.img ≠ 1 →
     s.npx.masked .de = true → s.npx.masked .ue = false →
     ∃ t z, exec (.fyl2x pre) s = .next t ∧ s.npx.Wrote t.npx (s.npx.phys 1) z 1 ∧
       (classOf z = .normal ∨ classOf z = .infinity ∧ s.npx.masked .oe = true ∧ t.npx.sw.oe = true) ∧
      (s.npx.sw.flags = 0 →
        (t.npx.sw.ue = false ∨ |extReal z| < 2 ^ (24576 - 16382 : ℤ)) ∧
        (t.npx.sw.pe = true ∨ extReal z = extReal y.img * Real.logb 2 (extReal x.img) *
          (if t.npx.sw.ue = true then 2 ^ (24576 : ℤ) else if t.npx.sw.oe = true then 2 ^ (-24576 : ℤ) else 1))))

/-! ### Processor control -/

/-- FNINIT: CW = 037FH, SW = 0000H, every register tagged empty, the pointers zero, the contents of the registers kept,
ERROR# inactive (R61 to R65, R325). -/
def Obligations.Initialize : Prop :=
  ∀ (pre : List Prefix) (s : State), s.ready (.finit pre) = true →
    ∃ t, exec (.finit pre) s = .next t ∧ t.npx.cw = 0x037F ∧ t.npx.statusWord = 0 ∧ t.npx.tagWord = 0xFFFF ∧
      (∀ k, t.npx.isEmpty k = true) ∧ t.npx.regs = s.npx.regs ∧ t.ptrs = ⟨0, 0, 0, 0, 0⟩ ∧ t.errorPin = false

/-- FNSTSW AX and FNSTSW store the whole status word, FNSTCW the control word; the upper half of EAX stays, and no
register, tag, flag, TOP, control word or pointer changes (R327, R328, R331). FLDCW: bits 12 to 8 and 5 to 0 of the control
word are those of the operand, bit 6 reads 1, and bits 15 to 13 and 7 read 0, or as written, by the parameter
`cw_reserved_readback`; flags, stack and pointers stay, and ES follows the new masks (R33, R44, R45, R330). C3 to C0 are
undefined after each. -/
def Obligations.StatusAndControlTransfers : Prop :=
  (∀ (i : Instr) (pre : List Prefix) (m : MemArg) (s : State), s.ready i = true →
     i = .fstswAx pre ∨ i = .fstsw pre m ∨ i = .fstcw pre m →
     ∃ t, exec i s = .next t ∧ s.npx.SameStack t.npx ∧ s.npx.Flagged t.npx [] false ∧ t.ptrs = s.ptrs ∧
       (i = .fstswAx pre → t.cpu.gprs = { s.cpu.gprs with eax := s.cpu.gprs.eax.extractLsb' 16 16 ++ s.npx.statusWord }) ∧
       (∀ r, s.operandRef i = some r →
         (i = .fstsw pre m → t.wordAt r 0 = s.npx.statusWord) ∧ (i = .fstcw pre m → t.wordAt r 0 = s.npx.cw))) ∧
  (∀ (pre : List Prefix) (m : MemArg) (s : State) (r : MemRef), s.ready (.fldcw pre m) = true →
     s.operandRef (.fldcw pre m) = some r →
     ∃ t, exec (.fldcw pre m) s = .next t ∧
       let v := s.wordAt r 0
       (∀ k < 16, t.npx.cw.getLsbD k =
         if k = 6 then true
         else if 13 ≤ k ∨ k = 7 then s.params.cwReadback == .asWritten && v.getLsbD k
         else v.getLsbD k) ∧
       s.npx.SameStack t.npx ∧ (∀ e, t.npx.sw.flag e = s.npx.sw.flag e) ∧ t.npx.sw.sf = s.npx.sw.sf ∧ t.ptrs = s.ptrs ∧
       (t.npx.es = true ↔ ∃ e, s.npx.sw.flag e = true ∧ t.npx.masked e = false))

/-- FINCSTP and FDECSTP move TOP by one, modulo 8, and clear C1; tags, registers and flags stay (R345, R346). FFREE
tags ST(i) empty, and FNOP, FENI, FDISI and FSETPM change no register, tag, flag or TOP (R347, R348, R349; C3 to C0 are
undefined after them, 92 D14). -/
def Obligations.StackManagement : Prop :=
  (∀ (pre : List Prefix) (s : State),
     (s.ready (.fincstp pre) = true → ∃ t, exec (.fincstp pre) s = .next t ∧ t.npx.sw.top = s.npx.sw.top + 1 ∧
       t.npx.regs = s.npx.regs ∧ t.npx.empty = s.npx.empty ∧ s.npx.Flagged t.npx [] false ∧ t.npx.sw.c1 = false) ∧
     (s.ready (.fdecstp pre) = true → ∃ t, exec (.fdecstp pre) s = .next t ∧ t.npx.sw.top = s.npx.sw.top - 1 ∧
       t.npx.regs = s.npx.regs ∧ t.npx.empty = s.npx.empty ∧ s.npx.Flagged t.npx [] false ∧ t.npx.sw.c1 = false)) ∧
  ((∀ (pre : List Prefix) (k : StIndex) (s : State), s.ready (.ffreeSti pre k) = true →
     ∃ t, exec (.ffreeSti pre k) s = .next t ∧ t.npx.regs = s.npx.regs ∧ t.npx.sw.top = s.npx.sw.top ∧
       (∀ j, t.npx.isEmpty j = (decide (j = s.npx.sw.top + k) || s.npx.isEmpty j)) ∧ s.npx.Flagged t.npx [] false) ∧
   (∀ (i : Instr) (pre : List Prefix) (s : State), i = .fnop pre ∨ i = .feni pre ∨ i = .fdisi pre ∨ i = .fsetpm pre →
     s.ready i = true → ∃ t, exec i s = .next t ∧ s.npx.SameStack t.npx ∧ s.npx.Flagged t.npx [] false))

/-! ### Environment and full state -/

/-- FNSTENV and FNSAVE store the environment in the format of the mode and the operand size, field by field as Figures 2.3
to 2.6 place it; FNSAVE stores the eight registers in stack order behind it. Then FNSTENV masks all exceptions, and
FNSAVE initializes (R335, R337, R338, R340). That the fields printed as zeros are stored as zeros, and that a format keeps
the low 16 or 20 bits of a pointer, is the model's choice (92 D11, assumption 29). -/
def Obligations.StoreEnvironmentAndState : Prop :=
  ∀ (i : Instr) (pre : List Prefix) (m : MemArg) (s : State) (r : MemRef), i = .fstenv pre m ∨ i = .fsave pre m →
    s.ready i = true → s.operandRef i = some r →
    ∃ t, exec i s = .next t ∧
      let n := s.npx
      let p := s.ptrs
      let size := s.operandSize pre
      let protect := s.cpu.mode = .protectedMode
      (size = .s32 → t.wordAt r 0x00 = n.cw ∧ t.wordAt r 0x04 = n.statusWord ∧ t.wordAt r 0x08 = n.tagWord ∧
        t.wordAt r 0x0C = p.fip.extractLsb' 0 16 ∧ t.wordAt r 0x14 = p.fdp.extractLsb' 0 16) ∧
      (size = .s32 → protect → t.wordAt r 0x0E = p.fip.extractLsb' 16 16 ∧ t.wordAt r 0x10 = p.fcs ∧
        t.wordAt r 0x16 = p.fdp.extractLsb' 16 16 ∧ t.wordAt r 0x18 = p.fds) ∧
      (size = .s32 → ¬protect →
        t.wordAt r 0x12 ++ t.wordAt r 0x10 = (0 : BitVec 4) ++ p.fip.extractLsb' 16 16 ++ (0 : BitVec 1) ++ p.fop ∧
        t.wordAt r 0x1A ++ t.wordAt r 0x18 = (0 : BitVec 4) ++ p.fdp.extractLsb' 16 16 ++ (0 : BitVec 12)) ∧
      (size = .s16 → t.wordAt r 0x00 = n.cw ∧ t.wordAt r 0x02 = n.statusWord ∧ t.wordAt r 0x04 = n.tagWord ∧
        t.wordAt r 0x06 = p.fip.extractLsb' 0 16 ∧ t.wordAt r 0x0A = p.fdp.extractLsb' 0 16) ∧
      (size = .s16 → protect → t.wordAt r 0x08 = p.fcs ∧ t.wordAt r 0x0C = p.fds) ∧
      (size = .s16 → ¬protect → t.wordAt r 0x08 = p.fip.extractLsb' 16 4 ++ (0 : BitVec 1) ++ p.fop ∧
        t.wordAt r 0x0C = p.fdp.extractLsb' 16 4 ++ (0 : BitVec 12)) ∧
      (i = .fstenv pre m → n.SameStack t.npx ∧ t.npx.cw = n.cw ||| 0x003F ∧ (∀ e, t.npx.sw.flag e = n.sw.flag e) ∧
        t.npx.sw.sf = n.sw.sf ∧ t.ptrs = p) ∧
      (i = .fsave pre m →
        (∀ k : BitVec 3,
          t.imageAt r ((if size = .s16 then 14 else 28) + 10 * k.toNat) = n.reg (n.sw.top + k)) ∧
        t.npx.cw = 0x037F ∧ t.npx.statusWord = 0 ∧ (∀ k, t.npx.isEmpty k = true) ∧ t.npx.regs = n.regs ∧
        t.ptrs = ⟨0, 0, 0, 0, 0⟩)

/-- FLDENV and FRSTOR load the control word, the status word but for ES and B, the empty tags and the pointer fields the
format holds; FLDENV keeps the registers, FRSTOR loads them in the order of the TOP it has loaded (R25, R41, R335, R336,
R338, R339; a pointer field the format does not hold stays, 92 D11). -/
def Obligations.LoadEnvironmentAndState : Prop :=
  ∀ (i : Instr) (pre : List Prefix) (m : MemArg) (s : State) (r : MemRef), i = .fldenv pre m ∨ i = .frstor pre m →
    s.ready i = true → s.operandRef i = some r →
    ∃ t, exec i s = .next t ∧
      let size := s.operandSize pre
      let protect := s.cpu.mode = .protectedMode
      let step := if size = .s16 then 2 else 4
      let sw := s.wordAt r step
      let tags := s.wordAt r (2 * step)
      (∀ k < 16, t.npx.cw.getLsbD k =
        if k = 6 then true
        else if 13 ≤ k ∨ k = 7 then s.params.cwReadback == .asWritten && (s.wordAt r 0).getLsbD k
        else (s.wordAt r 0).getLsbD k) ∧
      (∀ k < 16, k ≠ 7 → k ≠ 15 → t.npx.statusWord.getLsbD k = sw.getLsbD k) ∧
      (t.npx.es = true ↔ ∃ e, t.npx.sw.flag e = true ∧ t.npx.masked e = false) ∧
      (∀ k : BitVec 3, t.npx.isEmpty k = decide (tags.extractLsb' (2 * k.toNat) 2 = 3)) ∧
      (size = .s32 → protect →
        t.ptrs = { s.ptrs with fip := s.wordAt r 0x0E ++ s.wordAt r 0x0C, fcs := s.wordAt r 0x10,
                               fdp := s.wordAt r 0x16 ++ s.wordAt r 0x14, fds := s.wordAt r 0x18 }) ∧
      (size = .s32 → ¬protect →
        t.ptrs = { s.ptrs with fip := (s.wordAt r 0x12 ++ s.wordAt r 0x10).extractLsb' 12 16 ++ s.wordAt r 0x0C,
                               fop := (s.wordAt r 0x10).extractLsb' 0 11,
                               fdp := (s.wordAt r 0x1A ++ s.wordAt r 0x18).extractLsb' 12 16 ++ s.wordAt r 0x14 }) ∧
      (size = .s16 → protect →
        t.ptrs = { s.ptrs with fip := (s.wordAt r 0x06).setWidth 32, fcs := s.wordAt r 0x08,
                               fdp := (s.wordAt r 0x0A).setWidth 32, fds := s.wordAt r 0x0C }) ∧
      (size = .s16 → ¬protect →
        t.ptrs = { s.ptrs with fip := ((s.wordAt r 0x08).extractLsb' 12 4 ++ s.wordAt r 0x06).setWidth 32,
                               fop := (s.wordAt r 0x08).extractLsb' 0 11,
                               fdp := ((s.wordAt r 0x0C).extractLsb' 12 4 ++ s.wordAt r 0x0A).setWidth 32 }) ∧
      (i = .fldenv pre m → t.npx.regs = s.npx.regs) ∧
      (i = .frstor pre m → ∀ k : BitVec 3,
        t.npx.reg (t.npx.sw.top + k) = s.imageAt r ((if size = .s16 then 14 else 28) + 10 * k.toNat))

/-- FNSAVE and then FRSTOR of the same operand give the NPX back: registers, tags, status word, control word, and every
pointer field the format holds (R339): the selectors and offsets in protected mode, the linear addresses and the opcode
otherwise, of the pointers all 32 bits, or 16 or 20 bits in the two 16-bit formats; the fields it does not hold are zero
after FNSAVE (92 D11, assumption 29). The control word's reserved bits must stand as they read back, which every step
keeps. -/
def Obligations.SaveThenRestore : Prop :=
  ∀ (pre : List Prefix) (m : MemArg) (s : State), s.Inv → s.ready (.fsave pre m) = true →
    ∃ t, exec (.fsave pre m) s = .next t ∧
      (t.ready (.frstor pre m) = true →
        ∃ u, exec (.frstor pre m) t = .next u ∧ u.npx = s.npx ∧ u.errorPin = s.errorPin ∧
          (s.operandSize pre = .s32 → s.cpu.mode = .protectedMode →
            u.ptrs = { s.ptrs with fop := 0 }) ∧
          (s.operandSize pre = .s32 → s.cpu.mode ≠ .protectedMode →
            u.ptrs = { s.ptrs with fcs := 0, fds := 0 }) ∧
          (s.operandSize pre = .s16 → s.cpu.mode = .protectedMode →
            u.ptrs = { s.ptrs with fip := (s.ptrs.fip.extractLsb' 0 16).setWidth 32
                                   fdp := (s.ptrs.fdp.extractLsb' 0 16).setWidth 32, fop := 0 }) ∧
          (s.operandSize pre = .s16 → s.cpu.mode ≠ .protectedMode →
            u.ptrs = { fip := (s.ptrs.fip.extractLsb' 0 20).setWidth 32, fcs := 0
                       fdp := (s.ptrs.fdp.extractLsb' 0 20).setWidth 32, fds := 0, fop := s.ptrs.fop }))
end

