-- ==== Sys2Proof/Laws/Memory.lean ====
section
/-! SUPPORT. The laws of memory: a read after a write, and that every memory operation keeps the canonical
form. -/

namespace Sys2Proof.Machine

/-! ### Reading after writing -/

theorem Memory.read_erase (m : Memory) (a x : Nat) :
    (m.erase a).read x = if x = a then unlistedByte else m.read x := by
  induction m with
  | nil => simp [Memory.erase, Memory.read]
  | cons c m ih =>
    simp only [Memory.erase] at ih ⊢
    rw [List.filter_cons]
    by_cases h : c.1 = a
    · subst h
      by_cases hx : x = c.1
      · subst hx; simpa [Memory.read] using ih
      · simp [Memory.read, Ne.symm hx, hx, ih]
    · by_cases hx : c.1 = x
      · subst hx; simp [Memory.read, h]
      · simp [Memory.read, h, hx, ih]

theorem Memory.read_insert (m : Memory) (a : Nat) (b : Byte) (x : Nat) (h : ∀ c ∈ m, c.1 ≠ a) :
    (m.insert a b).read x = if x = a then b else m.read x := by
  induction m with
  | nil => by_cases hx : a = x <;> simp [Memory.insert, Memory.read, hx, eq_comm]
  | cons c m ih =>
    have hc : c.1 ≠ a := h c (by simp)
    have ih := ih fun c hc => h c (by simp [hc])
    unfold Memory.insert
    split
    · by_cases hx : a = x <;> simp [Memory.read, hx, eq_comm]
    · by_cases hx : c.1 = x
      · subst hx; simp [Memory.read, hc]
      · simp [Memory.read, hx, ih]

theorem Memory.erase_ne (m : Memory) (a : Nat) : ∀ c ∈ m.erase a, c.1 ≠ a := by
  intro c hc
  simpa using (List.mem_filter.mp hc).2

/-- A read after a write: the byte written, and elsewhere what was there. -/
theorem Memory.read_write (m : Memory) (a : Nat) (b : Byte) (x : Nat) :
    (m.write a b).read x = if x = a then b else m.read x := by
  unfold Memory.write
  split
  · next h => rw [Memory.read_erase, h]
  · rw [Memory.read_insert _ _ _ _ (m.erase_ne a), Memory.read_erase]
    split <;> rfl

theorem Memory.read_writeList_of_notMem (as : List Nat) (m : Memory) (v x : Nat) (h : x ∉ as) :
    (m.writeList as v).read x = m.read x := by
  induction as generalizing m v with
  | nil => rfl
  | cons a as ih =>
    simp only [List.mem_cons, not_or] at h
    rw [Memory.writeList, ih _ _ h.2, Memory.read_write, if_neg h.1]

theorem Memory.readList_congr (as : List Nat) (m m' : Memory) (h : ∀ x ∈ as, m.read x = m'.read x) :
    m.readList as = m'.readList as := by
  induction as with
  | nil => rfl
  | cons a as ih =>
    rw [Memory.readList, Memory.readList, h a (by simp), ih fun x hx => h x (by simp [hx])]

/-- Reading what was stored at distinct addresses. -/
theorem Memory.readList_writeList (as : List Nat) (m : Memory) (v : Nat) (h : as.Nodup) :
    (m.writeList as v).readList as = v % 256 ^ as.length := by
  induction as generalizing m v with
  | nil => simp [Memory.readList, Nat.mod_one]
  | cons a as ih =>
    rw [List.nodup_cons] at h
    rw [Memory.writeList, Memory.readList, ih _ _ h.2, Memory.read_writeList_of_notMem _ _ _ _ h.1,
      Memory.read_write, if_pos rfl, List.length_cons, Nat.pow_succ', Nat.mod_mul]
    simp

/-! ### The canonical form -/

theorem risesFrom_mono {lo lo' : Nat} {m : Memory} (h : risesFrom lo m = true) (hl : lo' ≤ lo) :
    risesFrom lo' m = true := by
  cases m with
  | nil => rfl
  | cons c m =>
    simp only [risesFrom, Bool.and_eq_true, decide_eq_true_eq] at h ⊢
    exact ⟨hl.trans h.1, h.2⟩

theorem risesFrom_erase {lo : Nat} {m : Memory} (a : Nat) (h : risesFrom lo m = true) :
    risesFrom lo (m.erase a) = true := by
  induction m generalizing lo with
  | nil => rfl
  | cons c m ih =>
    simp only [risesFrom, Bool.and_eq_true, decide_eq_true_eq] at h
    have ih := ih h.2
    simp only [Memory.erase] at ih ⊢
    rw [List.filter_cons]
    split
    · simp only [risesFrom, Bool.and_eq_true, decide_eq_true_eq]; exact ⟨h.1, ih⟩
    · exact risesFrom_mono ih (by omega)

theorem risesFrom_insert {lo : Nat} {m : Memory} {a : Nat} (b : Byte) (h : risesFrom lo m = true) (hl : lo ≤ a)
    (ha : ∀ c ∈ m, c.1 ≠ a) : risesFrom lo (m.insert a b) = true := by
  induction m generalizing lo with
  | nil => simp [Memory.insert, risesFrom, hl]
  | cons c m ih =>
    simp only [risesFrom, Bool.and_eq_true, decide_eq_true_eq] at h
    have hc : c.1 ≠ a := ha c (by simp)
    unfold Memory.insert
    split
    · simp only [risesFrom, Bool.and_eq_true, decide_eq_true_eq]; exact ⟨hl, by omega, h.2⟩
    · simp only [risesFrom, Bool.and_eq_true, decide_eq_true_eq]
      exact ⟨h.1, ih h.2 (by omega) fun c hc => ha c (by simp [hc])⟩

theorem Memory.mem_insert {m : Memory} {a : Nat} {b : Byte} {c : Host.Cell} (h : c ∈ m.insert a b) :
    c = (a, b) ∨ c ∈ m := by
  induction m with
  | nil => simpa [Memory.insert] using h
  | cons d m ih =>
    unfold Memory.insert at h
    split at h
    · simpa using h
    · rcases List.mem_cons.mp h with h | h
      · exact .inr (by simp [h])
      · exact (ih h).imp_right fun h => by simp [h]

theorem Memory.wf_iff (m : Memory) :
    m.wf = true ↔ risesFrom 0 m = true ∧ ∀ c ∈ m, c.1 < addressSpace ∧ c.2 ≠ unlistedByte := by
  simp [Memory.wf]

/-- A write keeps the canonical form. -/
theorem Memory.wf_write {m : Memory} (h : m.wf = true) {a : Nat} (ha : a < addressSpace) (b : Byte) :
    (m.write a b).wf = true := by
  rw [Memory.wf_iff] at h ⊢
  have he : ∀ c ∈ m.erase a, c.1 < addressSpace ∧ c.2 ≠ unlistedByte :=
    fun c hc => h.2 c (List.mem_filter.mp hc).1
  unfold Memory.write
  split
  · exact ⟨risesFrom_erase a h.1, he⟩
  · next hb =>
    refine ⟨risesFrom_insert b (risesFrom_erase a h.1) (Nat.zero_le a) (m.erase_ne a), fun c hc => ?_⟩
    rcases Memory.mem_insert hc with rfl | hc
    · exact ⟨ha, hb⟩
    · exact he c hc

theorem Memory.wf_writeList {m : Memory} (h : m.wf = true) (as : List Nat) (v : Nat)
    (ha : ∀ a ∈ as, a < addressSpace) : (m.writeList as v).wf = true := by
  induction as generalizing m v with
  | nil => exact h
  | cons a as ih => exact ih (Memory.wf_write h (ha a (by simp)) _) _ fun a h => ha a (by simp [h])

theorem Memory.wf_writeBytes {m : Memory} (h : m.wf = true) (as : List Nat) (bs : List Byte)
    (ha : ∀ a ∈ as, a < addressSpace) : (m.writeBytes as bs).wf = true := by
  induction as generalizing m bs with
  | nil => cases bs <;> exact h
  | cons a as ih =>
    cases bs with
    | nil => exact h
    | cons b bs => exact ih (Memory.wf_write h (ha a (by simp)) b) bs fun a h => ha a (by simp [h])

/-! ### The addresses of operands and instructions -/

theorem Segments.address_lt (g : Segments) (r : MemRef) (k : Nat) : g.address r k < addressSpace :=
  BitVec.isLt _

theorem Segments.addresses_lt (g : Segments) (r : MemRef) (n : Nat) : ∀ a ∈ g.addresses r n, a < addressSpace := by
  intro a ha
  obtain ⟨k, -, rfl⟩ := List.mem_map.mp ha
  exact g.address_lt r k

theorem fetchAddresses_lt (base eip : BitVec 32) (n : Nat) : ∀ a ∈ fetchAddresses base eip n, a < addressSpace := by
  induction n generalizing eip with
  | zero => simp [fetchAddresses]
  | succ n ih =>
    intro a ha
    rcases List.mem_cons.mp ha with rfl | ha
    · exact BitVec.isLt _
    · exact ih _ a ha

/-- A store to an operand keeps the canonical form. -/
theorem State.wf_writeOperand {s : State} (h : s.mem.wf = true) (r : MemRef) (n v : Nat) :
    (s.writeOperand r n v).mem.wf = true :=
  Memory.wf_writeList h _ _ (s.cpu.segs.addresses_lt r n)

/-- Placing a word keeps the canonical form. -/
theorem State.wf_placeWord {s : State} (h : s.mem.wf = true) (nbits w : Nat) : (s.placeWord nbits w).mem.wf = true :=
  Memory.wf_writeBytes h _ _ (fetchAddresses_lt _ _ _)

/-- Bytes outside an operand are unchanged by a store to it. -/
theorem State.read_writeOperand {s : State} (r : MemRef) (n v x : Nat) (h : x ∉ s.cpu.segs.addresses r n) :
    (s.writeOperand r n v).mem.read x = s.mem.read x :=
  Memory.read_writeList_of_notMem _ _ _ _ h

end Sys2Proof.Machine
end

