-- ==== Sys2Proof/Laws/State.lean ====
section
/-! SUPPORT. One lemma per field and update of the state records, so that no proof unfolds an update. -/

namespace Sys2Proof.Machine

/-! ### Updates of the NPX registers -/

@[simp] theorem Npx.signal_regs (n : Npx) (e : Exc) : (n.signal e).regs = n.regs := by cases e <;> rfl
@[simp] theorem Npx.signal_empty (n : Npx) (e : Exc) : (n.signal e).empty = n.empty := by cases e <;> rfl
@[simp] theorem Npx.signal_cw (n : Npx) (e : Exc) : (n.signal e).cw = n.cw := by cases e <;> rfl
@[simp] theorem Npx.signal_sf (n : Npx) (e : Exc) : (n.signal e).sw.sf = n.sw.sf := by cases e <;> rfl
@[simp] theorem Npx.signal_c0 (n : Npx) (e : Exc) : (n.signal e).sw.c0 = n.sw.c0 := by cases e <;> rfl
@[simp] theorem Npx.signal_c1 (n : Npx) (e : Exc) : (n.signal e).sw.c1 = n.sw.c1 := by cases e <;> rfl
@[simp] theorem Npx.signal_c2 (n : Npx) (e : Exc) : (n.signal e).sw.c2 = n.sw.c2 := by cases e <;> rfl
@[simp] theorem Npx.signal_c3 (n : Npx) (e : Exc) : (n.signal e).sw.c3 = n.sw.c3 := by cases e <;> rfl
@[simp] theorem Npx.signal_top (n : Npx) (e : Exc) : (n.signal e).sw.top = n.sw.top := by cases e <;> rfl
@[simp] theorem Npx.signal_masked (n : Npx) (e : Exc) (m : Exc) : (n.signal e).masked m = n.masked m := by cases m <;> simp [Npx.masked]
@[simp] theorem Npx.signal_masks (n : Npx) (e : Exc) : (n.signal e).masks = n.masks := by simp [Npx.masks]
@[simp] theorem Npx.signal_rc (n : Npx) (e : Exc) : (n.signal e).rc = n.rc := by simp [Npx.rc]
@[simp] theorem Npx.signal_precision (n : Npx) (e : Exc) : (n.signal e).precision = n.precision := by simp [Npx.precision]

@[simp] theorem Npx.signalIf_regs (n : Npx) (c : Bool) (e : Exc) : (n.signalIf c e).regs = n.regs := by cases c <;> cases e <;> rfl
@[simp] theorem Npx.signalIf_empty (n : Npx) (c : Bool) (e : Exc) : (n.signalIf c e).empty = n.empty := by cases c <;> cases e <;> rfl
@[simp] theorem Npx.signalIf_cw (n : Npx) (c : Bool) (e : Exc) : (n.signalIf c e).cw = n.cw := by cases c <;> cases e <;> rfl
@[simp] theorem Npx.signalIf_sf (n : Npx) (c : Bool) (e : Exc) : (n.signalIf c e).sw.sf = n.sw.sf := by cases c <;> cases e <;> rfl
@[simp] theorem Npx.signalIf_c0 (n : Npx) (c : Bool) (e : Exc) : (n.signalIf c e).sw.c0 = n.sw.c0 := by cases c <;> cases e <;> rfl
@[simp] theorem Npx.signalIf_c1 (n : Npx) (c : Bool) (e : Exc) : (n.signalIf c e).sw.c1 = n.sw.c1 := by cases c <;> cases e <;> rfl
@[simp] theorem Npx.signalIf_c2 (n : Npx) (c : Bool) (e : Exc) : (n.signalIf c e).sw.c2 = n.sw.c2 := by cases c <;> cases e <;> rfl
@[simp] theorem Npx.signalIf_c3 (n : Npx) (c : Bool) (e : Exc) : (n.signalIf c e).sw.c3 = n.sw.c3 := by cases c <;> cases e <;> rfl
@[simp] theorem Npx.signalIf_top (n : Npx) (c : Bool) (e : Exc) : (n.signalIf c e).sw.top = n.sw.top := by cases c <;> cases e <;> rfl
@[simp] theorem Npx.signalIf_masked (n : Npx) (c : Bool) (e : Exc) (m : Exc) : (n.signalIf c e).masked m = n.masked m := by cases m <;> simp [Npx.masked]
@[simp] theorem Npx.signalIf_masks (n : Npx) (c : Bool) (e : Exc) : (n.signalIf c e).masks = n.masks := by simp [Npx.masks]
@[simp] theorem Npx.signalIf_rc (n : Npx) (c : Bool) (e : Exc) : (n.signalIf c e).rc = n.rc := by simp [Npx.rc]
@[simp] theorem Npx.signalIf_precision (n : Npx) (c : Bool) (e : Exc) : (n.signalIf c e).precision = n.precision := by simp [Npx.precision]

@[simp] theorem Npx.setC1_regs (n : Npx) (c : Bool) : (n.setC1 c).regs = n.regs := rfl
@[simp] theorem Npx.setC1_empty (n : Npx) (c : Bool) : (n.setC1 c).empty = n.empty := rfl
@[simp] theorem Npx.setC1_cw (n : Npx) (c : Bool) : (n.setC1 c).cw = n.cw := rfl
@[simp] theorem Npx.setC1_ie (n : Npx) (c : Bool) : (n.setC1 c).sw.ie = n.sw.ie := rfl
@[simp] theorem Npx.setC1_de (n : Npx) (c : Bool) : (n.setC1 c).sw.de = n.sw.de := rfl
@[simp] theorem Npx.setC1_ze (n : Npx) (c : Bool) : (n.setC1 c).sw.ze = n.sw.ze := rfl
@[simp] theorem Npx.setC1_oe (n : Npx) (c : Bool) : (n.setC1 c).sw.oe = n.sw.oe := rfl
@[simp] theorem Npx.setC1_ue (n : Npx) (c : Bool) : (n.setC1 c).sw.ue = n.sw.ue := rfl
@[simp] theorem Npx.setC1_pe (n : Npx) (c : Bool) : (n.setC1 c).sw.pe = n.sw.pe := rfl
@[simp] theorem Npx.setC1_sf (n : Npx) (c : Bool) : (n.setC1 c).sw.sf = n.sw.sf := rfl
@[simp] theorem Npx.setC1_c0 (n : Npx) (c : Bool) : (n.setC1 c).sw.c0 = n.sw.c0 := rfl
@[simp] theorem Npx.setC1_c1 (n : Npx) (c : Bool) : (n.setC1 c).sw.c1 = c := rfl
@[simp] theorem Npx.setC1_c2 (n : Npx) (c : Bool) : (n.setC1 c).sw.c2 = n.sw.c2 := rfl
@[simp] theorem Npx.setC1_c3 (n : Npx) (c : Bool) : (n.setC1 c).sw.c3 = n.sw.c3 := rfl
@[simp] theorem Npx.setC1_top (n : Npx) (c : Bool) : (n.setC1 c).sw.top = n.sw.top := rfl
@[simp] theorem Npx.setC1_masked (n : Npx) (c : Bool) (m : Exc) : (n.setC1 c).masked m = n.masked m := by cases m <;> simp [Npx.masked]
@[simp] theorem Npx.setC1_masks (n : Npx) (c : Bool) : (n.setC1 c).masks = n.masks := by simp [Npx.masks]
@[simp] theorem Npx.setC1_rc (n : Npx) (c : Bool) : (n.setC1 c).rc = n.rc := by simp [Npx.rc]
@[simp] theorem Npx.setC1_precision (n : Npx) (c : Bool) : (n.setC1 c).precision = n.precision := by simp [Npx.precision]

@[simp] theorem Npx.setC2_regs (n : Npx) (c : Bool) : (n.setC2 c).regs = n.regs := rfl
@[simp] theorem Npx.setC2_empty (n : Npx) (c : Bool) : (n.setC2 c).empty = n.empty := rfl
@[simp] theorem Npx.setC2_cw (n : Npx) (c : Bool) : (n.setC2 c).cw = n.cw := rfl
@[simp] theorem Npx.setC2_ie (n : Npx) (c : Bool) : (n.setC2 c).sw.ie = n.sw.ie := rfl
@[simp] theorem Npx.setC2_de (n : Npx) (c : Bool) : (n.setC2 c).sw.de = n.sw.de := rfl
@[simp] theorem Npx.setC2_ze (n : Npx) (c : Bool) : (n.setC2 c).sw.ze = n.sw.ze := rfl
@[simp] theorem Npx.setC2_oe (n : Npx) (c : Bool) : (n.setC2 c).sw.oe = n.sw.oe := rfl
@[simp] theorem Npx.setC2_ue (n : Npx) (c : Bool) : (n.setC2 c).sw.ue = n.sw.ue := rfl
@[simp] theorem Npx.setC2_pe (n : Npx) (c : Bool) : (n.setC2 c).sw.pe = n.sw.pe := rfl
@[simp] theorem Npx.setC2_sf (n : Npx) (c : Bool) : (n.setC2 c).sw.sf = n.sw.sf := rfl
@[simp] theorem Npx.setC2_c0 (n : Npx) (c : Bool) : (n.setC2 c).sw.c0 = n.sw.c0 := rfl
@[simp] theorem Npx.setC2_c1 (n : Npx) (c : Bool) : (n.setC2 c).sw.c1 = n.sw.c1 := rfl
@[simp] theorem Npx.setC2_c2 (n : Npx) (c : Bool) : (n.setC2 c).sw.c2 = c := rfl
@[simp] theorem Npx.setC2_c3 (n : Npx) (c : Bool) : (n.setC2 c).sw.c3 = n.sw.c3 := rfl
@[simp] theorem Npx.setC2_top (n : Npx) (c : Bool) : (n.setC2 c).sw.top = n.sw.top := rfl
@[simp] theorem Npx.setC2_masked (n : Npx) (c : Bool) (m : Exc) : (n.setC2 c).masked m = n.masked m := by cases m <;> simp [Npx.masked]
@[simp] theorem Npx.setC2_masks (n : Npx) (c : Bool) : (n.setC2 c).masks = n.masks := by simp [Npx.masks]
@[simp] theorem Npx.setC2_rc (n : Npx) (c : Bool) : (n.setC2 c).rc = n.rc := by simp [Npx.rc]
@[simp] theorem Npx.setC2_precision (n : Npx) (c : Bool) : (n.setC2 c).precision = n.precision := by simp [Npx.precision]

@[simp] theorem Npx.setCC_regs (n : Npx) (x y z : Bool) : (n.setCC x y z).regs = n.regs := rfl
@[simp] theorem Npx.setCC_empty (n : Npx) (x y z : Bool) : (n.setCC x y z).empty = n.empty := rfl
@[simp] theorem Npx.setCC_cw (n : Npx) (x y z : Bool) : (n.setCC x y z).cw = n.cw := rfl
@[simp] theorem Npx.setCC_ie (n : Npx) (x y z : Bool) : (n.setCC x y z).sw.ie = n.sw.ie := rfl
@[simp] theorem Npx.setCC_de (n : Npx) (x y z : Bool) : (n.setCC x y z).sw.de = n.sw.de := rfl
@[simp] theorem Npx.setCC_ze (n : Npx) (x y z : Bool) : (n.setCC x y z).sw.ze = n.sw.ze := rfl
@[simp] theorem Npx.setCC_oe (n : Npx) (x y z : Bool) : (n.setCC x y z).sw.oe = n.sw.oe := rfl
@[simp] theorem Npx.setCC_ue (n : Npx) (x y z : Bool) : (n.setCC x y z).sw.ue = n.sw.ue := rfl
@[simp] theorem Npx.setCC_pe (n : Npx) (x y z : Bool) : (n.setCC x y z).sw.pe = n.sw.pe := rfl
@[simp] theorem Npx.setCC_sf (n : Npx) (x y z : Bool) : (n.setCC x y z).sw.sf = n.sw.sf := rfl
@[simp] theorem Npx.setCC_c0 (n : Npx) (x y z : Bool) : (n.setCC x y z).sw.c0 = z := rfl
@[simp] theorem Npx.setCC_c1 (n : Npx) (x y z : Bool) : (n.setCC x y z).sw.c1 = n.sw.c1 := rfl
@[simp] theorem Npx.setCC_c2 (n : Npx) (x y z : Bool) : (n.setCC x y z).sw.c2 = y := rfl
@[simp] theorem Npx.setCC_c3 (n : Npx) (x y z : Bool) : (n.setCC x y z).sw.c3 = x := rfl
@[simp] theorem Npx.setCC_top (n : Npx) (x y z : Bool) : (n.setCC x y z).sw.top = n.sw.top := rfl
@[simp] theorem Npx.setCC_masked (n : Npx) (x y z : Bool) (m : Exc) : (n.setCC x y z).masked m = n.masked m := by cases m <;> simp [Npx.masked]
@[simp] theorem Npx.setCC_masks (n : Npx) (x y z : Bool) : (n.setCC x y z).masks = n.masks := by simp [Npx.masks]
@[simp] theorem Npx.setCC_rc (n : Npx) (x y z : Bool) : (n.setCC x y z).rc = n.rc := by simp [Npx.rc]
@[simp] theorem Npx.setCC_precision (n : Npx) (x y z : Bool) : (n.setCC x y z).precision = n.precision := by simp [Npx.precision]

@[simp] theorem Npx.setTop_regs (n : Npx) (t : BitVec 3) : (n.setTop t).regs = n.regs := rfl
@[simp] theorem Npx.setTop_empty (n : Npx) (t : BitVec 3) : (n.setTop t).empty = n.empty := rfl
@[simp] theorem Npx.setTop_cw (n : Npx) (t : BitVec 3) : (n.setTop t).cw = n.cw := rfl
@[simp] theorem Npx.setTop_ie (n : Npx) (t : BitVec 3) : (n.setTop t).sw.ie = n.sw.ie := rfl
@[simp] theorem Npx.setTop_de (n : Npx) (t : BitVec 3) : (n.setTop t).sw.de = n.sw.de := rfl
@[simp] theorem Npx.setTop_ze (n : Npx) (t : BitVec 3) : (n.setTop t).sw.ze = n.sw.ze := rfl
@[simp] theorem Npx.setTop_oe (n : Npx) (t : BitVec 3) : (n.setTop t).sw.oe = n.sw.oe := rfl
@[simp] theorem Npx.setTop_ue (n : Npx) (t : BitVec 3) : (n.setTop t).sw.ue = n.sw.ue := rfl
@[simp] theorem Npx.setTop_pe (n : Npx) (t : BitVec 3) : (n.setTop t).sw.pe = n.sw.pe := rfl
@[simp] theorem Npx.setTop_sf (n : Npx) (t : BitVec 3) : (n.setTop t).sw.sf = n.sw.sf := rfl
@[simp] theorem Npx.setTop_c0 (n : Npx) (t : BitVec 3) : (n.setTop t).sw.c0 = n.sw.c0 := rfl
@[simp] theorem Npx.setTop_c1 (n : Npx) (t : BitVec 3) : (n.setTop t).sw.c1 = n.sw.c1 := rfl
@[simp] theorem Npx.setTop_c2 (n : Npx) (t : BitVec 3) : (n.setTop t).sw.c2 = n.sw.c2 := rfl
@[simp] theorem Npx.setTop_c3 (n : Npx) (t : BitVec 3) : (n.setTop t).sw.c3 = n.sw.c3 := rfl
@[simp] theorem Npx.setTop_top (n : Npx) (t : BitVec 3) : (n.setTop t).sw.top = t := rfl
@[simp] theorem Npx.setTop_masked (n : Npx) (t : BitVec 3) (m : Exc) : (n.setTop t).masked m = n.masked m := by cases m <;> simp [Npx.masked]
@[simp] theorem Npx.setTop_masks (n : Npx) (t : BitVec 3) : (n.setTop t).masks = n.masks := by simp [Npx.masks]
@[simp] theorem Npx.setTop_rc (n : Npx) (t : BitVec 3) : (n.setTop t).rc = n.rc := by simp [Npx.rc]
@[simp] theorem Npx.setTop_precision (n : Npx) (t : BitVec 3) : (n.setTop t).precision = n.precision := by simp [Npx.precision]

@[simp] theorem Npx.drawC320_regs (n : Npx) (d : Nat) : (n.drawC320 d).regs = n.regs := rfl
@[simp] theorem Npx.drawC320_empty (n : Npx) (d : Nat) : (n.drawC320 d).empty = n.empty := rfl
@[simp] theorem Npx.drawC320_cw (n : Npx) (d : Nat) : (n.drawC320 d).cw = n.cw := rfl
@[simp] theorem Npx.drawC320_ie (n : Npx) (d : Nat) : (n.drawC320 d).sw.ie = n.sw.ie := rfl
@[simp] theorem Npx.drawC320_de (n : Npx) (d : Nat) : (n.drawC320 d).sw.de = n.sw.de := rfl
@[simp] theorem Npx.drawC320_ze (n : Npx) (d : Nat) : (n.drawC320 d).sw.ze = n.sw.ze := rfl
@[simp] theorem Npx.drawC320_oe (n : Npx) (d : Nat) : (n.drawC320 d).sw.oe = n.sw.oe := rfl
@[simp] theorem Npx.drawC320_ue (n : Npx) (d : Nat) : (n.drawC320 d).sw.ue = n.sw.ue := rfl
@[simp] theorem Npx.drawC320_pe (n : Npx) (d : Nat) : (n.drawC320 d).sw.pe = n.sw.pe := rfl
@[simp] theorem Npx.drawC320_sf (n : Npx) (d : Nat) : (n.drawC320 d).sw.sf = n.sw.sf := rfl
@[simp] theorem Npx.drawC320_c0 (n : Npx) (d : Nat) : (n.drawC320 d).sw.c0 = ccDraw d .c0 := rfl
@[simp] theorem Npx.drawC320_c1 (n : Npx) (d : Nat) : (n.drawC320 d).sw.c1 = n.sw.c1 := rfl
@[simp] theorem Npx.drawC320_c2 (n : Npx) (d : Nat) : (n.drawC320 d).sw.c2 = ccDraw d .c2 := rfl
@[simp] theorem Npx.drawC320_c3 (n : Npx) (d : Nat) : (n.drawC320 d).sw.c3 = ccDraw d .c3 := rfl
@[simp] theorem Npx.drawC320_top (n : Npx) (d : Nat) : (n.drawC320 d).sw.top = n.sw.top := rfl
@[simp] theorem Npx.drawC320_masked (n : Npx) (d : Nat) (m : Exc) : (n.drawC320 d).masked m = n.masked m := by cases m <;> simp [Npx.masked]
@[simp] theorem Npx.drawC320_masks (n : Npx) (d : Nat) : (n.drawC320 d).masks = n.masks := by simp [Npx.masks]
@[simp] theorem Npx.drawC320_rc (n : Npx) (d : Nat) : (n.drawC320 d).rc = n.rc := by simp [Npx.rc]
@[simp] theorem Npx.drawC320_precision (n : Npx) (d : Nat) : (n.drawC320 d).precision = n.precision := by simp [Npx.precision]

@[simp] theorem Npx.drawC30_regs (n : Npx) (d : Nat) : (n.drawC30 d).regs = n.regs := rfl
@[simp] theorem Npx.drawC30_empty (n : Npx) (d : Nat) : (n.drawC30 d).empty = n.empty := rfl
@[simp] theorem Npx.drawC30_cw (n : Npx) (d : Nat) : (n.drawC30 d).cw = n.cw := rfl
@[simp] theorem Npx.drawC30_ie (n : Npx) (d : Nat) : (n.drawC30 d).sw.ie = n.sw.ie := rfl
@[simp] theorem Npx.drawC30_de (n : Npx) (d : Nat) : (n.drawC30 d).sw.de = n.sw.de := rfl
@[simp] theorem Npx.drawC30_ze (n : Npx) (d : Nat) : (n.drawC30 d).sw.ze = n.sw.ze := rfl
@[simp] theorem Npx.drawC30_oe (n : Npx) (d : Nat) : (n.drawC30 d).sw.oe = n.sw.oe := rfl
@[simp] theorem Npx.drawC30_ue (n : Npx) (d : Nat) : (n.drawC30 d).sw.ue = n.sw.ue := rfl
@[simp] theorem Npx.drawC30_pe (n : Npx) (d : Nat) : (n.drawC30 d).sw.pe = n.sw.pe := rfl
@[simp] theorem Npx.drawC30_sf (n : Npx) (d : Nat) : (n.drawC30 d).sw.sf = n.sw.sf := rfl
@[simp] theorem Npx.drawC30_c0 (n : Npx) (d : Nat) : (n.drawC30 d).sw.c0 = ccDraw d .c0 := rfl
@[simp] theorem Npx.drawC30_c1 (n : Npx) (d : Nat) : (n.drawC30 d).sw.c1 = n.sw.c1 := rfl
@[simp] theorem Npx.drawC30_c2 (n : Npx) (d : Nat) : (n.drawC30 d).sw.c2 = n.sw.c2 := rfl
@[simp] theorem Npx.drawC30_c3 (n : Npx) (d : Nat) : (n.drawC30 d).sw.c3 = ccDraw d .c3 := rfl
@[simp] theorem Npx.drawC30_top (n : Npx) (d : Nat) : (n.drawC30 d).sw.top = n.sw.top := rfl
@[simp] theorem Npx.drawC30_masked (n : Npx) (d : Nat) (m : Exc) : (n.drawC30 d).masked m = n.masked m := by cases m <;> simp [Npx.masked]
@[simp] theorem Npx.drawC30_masks (n : Npx) (d : Nat) : (n.drawC30 d).masks = n.masks := by simp [Npx.masks]
@[simp] theorem Npx.drawC30_rc (n : Npx) (d : Nat) : (n.drawC30 d).rc = n.rc := by simp [Npx.rc]
@[simp] theorem Npx.drawC30_precision (n : Npx) (d : Nat) : (n.drawC30 d).precision = n.precision := by simp [Npx.precision]

@[simp] theorem Npx.drawC2_regs (n : Npx) (d : Nat) : (n.drawC2 d).regs = n.regs := rfl
@[simp] theorem Npx.drawC2_empty (n : Npx) (d : Nat) : (n.drawC2 d).empty = n.empty := rfl
@[simp] theorem Npx.drawC2_cw (n : Npx) (d : Nat) : (n.drawC2 d).cw = n.cw := rfl
@[simp] theorem Npx.drawC2_ie (n : Npx) (d : Nat) : (n.drawC2 d).sw.ie = n.sw.ie := rfl
@[simp] theorem Npx.drawC2_de (n : Npx) (d : Nat) : (n.drawC2 d).sw.de = n.sw.de := rfl
@[simp] theorem Npx.drawC2_ze (n : Npx) (d : Nat) : (n.drawC2 d).sw.ze = n.sw.ze := rfl
@[simp] theorem Npx.drawC2_oe (n : Npx) (d : Nat) : (n.drawC2 d).sw.oe = n.sw.oe := rfl
@[simp] theorem Npx.drawC2_ue (n : Npx) (d : Nat) : (n.drawC2 d).sw.ue = n.sw.ue := rfl
@[simp] theorem Npx.drawC2_pe (n : Npx) (d : Nat) : (n.drawC2 d).sw.pe = n.sw.pe := rfl
@[simp] theorem Npx.drawC2_sf (n : Npx) (d : Nat) : (n.drawC2 d).sw.sf = n.sw.sf := rfl
@[simp] theorem Npx.drawC2_c0 (n : Npx) (d : Nat) : (n.drawC2 d).sw.c0 = n.sw.c0 := rfl
@[simp] theorem Npx.drawC2_c1 (n : Npx) (d : Nat) : (n.drawC2 d).sw.c1 = n.sw.c1 := rfl
@[simp] theorem Npx.drawC2_c2 (n : Npx) (d : Nat) : (n.drawC2 d).sw.c2 = ccDraw d .c2 := rfl
@[simp] theorem Npx.drawC2_c3 (n : Npx) (d : Nat) : (n.drawC2 d).sw.c3 = n.sw.c3 := rfl
@[simp] theorem Npx.drawC2_top (n : Npx) (d : Nat) : (n.drawC2 d).sw.top = n.sw.top := rfl
@[simp] theorem Npx.drawC2_masked (n : Npx) (d : Nat) (m : Exc) : (n.drawC2 d).masked m = n.masked m := by cases m <;> simp [Npx.masked]
@[simp] theorem Npx.drawC2_masks (n : Npx) (d : Nat) : (n.drawC2 d).masks = n.masks := by simp [Npx.masks]
@[simp] theorem Npx.drawC2_rc (n : Npx) (d : Nat) : (n.drawC2 d).rc = n.rc := by simp [Npx.rc]
@[simp] theorem Npx.drawC2_precision (n : Npx) (d : Nat) : (n.drawC2 d).precision = n.precision := by simp [Npx.precision]

@[simp] theorem Npx.drawC1_regs (n : Npx) (d : Nat) : (n.drawC1 d).regs = n.regs := rfl
@[simp] theorem Npx.drawC1_empty (n : Npx) (d : Nat) : (n.drawC1 d).empty = n.empty := rfl
@[simp] theorem Npx.drawC1_cw (n : Npx) (d : Nat) : (n.drawC1 d).cw = n.cw := rfl
@[simp] theorem Npx.drawC1_ie (n : Npx) (d : Nat) : (n.drawC1 d).sw.ie = n.sw.ie := rfl
@[simp] theorem Npx.drawC1_de (n : Npx) (d : Nat) : (n.drawC1 d).sw.de = n.sw.de := rfl
@[simp] theorem Npx.drawC1_ze (n : Npx) (d : Nat) : (n.drawC1 d).sw.ze = n.sw.ze := rfl
@[simp] theorem Npx.drawC1_oe (n : Npx) (d : Nat) : (n.drawC1 d).sw.oe = n.sw.oe := rfl
@[simp] theorem Npx.drawC1_ue (n : Npx) (d : Nat) : (n.drawC1 d).sw.ue = n.sw.ue := rfl
@[simp] theorem Npx.drawC1_pe (n : Npx) (d : Nat) : (n.drawC1 d).sw.pe = n.sw.pe := rfl
@[simp] theorem Npx.drawC1_sf (n : Npx) (d : Nat) : (n.drawC1 d).sw.sf = n.sw.sf := rfl
@[simp] theorem Npx.drawC1_c0 (n : Npx) (d : Nat) : (n.drawC1 d).sw.c0 = n.sw.c0 := rfl
@[simp] theorem Npx.drawC1_c1 (n : Npx) (d : Nat) : (n.drawC1 d).sw.c1 = ccDraw d .c1 := rfl
@[simp] theorem Npx.drawC1_c2 (n : Npx) (d : Nat) : (n.drawC1 d).sw.c2 = n.sw.c2 := rfl
@[simp] theorem Npx.drawC1_c3 (n : Npx) (d : Nat) : (n.drawC1 d).sw.c3 = n.sw.c3 := rfl
@[simp] theorem Npx.drawC1_top (n : Npx) (d : Nat) : (n.drawC1 d).sw.top = n.sw.top := rfl
@[simp] theorem Npx.drawC1_masked (n : Npx) (d : Nat) (m : Exc) : (n.drawC1 d).masked m = n.masked m := by cases m <;> simp [Npx.masked]
@[simp] theorem Npx.drawC1_masks (n : Npx) (d : Nat) : (n.drawC1 d).masks = n.masks := by simp [Npx.masks]
@[simp] theorem Npx.drawC1_rc (n : Npx) (d : Nat) : (n.drawC1 d).rc = n.rc := by simp [Npx.rc]
@[simp] theorem Npx.drawC1_precision (n : Npx) (d : Nat) : (n.drawC1 d).precision = n.precision := by simp [Npx.precision]

@[simp] theorem Npx.drawCC_regs (n : Npx) (d : Nat) : (n.drawCC d).regs = n.regs := rfl
@[simp] theorem Npx.drawCC_empty (n : Npx) (d : Nat) : (n.drawCC d).empty = n.empty := rfl
@[simp] theorem Npx.drawCC_cw (n : Npx) (d : Nat) : (n.drawCC d).cw = n.cw := rfl
@[simp] theorem Npx.drawCC_ie (n : Npx) (d : Nat) : (n.drawCC d).sw.ie = n.sw.ie := rfl
@[simp] theorem Npx.drawCC_de (n : Npx) (d : Nat) : (n.drawCC d).sw.de = n.sw.de := rfl
@[simp] theorem Npx.drawCC_ze (n : Npx) (d : Nat) : (n.drawCC d).sw.ze = n.sw.ze := rfl
@[simp] theorem Npx.drawCC_oe (n : Npx) (d : Nat) : (n.drawCC d).sw.oe = n.sw.oe := rfl
@[simp] theorem Npx.drawCC_ue (n : Npx) (d : Nat) : (n.drawCC d).sw.ue = n.sw.ue := rfl
@[simp] theorem Npx.drawCC_pe (n : Npx) (d : Nat) : (n.drawCC d).sw.pe = n.sw.pe := rfl
@[simp] theorem Npx.drawCC_sf (n : Npx) (d : Nat) : (n.drawCC d).sw.sf = n.sw.sf := rfl
@[simp] theorem Npx.drawCC_c0 (n : Npx) (d : Nat) : (n.drawCC d).sw.c0 = ccDraw d .c0 := rfl
@[simp] theorem Npx.drawCC_c1 (n : Npx) (d : Nat) : (n.drawCC d).sw.c1 = ccDraw d .c1 := rfl
@[simp] theorem Npx.drawCC_c2 (n : Npx) (d : Nat) : (n.drawCC d).sw.c2 = ccDraw d .c2 := rfl
@[simp] theorem Npx.drawCC_c3 (n : Npx) (d : Nat) : (n.drawCC d).sw.c3 = ccDraw d .c3 := rfl
@[simp] theorem Npx.drawCC_top (n : Npx) (d : Nat) : (n.drawCC d).sw.top = n.sw.top := rfl
@[simp] theorem Npx.drawCC_masked (n : Npx) (d : Nat) (m : Exc) : (n.drawCC d).masked m = n.masked m := by cases m <;> simp [Npx.masked]
@[simp] theorem Npx.drawCC_masks (n : Npx) (d : Nat) : (n.drawCC d).masks = n.masks := by simp [Npx.masks]
@[simp] theorem Npx.drawCC_rc (n : Npx) (d : Nat) : (n.drawCC d).rc = n.rc := by simp [Npx.rc]
@[simp] theorem Npx.drawCC_precision (n : Npx) (d : Nat) : (n.drawCC d).precision = n.precision := by simp [Npx.precision]

@[simp] theorem Npx.setOrder_regs (n : Npx) (r : Order) : (n.setOrder r).regs = n.regs := by cases r <;> rfl
@[simp] theorem Npx.setOrder_empty (n : Npx) (r : Order) : (n.setOrder r).empty = n.empty := by cases r <;> rfl
@[simp] theorem Npx.setOrder_cw (n : Npx) (r : Order) : (n.setOrder r).cw = n.cw := by cases r <;> rfl
@[simp] theorem Npx.setOrder_ie (n : Npx) (r : Order) : (n.setOrder r).sw.ie = n.sw.ie := by cases r <;> rfl
@[simp] theorem Npx.setOrder_de (n : Npx) (r : Order) : (n.setOrder r).sw.de = n.sw.de := by cases r <;> rfl
@[simp] theorem Npx.setOrder_ze (n : Npx) (r : Order) : (n.setOrder r).sw.ze = n.sw.ze := by cases r <;> rfl
@[simp] theorem Npx.setOrder_oe (n : Npx) (r : Order) : (n.setOrder r).sw.oe = n.sw.oe := by cases r <;> rfl
@[simp] theorem Npx.setOrder_ue (n : Npx) (r : Order) : (n.setOrder r).sw.ue = n.sw.ue := by cases r <;> rfl
@[simp] theorem Npx.setOrder_pe (n : Npx) (r : Order) : (n.setOrder r).sw.pe = n.sw.pe := by cases r <;> rfl
@[simp] theorem Npx.setOrder_sf (n : Npx) (r : Order) : (n.setOrder r).sw.sf = n.sw.sf := by cases r <;> rfl
@[simp] theorem Npx.setOrder_c1 (n : Npx) (r : Order) : (n.setOrder r).sw.c1 = n.sw.c1 := by cases r <;> rfl
@[simp] theorem Npx.setOrder_top (n : Npx) (r : Order) : (n.setOrder r).sw.top = n.sw.top := by cases r <;> rfl
@[simp] theorem Npx.setOrder_masked (n : Npx) (r : Order) (m : Exc) : (n.setOrder r).masked m = n.masked m := by cases m <;> simp [Npx.masked]
@[simp] theorem Npx.setOrder_masks (n : Npx) (r : Order) : (n.setOrder r).masks = n.masks := by simp [Npx.masks]
@[simp] theorem Npx.setOrder_rc (n : Npx) (r : Order) : (n.setOrder r).rc = n.rc := by simp [Npx.rc]
@[simp] theorem Npx.setOrder_precision (n : Npx) (r : Order) : (n.setOrder r).precision = n.precision := by simp [Npx.precision]

@[simp] theorem Npx.setClass_regs (n : Npx) (c : Cls) : (n.setClass c).regs = n.regs := by cases c <;> rfl
@[simp] theorem Npx.setClass_empty (n : Npx) (c : Cls) : (n.setClass c).empty = n.empty := by cases c <;> rfl
@[simp] theorem Npx.setClass_cw (n : Npx) (c : Cls) : (n.setClass c).cw = n.cw := by cases c <;> rfl
@[simp] theorem Npx.setClass_ie (n : Npx) (c : Cls) : (n.setClass c).sw.ie = n.sw.ie := by cases c <;> rfl
@[simp] theorem Npx.setClass_de (n : Npx) (c : Cls) : (n.setClass c).sw.de = n.sw.de := by cases c <;> rfl
@[simp] theorem Npx.setClass_ze (n : Npx) (c : Cls) : (n.setClass c).sw.ze = n.sw.ze := by cases c <;> rfl
@[simp] theorem Npx.setClass_oe (n : Npx) (c : Cls) : (n.setClass c).sw.oe = n.sw.oe := by cases c <;> rfl
@[simp] theorem Npx.setClass_ue (n : Npx) (c : Cls) : (n.setClass c).sw.ue = n.sw.ue := by cases c <;> rfl
@[simp] theorem Npx.setClass_pe (n : Npx) (c : Cls) : (n.setClass c).sw.pe = n.sw.pe := by cases c <;> rfl
@[simp] theorem Npx.setClass_sf (n : Npx) (c : Cls) : (n.setClass c).sw.sf = n.sw.sf := by cases c <;> rfl
@[simp] theorem Npx.setClass_c1 (n : Npx) (c : Cls) : (n.setClass c).sw.c1 = n.sw.c1 := by cases c <;> rfl
@[simp] theorem Npx.setClass_top (n : Npx) (c : Cls) : (n.setClass c).sw.top = n.sw.top := by cases c <;> rfl
@[simp] theorem Npx.setClass_masked (n : Npx) (c : Cls) (m : Exc) : (n.setClass c).masked m = n.masked m := by cases m <;> simp [Npx.masked]
@[simp] theorem Npx.setClass_masks (n : Npx) (c : Cls) : (n.setClass c).masks = n.masks := by simp [Npx.masks]
@[simp] theorem Npx.setClass_rc (n : Npx) (c : Cls) : (n.setClass c).rc = n.rc := by simp [Npx.rc]
@[simp] theorem Npx.setClass_precision (n : Npx) (c : Cls) : (n.setClass c).precision = n.precision := by simp [Npx.precision]

@[simp] theorem Npx.setQuotient_regs (n : Npx) (q : Nat) : (n.setQuotient q).regs = n.regs := rfl
@[simp] theorem Npx.setQuotient_empty (n : Npx) (q : Nat) : (n.setQuotient q).empty = n.empty := rfl
@[simp] theorem Npx.setQuotient_cw (n : Npx) (q : Nat) : (n.setQuotient q).cw = n.cw := rfl
@[simp] theorem Npx.setQuotient_ie (n : Npx) (q : Nat) : (n.setQuotient q).sw.ie = n.sw.ie := rfl
@[simp] theorem Npx.setQuotient_de (n : Npx) (q : Nat) : (n.setQuotient q).sw.de = n.sw.de := rfl
@[simp] theorem Npx.setQuotient_ze (n : Npx) (q : Nat) : (n.setQuotient q).sw.ze = n.sw.ze := rfl
@[simp] theorem Npx.setQuotient_oe (n : Npx) (q : Nat) : (n.setQuotient q).sw.oe = n.sw.oe := rfl
@[simp] theorem Npx.setQuotient_ue (n : Npx) (q : Nat) : (n.setQuotient q).sw.ue = n.sw.ue := rfl
@[simp] theorem Npx.setQuotient_pe (n : Npx) (q : Nat) : (n.setQuotient q).sw.pe = n.sw.pe := rfl
@[simp] theorem Npx.setQuotient_sf (n : Npx) (q : Nat) : (n.setQuotient q).sw.sf = n.sw.sf := rfl
@[simp] theorem Npx.setQuotient_c0 (n : Npx) (q : Nat) : (n.setQuotient q).sw.c0 = q.testBit 2 := rfl
@[simp] theorem Npx.setQuotient_c1 (n : Npx) (q : Nat) : (n.setQuotient q).sw.c1 = q.testBit 0 := rfl
@[simp] theorem Npx.setQuotient_c2 (n : Npx) (q : Nat) : (n.setQuotient q).sw.c2 = false := rfl
@[simp] theorem Npx.setQuotient_c3 (n : Npx) (q : Nat) : (n.setQuotient q).sw.c3 = q.testBit 1 := rfl
@[simp] theorem Npx.setQuotient_top (n : Npx) (q : Nat) : (n.setQuotient q).sw.top = n.sw.top := rfl
@[simp] theorem Npx.setQuotient_masked (n : Npx) (q : Nat) (m : Exc) : (n.setQuotient q).masked m = n.masked m := by cases m <;> simp [Npx.masked]
@[simp] theorem Npx.setQuotient_masks (n : Npx) (q : Nat) : (n.setQuotient q).masks = n.masks := by simp [Npx.masks]
@[simp] theorem Npx.setQuotient_rc (n : Npx) (q : Nat) : (n.setQuotient q).rc = n.rc := by simp [Npx.rc]
@[simp] theorem Npx.setQuotient_precision (n : Npx) (q : Nat) : (n.setQuotient q).precision = n.precision := by simp [Npx.precision]

@[simp] theorem Npx.stackFault_regs (n : Npx) (v : Bool) : (n.stackFault v).regs = n.regs := rfl
@[simp] theorem Npx.stackFault_empty (n : Npx) (v : Bool) : (n.stackFault v).empty = n.empty := rfl
@[simp] theorem Npx.stackFault_cw (n : Npx) (v : Bool) : (n.stackFault v).cw = n.cw := rfl
@[simp] theorem Npx.stackFault_ie (n : Npx) (v : Bool) : (n.stackFault v).sw.ie = true := rfl
@[simp] theorem Npx.stackFault_de (n : Npx) (v : Bool) : (n.stackFault v).sw.de = n.sw.de := rfl
@[simp] theorem Npx.stackFault_ze (n : Npx) (v : Bool) : (n.stackFault v).sw.ze = n.sw.ze := rfl
@[simp] theorem Npx.stackFault_oe (n : Npx) (v : Bool) : (n.stackFault v).sw.oe = n.sw.oe := rfl
@[simp] theorem Npx.stackFault_ue (n : Npx) (v : Bool) : (n.stackFault v).sw.ue = n.sw.ue := rfl
@[simp] theorem Npx.stackFault_pe (n : Npx) (v : Bool) : (n.stackFault v).sw.pe = n.sw.pe := rfl
@[simp] theorem Npx.stackFault_sf (n : Npx) (v : Bool) : (n.stackFault v).sw.sf = true := rfl
@[simp] theorem Npx.stackFault_c0 (n : Npx) (v : Bool) : (n.stackFault v).sw.c0 = n.sw.c0 := rfl
@[simp] theorem Npx.stackFault_c1 (n : Npx) (v : Bool) : (n.stackFault v).sw.c1 = v := rfl
@[simp] theorem Npx.stackFault_c2 (n : Npx) (v : Bool) : (n.stackFault v).sw.c2 = n.sw.c2 := rfl
@[simp] theorem Npx.stackFault_c3 (n : Npx) (v : Bool) : (n.stackFault v).sw.c3 = n.sw.c3 := rfl
@[simp] theorem Npx.stackFault_top (n : Npx) (v : Bool) : (n.stackFault v).sw.top = n.sw.top := rfl
@[simp] theorem Npx.stackFault_masked (n : Npx) (v : Bool) (m : Exc) : (n.stackFault v).masked m = n.masked m := by cases m <;> simp [Npx.masked]
@[simp] theorem Npx.stackFault_masks (n : Npx) (v : Bool) : (n.stackFault v).masks = n.masks := by simp [Npx.masks]
@[simp] theorem Npx.stackFault_rc (n : Npx) (v : Bool) : (n.stackFault v).rc = n.rc := by simp [Npx.rc]
@[simp] theorem Npx.stackFault_precision (n : Npx) (v : Bool) : (n.stackFault v).precision = n.precision := by simp [Npx.precision]

@[simp] theorem Npx.flagDelivered_regs (n : Npx) (r : Delivered) : (n.flagDelivered r).regs = n.regs := by simp only [Npx.flagDelivered, Npx.signalIf]; split <;> split <;> split <;> rfl
@[simp] theorem Npx.flagDelivered_empty (n : Npx) (r : Delivered) : (n.flagDelivered r).empty = n.empty := by simp only [Npx.flagDelivered, Npx.signalIf]; split <;> split <;> split <;> rfl
@[simp] theorem Npx.flagDelivered_cw (n : Npx) (r : Delivered) : (n.flagDelivered r).cw = n.cw := by simp only [Npx.flagDelivered, Npx.signalIf]; split <;> split <;> split <;> rfl
@[simp] theorem Npx.flagDelivered_ie (n : Npx) (r : Delivered) : (n.flagDelivered r).sw.ie = n.sw.ie := by simp only [Npx.flagDelivered, Npx.signalIf]; split <;> split <;> split <;> rfl
@[simp] theorem Npx.flagDelivered_de (n : Npx) (r : Delivered) : (n.flagDelivered r).sw.de = n.sw.de := by simp only [Npx.flagDelivered, Npx.signalIf]; split <;> split <;> split <;> rfl
@[simp] theorem Npx.flagDelivered_ze (n : Npx) (r : Delivered) : (n.flagDelivered r).sw.ze = n.sw.ze := by simp only [Npx.flagDelivered, Npx.signalIf]; split <;> split <;> split <;> rfl
@[simp] theorem Npx.flagDelivered_sf (n : Npx) (r : Delivered) : (n.flagDelivered r).sw.sf = n.sw.sf := by simp only [Npx.flagDelivered, Npx.signalIf]; split <;> split <;> split <;> rfl
@[simp] theorem Npx.flagDelivered_c0 (n : Npx) (r : Delivered) : (n.flagDelivered r).sw.c0 = n.sw.c0 := by simp only [Npx.flagDelivered, Npx.signalIf]; split <;> split <;> split <;> rfl
@[simp] theorem Npx.flagDelivered_c2 (n : Npx) (r : Delivered) : (n.flagDelivered r).sw.c2 = n.sw.c2 := by simp only [Npx.flagDelivered, Npx.signalIf]; split <;> split <;> split <;> rfl
@[simp] theorem Npx.flagDelivered_c3 (n : Npx) (r : Delivered) : (n.flagDelivered r).sw.c3 = n.sw.c3 := by simp only [Npx.flagDelivered, Npx.signalIf]; split <;> split <;> split <;> rfl
@[simp] theorem Npx.flagDelivered_top (n : Npx) (r : Delivered) : (n.flagDelivered r).sw.top = n.sw.top := by simp only [Npx.flagDelivered, Npx.signalIf]; split <;> split <;> split <;> rfl
@[simp] theorem Npx.flagDelivered_masked (n : Npx) (r : Delivered) (m : Exc) : (n.flagDelivered r).masked m = n.masked m := by cases m <;> simp [Npx.masked]
@[simp] theorem Npx.flagDelivered_masks (n : Npx) (r : Delivered) : (n.flagDelivered r).masks = n.masks := by simp [Npx.masks]
@[simp] theorem Npx.flagDelivered_rc (n : Npx) (r : Delivered) : (n.flagDelivered r).rc = n.rc := by simp [Npx.rc]
@[simp] theorem Npx.flagDelivered_precision (n : Npx) (r : Delivered) : (n.flagDelivered r).precision = n.precision := by simp [Npx.precision]

@[simp] theorem Npx.flagStored_regs (n : Npx) (r : Stored) : (n.flagStored r).regs = n.regs := by simp only [Npx.flagStored, Npx.signalIf]; split <;> split <;> split <;> split <;> rfl
@[simp] theorem Npx.flagStored_empty (n : Npx) (r : Stored) : (n.flagStored r).empty = n.empty := by simp only [Npx.flagStored, Npx.signalIf]; split <;> split <;> split <;> split <;> rfl
@[simp] theorem Npx.flagStored_cw (n : Npx) (r : Stored) : (n.flagStored r).cw = n.cw := by simp only [Npx.flagStored, Npx.signalIf]; split <;> split <;> split <;> split <;> rfl
@[simp] theorem Npx.flagStored_de (n : Npx) (r : Stored) : (n.flagStored r).sw.de = n.sw.de := by simp only [Npx.flagStored, Npx.signalIf]; split <;> split <;> split <;> split <;> rfl
@[simp] theorem Npx.flagStored_ze (n : Npx) (r : Stored) : (n.flagStored r).sw.ze = n.sw.ze := by simp only [Npx.flagStored, Npx.signalIf]; split <;> split <;> split <;> split <;> rfl
@[simp] theorem Npx.flagStored_sf (n : Npx) (r : Stored) : (n.flagStored r).sw.sf = n.sw.sf := by simp only [Npx.flagStored, Npx.signalIf]; split <;> split <;> split <;> split <;> rfl
@[simp] theorem Npx.flagStored_c0 (n : Npx) (r : Stored) : (n.flagStored r).sw.c0 = n.sw.c0 := by simp only [Npx.flagStored, Npx.signalIf]; split <;> split <;> split <;> split <;> rfl
@[simp] theorem Npx.flagStored_c2 (n : Npx) (r : Stored) : (n.flagStored r).sw.c2 = n.sw.c2 := by simp only [Npx.flagStored, Npx.signalIf]; split <;> split <;> split <;> split <;> rfl
@[simp] theorem Npx.flagStored_c3 (n : Npx) (r : Stored) : (n.flagStored r).sw.c3 = n.sw.c3 := by simp only [Npx.flagStored, Npx.signalIf]; split <;> split <;> split <;> split <;> rfl
@[simp] theorem Npx.flagStored_top (n : Npx) (r : Stored) : (n.flagStored r).sw.top = n.sw.top := by simp only [Npx.flagStored, Npx.signalIf]; split <;> split <;> split <;> split <;> rfl
@[simp] theorem Npx.flagStored_masked (n : Npx) (r : Stored) (m : Exc) : (n.flagStored r).masked m = n.masked m := by cases m <;> simp [Npx.masked]
@[simp] theorem Npx.flagStored_masks (n : Npx) (r : Stored) : (n.flagStored r).masks = n.masks := by simp [Npx.masks]
@[simp] theorem Npx.flagStored_rc (n : Npx) (r : Stored) : (n.flagStored r).rc = n.rc := by simp [Npx.rc]
@[simp] theorem Npx.flagStored_precision (n : Npx) (r : Stored) : (n.flagStored r).precision = n.precision := by simp [Npx.precision]

@[simp] theorem Npx.setReg_sw (n : Npx) (k : BitVec 3) (x : Ext) : (n.setReg k x).sw = n.sw := rfl
@[simp] theorem Npx.setReg_cw (n : Npx) (k : BitVec 3) (x : Ext) : (n.setReg k x).cw = n.cw := rfl
@[simp] theorem Npx.setReg_masked (n : Npx) (k : BitVec 3) (x : Ext) (e : Exc) : (n.setReg k x).masked e = n.masked e := by cases e <;> rfl
@[simp] theorem Npx.setReg_rc (n : Npx) (k : BitVec 3) (x : Ext) : (n.setReg k x).rc = n.rc := rfl
@[simp] theorem Npx.setReg_precision (n : Npx) (k : BitVec 3) (x : Ext) : (n.setReg k x).precision = n.precision := rfl
@[simp] theorem Npx.setReg_masks (n : Npx) (k : BitVec 3) (x : Ext) : (n.setReg k x).masks = n.masks := rfl

@[simp] theorem Npx.free_regs (n : Npx) (k : BitVec 3) : (n.free k).regs = n.regs := rfl
@[simp] theorem Npx.free_sw (n : Npx) (k : BitVec 3) : (n.free k).sw = n.sw := rfl
@[simp] theorem Npx.free_cw (n : Npx) (k : BitVec 3) : (n.free k).cw = n.cw := rfl
@[simp] theorem Npx.free_masked (n : Npx) (k : BitVec 3) (e : Exc) : (n.free k).masked e = n.masked e := by cases e <;> rfl
@[simp] theorem Npx.free_rc (n : Npx) (k : BitVec 3) : (n.free k).rc = n.rc := rfl
@[simp] theorem Npx.free_precision (n : Npx) (k : BitVec 3) : (n.free k).precision = n.precision := rfl
@[simp] theorem Npx.free_masks (n : Npx) (k : BitVec 3) : (n.free k).masks = n.masks := rfl

@[simp] theorem Npx.swapRegs_empty (n : Npx) (a c : BitVec 3) : (n.swapRegs a c).empty = n.empty := rfl
@[simp] theorem Npx.swapRegs_sw (n : Npx) (a c : BitVec 3) : (n.swapRegs a c).sw = n.sw := rfl
@[simp] theorem Npx.swapRegs_cw (n : Npx) (a c : BitVec 3) : (n.swapRegs a c).cw = n.cw := rfl
@[simp] theorem Npx.swapRegs_masked (n : Npx) (a c : BitVec 3) (e : Exc) : (n.swapRegs a c).masked e = n.masked e := by cases e <;> rfl
@[simp] theorem Npx.swapRegs_rc (n : Npx) (a c : BitVec 3) : (n.swapRegs a c).rc = n.rc := rfl
@[simp] theorem Npx.swapRegs_precision (n : Npx) (a c : BitVec 3) : (n.swapRegs a c).precision = n.precision := rfl
@[simp] theorem Npx.swapRegs_masks (n : Npx) (a c : BitVec 3) : (n.swapRegs a c).masks = n.masks := rfl

/-! ### Reading a register after a write -/

theorem Npx.reg_setReg (n : Npx) (k j : BitVec 3) (x : Ext) :
    (n.setReg k x).reg j = if k = j then x else n.reg j := by
  simp only [Npx.reg, Npx.setReg, Vector.getElem_set, BitVec.toNat_inj]

theorem Npx.isEmpty_setReg (n : Npx) (k j : BitVec 3) (x : Ext) :
    (n.setReg k x).isEmpty j = if k = j then false else n.isEmpty j := by
  simp only [Npx.isEmpty, Npx.setReg, Vector.getElem_set, BitVec.toNat_inj]

theorem Npx.isEmpty_free (n : Npx) (k j : BitVec 3) :
    (n.free k).isEmpty j = if k = j then true else n.isEmpty j := by
  simp only [Npx.isEmpty, Npx.free, Vector.getElem_set, BitVec.toNat_inj]

@[simp] theorem Npx.reg_free (n : Npx) (k j : BitVec 3) : (n.free k).reg j = n.reg j := rfl

@[simp] theorem Npx.reg_setReg_same (n : Npx) (k : BitVec 3) (x : Ext) : (n.setReg k x).reg k = x := by
  simp [Npx.reg_setReg]

@[simp] theorem Npx.isEmpty_setReg_same (n : Npx) (k : BitVec 3) (x : Ext) : (n.setReg k x).isEmpty k = false := by
  simp [Npx.isEmpty_setReg]

/-! ### Updates of the whole state -/

@[simp] theorem State.storeAt_npx (s : State) (as : List Nat) (v : Nat) : (s.storeAt as v).npx = s.npx := rfl
@[simp] theorem State.storeAt_ptrs (s : State) (as : List Nat) (v : Nat) : (s.storeAt as v).ptrs = s.ptrs := rfl
@[simp] theorem State.storeAt_cpu (s : State) (as : List Nat) (v : Nat) : (s.storeAt as v).cpu = s.cpu := rfl
@[simp] theorem State.storeAt_busy (s : State) (as : List Nat) (v : Nat) : (s.storeAt as v).busy = s.busy := rfl
@[simp] theorem State.storeAt_pereq (s : State) (as : List Nat) (v : Nat) : (s.storeAt as v).pereq = s.pereq := rfl
@[simp] theorem State.storeAt_bus (s : State) (as : List Nat) (v : Nat) : (s.storeAt as v).bus = s.bus := rfl
@[simp] theorem State.storeAt_busyLatch (s : State) (as : List Nat) (v : Nat) : (s.storeAt as v).busyLatch = s.busyLatch := rfl
@[simp] theorem State.storeAt_pereqLatch (s : State) (as : List Nat) (v : Nat) : (s.storeAt as v).pereqLatch = s.pereqLatch := rfl
@[simp] theorem State.storeAt_irq13 (s : State) (as : List Nat) (v : Nat) : (s.storeAt as v).irq13 = s.irq13 := rfl
@[simp] theorem State.storeAt_taken (s : State) (as : List Nat) (v : Nat) : (s.storeAt as v).taken = s.taken := rfl
@[simp] theorem State.storeAt_launch (s : State) (as : List Nat) (v : Nat) : (s.storeAt as v).launch = s.launch := rfl
@[simp] theorem State.storeAt_params (s : State) (as : List Nat) (v : Nat) : (s.storeAt as v).params = s.params := rfl
@[simp] theorem State.storeAt_draws (s : State) (as : List Nat) (v : Nat) : (s.storeAt as v).draws = s.draws := rfl
@[simp] theorem State.storeAt_mem (s : State) (as : List Nat) (v : Nat) : (s.storeAt as v).mem = s.mem.writeList as v := rfl

@[simp] theorem State.latchError_npx (s t : State) : (s.latchError t).npx = t.npx := rfl
@[simp] theorem State.latchError_ptrs (s t : State) : (s.latchError t).ptrs = t.ptrs := rfl
@[simp] theorem State.latchError_cpu (s t : State) : (s.latchError t).cpu = t.cpu := rfl
@[simp] theorem State.latchError_mem (s t : State) : (s.latchError t).mem = t.mem := rfl
@[simp] theorem State.latchError_busy (s t : State) : (s.latchError t).busy = t.busy := rfl
@[simp] theorem State.latchError_pereq (s t : State) : (s.latchError t).pereq = t.pereq := rfl
@[simp] theorem State.latchError_bus (s t : State) : (s.latchError t).bus = t.bus := rfl
@[simp] theorem State.latchError_taken (s t : State) : (s.latchError t).taken = t.taken := rfl
@[simp] theorem State.latchError_launch (s t : State) : (s.latchError t).launch = t.launch := rfl
@[simp] theorem State.latchError_params (s t : State) : (s.latchError t).params = t.params := rfl
@[simp] theorem State.latchError_stored (s t : State) : (s.latchError t).stored = t.stored := rfl
@[simp] theorem State.latchError_draws (s t : State) : (s.latchError t).draws = t.draws := rfl

@[simp] theorem State.writeOperand_npx (s : State) (r : MemRef) (n v : Nat) : (s.writeOperand r n v).npx = s.npx := rfl
@[simp] theorem State.writeOperand_ptrs (s : State) (r : MemRef) (n v : Nat) : (s.writeOperand r n v).ptrs = s.ptrs := rfl
@[simp] theorem State.writeOperand_cpu (s : State) (r : MemRef) (n v : Nat) : (s.writeOperand r n v).cpu = s.cpu := rfl
@[simp] theorem State.writeOperand_busy (s : State) (r : MemRef) (n v : Nat) : (s.writeOperand r n v).busy = s.busy := rfl
@[simp] theorem State.writeOperand_pereq (s : State) (r : MemRef) (n v : Nat) : (s.writeOperand r n v).pereq = s.pereq := rfl
@[simp] theorem State.writeOperand_bus (s : State) (r : MemRef) (n v : Nat) : (s.writeOperand r n v).bus = s.bus := rfl
@[simp] theorem State.writeOperand_busyLatch (s : State) (r : MemRef) (n v : Nat) : (s.writeOperand r n v).busyLatch = s.busyLatch := rfl
@[simp] theorem State.writeOperand_pereqLatch (s : State) (r : MemRef) (n v : Nat) : (s.writeOperand r n v).pereqLatch = s.pereqLatch := rfl
@[simp] theorem State.writeOperand_irq13 (s : State) (r : MemRef) (n v : Nat) : (s.writeOperand r n v).irq13 = s.irq13 := rfl
@[simp] theorem State.writeOperand_taken (s : State) (r : MemRef) (n v : Nat) : (s.writeOperand r n v).taken = s.taken := rfl
@[simp] theorem State.writeOperand_launch (s : State) (r : MemRef) (n v : Nat) : (s.writeOperand r n v).launch = s.launch := rfl
@[simp] theorem State.writeOperand_params (s : State) (r : MemRef) (n v : Nat) : (s.writeOperand r n v).params = s.params := rfl
@[simp] theorem State.writeOperand_draws (s : State) (r : MemRef) (n v : Nat) : (s.writeOperand r n v).draws = s.draws := rfl

@[simp] theorem State.onNpx_npx (s : State) (f : Nat → Npx → Npx) : (onNpx f s).npx = f s.draws s.npx := rfl
@[simp] theorem State.onNpx_ptrs (s : State) (f : Nat → Npx → Npx) : (onNpx f s).ptrs = s.ptrs := rfl
@[simp] theorem State.onNpx_cpu (s : State) (f : Nat → Npx → Npx) : (onNpx f s).cpu = s.cpu := rfl
@[simp] theorem State.onNpx_mem (s : State) (f : Nat → Npx → Npx) : (onNpx f s).mem = s.mem := rfl
@[simp] theorem State.onNpx_busy (s : State) (f : Nat → Npx → Npx) : (onNpx f s).busy = s.busy := rfl
@[simp] theorem State.onNpx_pereq (s : State) (f : Nat → Npx → Npx) : (onNpx f s).pereq = s.pereq := rfl
@[simp] theorem State.onNpx_bus (s : State) (f : Nat → Npx → Npx) : (onNpx f s).bus = s.bus := rfl
@[simp] theorem State.onNpx_busyLatch (s : State) (f : Nat → Npx → Npx) : (onNpx f s).busyLatch = s.busyLatch := rfl
@[simp] theorem State.onNpx_pereqLatch (s : State) (f : Nat → Npx → Npx) : (onNpx f s).pereqLatch = s.pereqLatch := rfl
@[simp] theorem State.onNpx_stored (s : State) (f : Nat → Npx → Npx) : (onNpx f s).stored = s.stored := rfl
@[simp] theorem State.onNpx_irq13 (s : State) (f : Nat → Npx → Npx) : (onNpx f s).irq13 = s.irq13 := rfl
@[simp] theorem State.onNpx_taken (s : State) (f : Nat → Npx → Npx) : (onNpx f s).taken = s.taken := rfl
@[simp] theorem State.onNpx_launch (s : State) (f : Nat → Npx → Npx) : (onNpx f s).launch = s.launch := rfl
@[simp] theorem State.onNpx_params (s : State) (f : Nat → Npx → Npx) : (onNpx f s).params = s.params := rfl
@[simp] theorem State.onNpx_draws (s : State) (f : Nat → Npx → Npx) : (onNpx f s).draws = s.draws := rfl

@[simp] theorem State.drawCC_npx (s : State)  : (s.drawCC).npx = s.npx.drawCC s.draws := rfl
@[simp] theorem State.drawCC_ptrs (s : State)  : (s.drawCC).ptrs = s.ptrs := rfl
@[simp] theorem State.drawCC_cpu (s : State)  : (s.drawCC).cpu = s.cpu := rfl
@[simp] theorem State.drawCC_mem (s : State)  : (s.drawCC).mem = s.mem := rfl
@[simp] theorem State.drawCC_busy (s : State)  : (s.drawCC).busy = s.busy := rfl
@[simp] theorem State.drawCC_pereq (s : State)  : (s.drawCC).pereq = s.pereq := rfl
@[simp] theorem State.drawCC_bus (s : State)  : (s.drawCC).bus = s.bus := rfl
@[simp] theorem State.drawCC_busyLatch (s : State)  : (s.drawCC).busyLatch = s.busyLatch := rfl
@[simp] theorem State.drawCC_pereqLatch (s : State)  : (s.drawCC).pereqLatch = s.pereqLatch := rfl
@[simp] theorem State.drawCC_stored (s : State)  : (s.drawCC).stored = s.stored := rfl
@[simp] theorem State.drawCC_irq13 (s : State)  : (s.drawCC).irq13 = s.irq13 := rfl
@[simp] theorem State.drawCC_taken (s : State)  : (s.drawCC).taken = s.taken := rfl
@[simp] theorem State.drawCC_launch (s : State)  : (s.drawCC).launch = s.launch := rfl
@[simp] theorem State.drawCC_params (s : State)  : (s.drawCC).params = s.params := rfl
@[simp] theorem State.drawCC_draws (s : State)  : (s.drawCC).draws = s.draws := rfl

@[simp] theorem State.init_npx (s : State)  : (s.init).npx = s.npx.init := rfl
@[simp] theorem State.init_ptrs (s : State)  : (s.init).ptrs = ⟨0, 0, 0, 0, 0⟩ := rfl
@[simp] theorem State.init_cpu (s : State)  : (s.init).cpu = s.cpu := rfl
@[simp] theorem State.init_mem (s : State)  : (s.init).mem = s.mem := rfl
@[simp] theorem State.init_busy (s : State)  : (s.init).busy = s.busy := rfl
@[simp] theorem State.init_pereq (s : State)  : (s.init).pereq = s.pereq := rfl
@[simp] theorem State.init_bus (s : State)  : (s.init).bus = s.bus := rfl
@[simp] theorem State.init_busyLatch (s : State)  : (s.init).busyLatch = s.busyLatch := rfl
@[simp] theorem State.init_pereqLatch (s : State)  : (s.init).pereqLatch = s.pereqLatch := rfl
@[simp] theorem State.init_stored (s : State)  : (s.init).stored = s.stored := rfl
@[simp] theorem State.init_irq13 (s : State)  : (s.init).irq13 = s.irq13 := rfl
@[simp] theorem State.init_taken (s : State)  : (s.init).taken = s.taken := rfl
@[simp] theorem State.init_launch (s : State)  : (s.init).launch = s.launch := rfl
@[simp] theorem State.init_params (s : State)  : (s.init).params = s.params := rfl
@[simp] theorem State.init_draws (s : State)  : (s.init).draws = s.draws := rfl

@[simp] theorem State.startEsc_npx (s : State) (k : EscKind) (op : BitVec 11) (r : Option MemRef) : (s.startEsc k op r).npx = s.npx := by unfold State.startEsc; split <;> rfl
@[simp] theorem State.startEsc_cpu (s : State) (k : EscKind) (op : BitVec 11) (r : Option MemRef) : (s.startEsc k op r).cpu = s.cpu := by unfold State.startEsc; split <;> rfl
@[simp] theorem State.startEsc_mem (s : State) (k : EscKind) (op : BitVec 11) (r : Option MemRef) : (s.startEsc k op r).mem = s.mem := by unfold State.startEsc; split <;> rfl
@[simp] theorem State.startEsc_busy (s : State) (k : EscKind) (op : BitVec 11) (r : Option MemRef) : (s.startEsc k op r).busy = s.busy := by unfold State.startEsc; split <;> rfl
@[simp] theorem State.startEsc_pereq (s : State) (k : EscKind) (op : BitVec 11) (r : Option MemRef) : (s.startEsc k op r).pereq = s.pereq := by unfold State.startEsc; split <;> rfl
@[simp] theorem State.startEsc_bus (s : State) (k : EscKind) (op : BitVec 11) (r : Option MemRef) : (s.startEsc k op r).bus = s.bus := by unfold State.startEsc; split <;> rfl
@[simp] theorem State.startEsc_busyLatch (s : State) (k : EscKind) (op : BitVec 11) (r : Option MemRef) : (s.startEsc k op r).busyLatch = s.busyLatch := by unfold State.startEsc; split <;> rfl
@[simp] theorem State.startEsc_pereqLatch (s : State) (k : EscKind) (op : BitVec 11) (r : Option MemRef) : (s.startEsc k op r).pereqLatch = s.pereqLatch := by unfold State.startEsc; split <;> rfl
@[simp] theorem State.startEsc_stored (s : State) (k : EscKind) (op : BitVec 11) (r : Option MemRef) : (s.startEsc k op r).stored = s.stored := by unfold State.startEsc; split <;> rfl
@[simp] theorem State.startEsc_irq13 (s : State) (k : EscKind) (op : BitVec 11) (r : Option MemRef) : (s.startEsc k op r).irq13 = s.irq13 := by unfold State.startEsc; split <;> rfl
@[simp] theorem State.startEsc_taken (s : State) (k : EscKind) (op : BitVec 11) (r : Option MemRef) : (s.startEsc k op r).taken = s.taken := by unfold State.startEsc; split <;> rfl
@[simp] theorem State.startEsc_launch (s : State) (k : EscKind) (op : BitVec 11) (r : Option MemRef) : (s.startEsc k op r).launch = s.launch := by unfold State.startEsc; split <;> rfl
@[simp] theorem State.startEsc_params (s : State) (k : EscKind) (op : BitVec 11) (r : Option MemRef) : (s.startEsc k op r).params = s.params := by unfold State.startEsc; split <;> rfl
@[simp] theorem State.startEsc_draws (s : State) (k : EscKind) (op : BitVec 11) (r : Option MemRef) : (s.startEsc k op r).draws = s.draws := by unfold State.startEsc; split <;> rfl
@[simp] theorem State.startEsc_ptrs (s : State) (k : EscKind) (op : BitVec 11) (r : Option MemRef) : (s.startEsc k op r).ptrs = if k.numeric then s.newPointers op r else s.ptrs := by unfold State.startEsc; split <;> rfl

@[simp] theorem State.finish_npx (s : State) (len : Nat) (t : State) : (s.finish len t).npx = t.npx := rfl
@[simp] theorem State.finish_ptrs (s : State) (len : Nat) (t : State) : (s.finish len t).ptrs = t.ptrs := rfl
@[simp] theorem State.finish_mem (s : State) (len : Nat) (t : State) : (s.finish len t).mem = t.mem := rfl
@[simp] theorem State.finish_busy (s : State) (len : Nat) (t : State) : (s.finish len t).busy = false := rfl
@[simp] theorem State.finish_pereq (s : State) (len : Nat) (t : State) : (s.finish len t).pereq = false := rfl
@[simp] theorem State.finish_bus (s : State) (len : Nat) (t : State) : (s.finish len t).bus = .ti := rfl
@[simp] theorem State.finish_taken (s : State) (len : Nat) (t : State) : (s.finish len t).taken = t.taken := rfl
@[simp] theorem State.finish_launch (s : State) (len : Nat) (t : State) : (s.finish len t).launch = t.launch := rfl
@[simp] theorem State.finish_params (s : State) (len : Nat) (t : State) : (s.finish len t).params = t.params := rfl
@[simp] theorem State.finish_stored (s : State) (len : Nat) (t : State) : (s.finish len t).stored = t.stored := rfl
@[simp] theorem State.finish_draws (s : State) (len : Nat) (t : State) : (s.finish len t).draws = t.draws + 1 := rfl
@[simp] theorem State.finish_eip (s : State) (len : Nat) (t : State) : (s.finish len t).cpu.eip = t.cpu.eip + BitVec.ofNat 32 len := rfl
@[simp] theorem State.finish_gprs (s : State) (len : Nat) (t : State) : (s.finish len t).cpu.gprs = t.cpu.gprs := rfl
@[simp] theorem State.finish_segs (s : State) (len : Nat) (t : State) : (s.finish len t).cpu.segs = t.cpu.segs := rfl
@[simp] theorem State.finish_eflags (s : State) (len : Nat) (t : State) : (s.finish len t).cpu.eflags = t.cpu.eflags := rfl
@[simp] theorem State.finish_mode (s : State) (len : Nat) (t : State) : (s.finish len t).cpu.mode = t.cpu.mode := rfl
@[simp] theorem State.finish_operandSize (s : State) (len : Nat) (t : State) : (s.finish len t).cpu.operandSize = t.cpu.operandSize := rfl
@[simp] theorem State.finish_addressSize (s : State) (len : Nat) (t : State) : (s.finish len t).cpu.addressSize = t.cpu.addressSize := rfl
@[simp] theorem State.finish_em (s : State) (len : Nat) (t : State) : (s.finish len t).cpu.em = t.cpu.em := rfl
@[simp] theorem State.finish_ts (s : State) (len : Nat) (t : State) : (s.finish len t).cpu.ts = t.cpu.ts := rfl
@[simp] theorem State.finish_mp (s : State) (len : Nat) (t : State) : (s.finish len t).cpu.mp = t.cpu.mp := rfl

@[simp] theorem State.takeInterrupt_npx (s : State) (v : Interrupt) (ret : FarPtr) : (s.takeInterrupt v ret).npx = s.npx := by unfold State.takeInterrupt; split <;> rfl
@[simp] theorem State.takeInterrupt_ptrs (s : State) (v : Interrupt) (ret : FarPtr) : (s.takeInterrupt v ret).ptrs = s.ptrs := by unfold State.takeInterrupt; split <;> rfl
@[simp] theorem State.takeInterrupt_mem (s : State) (v : Interrupt) (ret : FarPtr) : (s.takeInterrupt v ret).mem = s.mem := by unfold State.takeInterrupt; split <;> rfl
@[simp] theorem State.takeInterrupt_busy (s : State) (v : Interrupt) (ret : FarPtr) : (s.takeInterrupt v ret).busy = s.busy := by unfold State.takeInterrupt; split <;> rfl
@[simp] theorem State.takeInterrupt_pereq (s : State) (v : Interrupt) (ret : FarPtr) : (s.takeInterrupt v ret).pereq = s.pereq := by unfold State.takeInterrupt; split <;> rfl
@[simp] theorem State.takeInterrupt_bus (s : State) (v : Interrupt) (ret : FarPtr) : (s.takeInterrupt v ret).bus = s.bus := by unfold State.takeInterrupt; split <;> rfl
@[simp] theorem State.takeInterrupt_busyLatch (s : State) (v : Interrupt) (ret : FarPtr) : (s.takeInterrupt v ret).busyLatch = s.busyLatch := by unfold State.takeInterrupt; split <;> rfl
@[simp] theorem State.takeInterrupt_pereqLatch (s : State) (v : Interrupt) (ret : FarPtr) : (s.takeInterrupt v ret).pereqLatch = s.pereqLatch := by unfold State.takeInterrupt; split <;> rfl
@[simp] theorem State.takeInterrupt_stored (s : State) (v : Interrupt) (ret : FarPtr) : (s.takeInterrupt v ret).stored = s.stored := by unfold State.takeInterrupt; split <;> rfl
@[simp] theorem State.takeInterrupt_irq13 (s : State) (v : Interrupt) (ret : FarPtr) : (s.takeInterrupt v ret).irq13 = s.irq13 := by unfold State.takeInterrupt; split <;> rfl
@[simp] theorem State.takeInterrupt_launch (s : State) (v : Interrupt) (ret : FarPtr) : (s.takeInterrupt v ret).launch = s.launch := by unfold State.takeInterrupt; split <;> rfl
@[simp] theorem State.takeInterrupt_params (s : State) (v : Interrupt) (ret : FarPtr) : (s.takeInterrupt v ret).params = s.params := by unfold State.takeInterrupt; split <;> rfl
@[simp] theorem State.takeInterrupt_draws (s : State) (v : Interrupt) (ret : FarPtr) : (s.takeInterrupt v ret).draws = s.draws := by unfold State.takeInterrupt; split <;> rfl
@[simp] theorem State.takeInterrupt_taken (s : State) (v : Interrupt) (ret : FarPtr) : (s.takeInterrupt v ret).taken = ⟨v, ret, s.cpu.segs.cs⟩ :: s.taken := by unfold State.takeInterrupt; split <;> rfl
@[simp] theorem State.takeInterrupt_gprs (s : State) (v : Interrupt) (ret : FarPtr) : (s.takeInterrupt v ret).cpu.gprs = s.cpu.gprs := by unfold State.takeInterrupt; split <;> rfl
@[simp] theorem State.takeInterrupt_eflags (s : State) (v : Interrupt) (ret : FarPtr) : (s.takeInterrupt v ret).cpu.eflags = s.cpu.eflags := by unfold State.takeInterrupt; split <;> rfl
@[simp] theorem State.takeInterrupt_mode (s : State) (v : Interrupt) (ret : FarPtr) : (s.takeInterrupt v ret).cpu.mode = s.cpu.mode := by unfold State.takeInterrupt; split <;> rfl
@[simp] theorem State.takeInterrupt_operandSize (s : State) (v : Interrupt) (ret : FarPtr) : (s.takeInterrupt v ret).cpu.operandSize = s.cpu.operandSize := by unfold State.takeInterrupt; split <;> rfl
@[simp] theorem State.takeInterrupt_addressSize (s : State) (v : Interrupt) (ret : FarPtr) : (s.takeInterrupt v ret).cpu.addressSize = s.cpu.addressSize := by unfold State.takeInterrupt; split <;> rfl
@[simp] theorem State.takeInterrupt_em (s : State) (v : Interrupt) (ret : FarPtr) : (s.takeInterrupt v ret).cpu.em = s.cpu.em := by unfold State.takeInterrupt; split <;> rfl
@[simp] theorem State.takeInterrupt_ts (s : State) (v : Interrupt) (ret : FarPtr) : (s.takeInterrupt v ret).cpu.ts = s.cpu.ts := by unfold State.takeInterrupt; split <;> rfl
@[simp] theorem State.takeInterrupt_mp (s : State) (v : Interrupt) (ret : FarPtr) : (s.takeInterrupt v ret).cpu.mp = s.cpu.mp := by unfold State.takeInterrupt; split <;> rfl

end Sys2Proof.Machine
end

