-- ==== Sys2Proof/Laws/Ops.lean ====
section
/-! SUPPORT. One lemma per shared operation that says everything it can do; proofs cite these and do not unfold
the operations. -/

namespace Sys2Proof.Machine

/-! ### Entering an instruction -/

theorem State.waitEntry_run {s : State} : s.waitEntry = .run ↔ s.busyIn = false ∧ s.errorIn = false := by
  unfold State.waitEntry
  cases s.busyIn <;> cases s.errorIn <;> simp

theorem State.waitEntry_hold {s : State} : s.waitEntry = .hold ↔ s.busyIn = true := by
  unfold State.waitEntry
  cases s.busyIn <;> cases s.errorIn <;> simp

theorem State.waitEntry_trap {s : State} {v : Interrupt} :
    s.waitEntry = .trap v ↔ s.busyIn = false ∧ s.errorIn = true ∧ v = .numericException := by
  unfold State.waitEntry
  cases s.busyIn <;> cases s.errorIn <;> simp [eq_comm (b := v)]

theorem State.escEntry_run {s : State} {w : Bool} :
    s.escEntry w = .run ↔
      s.cpu.em = false ∧ s.cpu.ts = false ∧ (w = true → s.busyIn = false ∧ s.errorIn = false) := by
  unfold State.escEntry
  cases s.cpu.em <;> cases s.cpu.ts <;> cases w <;> simp [State.waitEntry_run]

theorem State.escEntry_hold {s : State} {w : Bool} :
    s.escEntry w = .hold ↔ s.cpu.em = false ∧ s.cpu.ts = false ∧ w = true ∧ s.busyIn = true := by
  unfold State.escEntry
  cases s.cpu.em <;> cases s.cpu.ts <;> cases w <;> simp [State.waitEntry_hold]

theorem State.escEntry_trap {s : State} {w : Bool} {v : Interrupt} :
    s.escEntry w = .trap v ↔
      ((s.cpu.em = true ∨ s.cpu.ts = true) ∧ v = .deviceNotAvailable) ∨
      (s.cpu.em = false ∧ s.cpu.ts = false ∧ w = true ∧ s.busyIn = false ∧ s.errorIn = true ∧
        v = .numericException) := by
  unfold State.escEntry
  cases s.cpu.em <;> cases s.cpu.ts <;> cases w <;> simp [State.waitEntry_trap, eq_comm (b := v)]

/-! ### The templates -/

/-- Everything an ESC instruction without a memory operand can do. -/
theorem State.escReg_cases {s : State} {k : EscKind} {op : BitVec 11} {len : Nat} {body : State → State} {o : Result}
    (h : s.escReg k op len body = o) :
    (∃ v, s.escEntry k.waiting = .trap v ∧ o = .next (s.takeInterrupt v s.here)) ∨
    (s.escEntry k.waiting = .hold ∧ o = .next s) ∨
    (s.escEntry k.waiting = .run ∧ o = .next (s.finish len (body (s.startEsc k op none)))) := by
  unfold State.escReg at h
  cases he : s.escEntry k.waiting <;> simp only [he] at h <;> simp [← h]

/-- Everything an ESC instruction with a memory operand can do. -/
theorem State.escMem_cases {s : State} {k : EscKind} {op : BitVec 11} {len : Nat} {r : MemRef} {n : Nat} {write : Bool}
    {body : State → State} {o : Result} (h : s.escMem k op len r n write body = o) :
    (∃ v, s.escEntry k.waiting = .trap v ∧ o = .next (s.takeInterrupt v s.here)) ∨
    (s.escEntry k.waiting = .hold ∧ o = .next s) ∨
    (s.escEntry k.waiting = .run ∧
      ((s.cpu.segs.allowsBytes r (startWidth r n) = false ∧ o = .next (s.takeInterrupt .generalProtection s.here)) ∨
       (s.cpu.segs.allowsBytes r (startWidth r n) = true ∧ s.launch.hostFaultOn r n write = true ∧
          o = .fault .hostMemoryFault) ∨
       (s.cpu.segs.allowsBytes r (startWidth r n) = true ∧ s.launch.hostFaultOn r n write = false ∧
          s.cpu.segs.allowsBytes r n = false ∧ o = .next (s.segmentOverrun op r n write)) ∨
       (s.cpu.segs.allowsBytes r n = true ∧ s.launch.hostFaultOn r n write = false ∧
          o = .next (s.finish len (body (s.startEsc k op (some r))))))) := by
  unfold State.escMem at h
  cases he : s.escEntry k.waiting <;> simp only [he] at h <;> try simp [← h]
  cases h1 : s.cpu.segs.allowsBytes r (startWidth r n) <;> cases h2 : s.launch.hostFaultOn r n write <;>
    cases h3 : s.cpu.segs.allowsBytes r n <;> simp [h1, h2, h3] at h <;> simp

/-- The first word or doubleword of an accessible operand is accessible. -/
theorem Segments.allowsBytes_start {g : Segments} {r : MemRef} {n : Nat} (hn : n = 2 ∨ 4 ≤ n)
    (h : g.allowsBytes r n = true) : g.allowsBytes r (startWidth r n) = true := by
  simp only [Segments.allowsBytes, List.all_eq_true, List.mem_range] at h ⊢
  intro k hk
  apply h
  unfold startWidth at hk
  split at hk <;> try split at hk
  all_goals omega

theorem State.escReg_run {s : State} {k : EscKind} {op : BitVec 11} {len : Nat} {body : State → State}
    (h : s.escEntry k.waiting = .run) : s.escReg k op len body = .next (s.finish len (body (s.startEsc k op none))) := by
  simp only [State.escReg, h]

theorem State.escMem_run {s : State} {k : EscKind} {op : BitVec 11} {len : Nat} {r : MemRef} {n : Nat} {write : Bool}
    {body : State → State} (h : s.escEntry k.waiting = .run) (hn : n = 2 ∨ 4 ≤ n)
    (ha : s.cpu.segs.allowsBytes r n = true) (hf : s.launch.hostFaultOn r n write = false) :
    s.escMem k op len r n write body = .next (s.finish len (body (s.startEsc k op (some r)))) := by
  simp [State.escMem, h, ha, hf, Segments.allowsBytes_start hn ha]

/-! ### Storing -/

/-- Everything a storing rule can do: its NPX registers, and a value stored to the operand or nothing. -/
theorem storeThen_cases (n : Nat) (f : Nat → Npx → StoreEffect) (r : MemRef) (t : State) :
    (∃ v, storeThen n f r t = { t.writeOperand r n v with npx := (f t.draws t.npx).npx }) ∨
    storeThen n f r t = { t with npx := (f t.draws t.npx).npx } := by
  unfold storeThen
  cases h : (f t.draws t.npx).written t.params n t.draws with
  | some v => exact .inl ⟨v, by simp only [h]; rfl⟩
  | none => exact .inr (by simp only [h])

/-- What a storing rule writes on the standard connection, or when it signals no unmasked exception. -/
theorem StoreEffect.written_eq {e : StoreEffect} {p : Params} {n d : Nat}
    (h : p.platform = .standard ∨ e.unmasked = false) : e.written p n d = e.bits := by
  unfold StoreEffect.written
  split
  · next hp hu => rcases h with h | h <;> simp_all
  · rfl

/-- A storing rule changes the NPX registers, memory and the record of stored bytes only. -/
theorem storeThen_npx (n : Nat) (f : Nat → Npx → StoreEffect) (r : MemRef) (t : State) :
    (storeThen n f r t).npx = (f t.draws t.npx).npx := by
  rcases storeThen_cases n f r t with ⟨v, h⟩ | h <;> rw [h]

theorem storeThen_rest (n : Nat) (f : Nat → Npx → StoreEffect) (r : MemRef) (t : State) :
    (storeThen n f r t).ptrs = t.ptrs ∧ (storeThen n f r t).cpu = t.cpu ∧ (storeThen n f r t).taken = t.taken ∧
    (storeThen n f r t).launch = t.launch ∧ (storeThen n f r t).params = t.params ∧
    (storeThen n f r t).busyLatch = t.busyLatch ∧ (storeThen n f r t).pereqLatch = t.pereqLatch ∧
    (storeThen n f r t).irq13 = t.irq13 ∧ (storeThen n f r t).bus = t.bus ∧ (storeThen n f r t).draws = t.draws := by
  rcases storeThen_cases n f r t with ⟨v, h⟩ | h <;> rw [h] <;> simp

/-- The addresses recorded as stored after a store (R426). -/
theorem State.mem_storeAt_stored {t : State} {as : List Nat} {v a : Nat} :
    a ∈ (t.storeAt as v).stored ↔ (t.params.selfModifyingCode = .refuse ∧ a ∈ as) ∨ a ∈ t.stored := by
  unfold State.storeAt
  cases h : t.params.selfModifyingCode <;> simp

/-- What a state must hold for its EIP to read as not self-modified. -/
theorem State.selfModified_coherent {s : State} (h : s.params.selfModifyingCode = .coherent) (n : Nat) :
    s.selfModified n = false := by
  simp [State.selfModified, h]

/-- On the standard connection ERROR# latches nothing. -/
theorem State.latchError_standard {s t : State} (h : s.params.platform = .standard) : s.latchError t = t := by
  simp [State.latchError, h]

/-! ### Images of transcendental results -/

@[simp] theorem extExp_mkExt (s : Bool) (e : BitVec 15) (m : BitVec 64) : extExp (mkExt s e m) = e := by
  ext i hi
  simp only [extExp, mkExt, BitVec.getElem_extractLsb', BitVec.getLsbD_append]
  rw [if_neg (by omega), if_pos (by omega), Nat.add_sub_cancel_left, BitVec.getLsbD_eq_getElem hi]

@[simp] theorem extSig_mkExt (s : Bool) (e : BitVec 15) (m : BitVec 64) : extSig (mkExt s e m) = m := by
  ext i hi
  simp only [extSig, mkExt, BitVec.getElem_extractLsb', BitVec.getLsbD_append, Nat.zero_add]
  rw [if_pos hi, BitVec.getLsbD_eq_getElem hi]

/-- The result of a transcendental function is a number: no NaN, no infinity, no unsupported image (R300). -/
theorem classOf_finiteImage (x : Ext) :
    classOf (finiteImage x) = .zero ∨ classOf (finiteImage x) = .denormal ∨ classOf (finiteImage x) = .normal := by
  have hm : (extSig x).getLsbD 63 = x.getLsbD 63 := by simp [extSig]
  simp only [finiteImage]
  split
  · next h =>
    have h0 : (extExp x).toNat = 0 := by rw [h]; rfl
    split
    · next hb => simp [classOf, hm, hb]
    · simp only [classOf, h0, if_true]
      split <;> simp
  · next h =>
    have hlt := (extExp x).isLt
    have h0 : (extExp x).toNat ≠ 0 := fun e => h (BitVec.eq_of_toNat_eq (by simpa using e))
    split
    · simp [classOf]
    · next hf =>
      have hf' : (extExp x).toNat ≠ 32767 := fun e => hf (BitVec.eq_of_toNat_eq (by simpa using e))
      have : (extExp x).toNat < 32767 := by omega
      simp [classOf, h0, this]

/-- A tiny result is a Denormal image (R302). -/
theorem classOf_tinyImage (x : Ext) : classOf (tinyImage x) = .denormal := by
  simp [classOf, tinyImage, extExp_mkExt, extSig_mkExt]
  split <;> simp_all

/-! ### y·log2(x) (R308) -/

theorem logExponent_bounds (v : TranscLog) : -16510 ≤ logExponent v ∧ logExponent v ≤ 16398 := by
  unfold logExponent
  omega

/-- The exponent of the rounded value is the drawn one. -/
theorem logRounded_log2 (v : TranscLog) : (logRounded v).log2 = logExponent v := by
  have hf := v.frac.isLt
  have h : Nat.log2 (2 ^ 63 + v.frac.toNat) = 63 := by
    rw [Nat.log2_eq_iff (by omega)]
    omega
  simp only [Rounded.log2, logRounded, h]
  omega

/-- Everything FYL2X can deliver when it computes: an exact value of 64 bits, or a rounded one, through the tests for
overflow and underflow. -/
theorem Npx.ylog2x_cases (n : Npx) (y x : Ext) (d : Nat) :
    (∃ e, exactLog (valOf y) (valOf x) = some e ∧ e.representable = true ∧ n.ylog2x y x d = n.deliver64 e.neg e.mag d) ∨
    ∃ v : TranscLog, n.ylog2x y x d =
      deliverRounded n.rc (n.masked .oe) (n.masked .ue) v.neg (logMag v) 64 (logRounded v) d := by
  cases he : exactLog (valOf y) (valOf x) with
  | none => exact .inr ⟨Config.ylog2x y x n.rc, by simp only [Npx.ylog2x, he]⟩
  | some e =>
    by_cases h : (e.representable && !(Config.ylog2x y x n.rc).inexact) = true
    · exact .inl ⟨e, rfl, (Bool.and_eq_true _ _ ▸ h).1, by simp only [Npx.ylog2x, he, h, if_true]⟩
    · exact .inr ⟨Config.ylog2x y x n.rc, by simp only [Npx.ylog2x, he, if_neg h]⟩

/-! ### The register stack -/

/-- Everything a push can do. -/
theorem Npx.push_cases (n : Npx) (x : Ext) :
    (n.canPush = true ∧ n.push x = (n.pushRaw x).setC1 false) ∨
    (n.canPush = false ∧ n.masked .ie = true ∧ n.push x = (n.stackFault true).pushRaw indefinite) ∨
    (n.canPush = false ∧ n.masked .ie = false ∧ n.push x = n.stackFault true) := by
  unfold Npx.push Npx.stackOverflow
  cases n.canPush <;> cases n.masked .ie <;> simp

@[simp] theorem Npx.pushRaw_cw (n : Npx) (x : Ext) : (n.pushRaw x).cw = n.cw := rfl
@[simp] theorem Npx.pushRaw_top (n : Npx) (x : Ext) : (n.pushRaw x).sw.top = n.sw.top - 1 := rfl
@[simp] theorem Npx.pop_cw (n : Npx) : n.pop.cw = n.cw := rfl
@[simp] theorem Npx.pop_top (n : Npx) : n.pop.sw.top = n.sw.top + 1 := rfl
@[simp] theorem Npx.pop_reg (n : Npx) (k : BitVec 3) : n.pop.reg k = n.reg k := rfl

@[simp] theorem Npx.pops_cw (k : Nat) (n : Npx) : (Npx.pops k n).cw = n.cw := by
  induction k generalizing n with
  | zero => rfl
  | succ k ih => simp [Npx.pops, ih]

@[simp] theorem Npx.pops_reg (k : Nat) (n : Npx) (j : BitVec 3) : (Npx.pops k n).reg j = n.reg j := by
  induction k generalizing n with
  | zero => rfl
  | succ k ih => simp [Npx.pops, ih]

@[simp] theorem Npx.push_cw (n : Npx) (x : Ext) : (n.push x).cw = n.cw := by
  rcases n.push_cases x with ⟨-, h⟩ | ⟨-, -, h⟩ | ⟨-, -, h⟩ <;> rw [h] <;> rfl

@[simp] theorem Npx.stackOverflow_cw (n : Npx) : n.stackOverflow.cw = n.cw := by
  unfold Npx.stackOverflow
  split <;> rfl

@[simp] theorem Npx.underflowInto_cw (n : Npx) (k : BitVec 3) (p : Nat) : (n.underflowInto k p).cw = n.cw := by
  unfold Npx.underflowInto
  split <;> simp

@[simp] theorem Npx.invalidInto_cw (n : Npx) (k : BitVec 3) (p : Nat) (x : Ext) :
    (n.invalidInto k p x).cw = n.cw := by
  simp only [Npx.invalidInto]
  split <;> simp

@[simp] theorem Npx.exactInto_cw (n : Npx) (k : BitVec 3) (p : Nat) (x : Ext) : (n.exactInto k p x).cw = n.cw := by
  simp [Npx.exactInto]

@[simp] theorem Npx.deliverInto_cw (n : Npx) (k : BitVec 3) (p : Nat) (r : Delivered) :
    (n.deliverInto k p r).cw = n.cw := by
  simp [Npx.deliverInto]

/-- Everything the operand checks can do. -/
theorem Npx.checked_cases (n : Npx) (a b : Opnd) (invalid : Bool) (dst : BitVec 3) (p : Nat) (k : Npx → Npx) :
    ((a.isInvalid || b.isInvalid) = true ∧ n.checked a b invalid dst p k = n.invalidInto dst p (nanResult a b)) ∨
    ((a.isInvalid || b.isInvalid) = false ∧ (a.isNan || b.isNan) = true ∧
      n.checked a b invalid dst p k = n.exactInto dst p (nanResult a b)) ∨
    ((a.isNan || b.isNan) = false ∧ invalid = true ∧
      n.checked a b invalid dst p k = n.invalidInto dst p indefinite) ∨
    ((a.cls == .denormal || b.cls == .denormal) = true ∧ n.masked .de = false ∧
      n.checked a b invalid dst p k = (n.signal .de).setC1 false) ∨
    ((a.cls == .denormal || b.cls == .denormal) = true ∧ n.masked .de = true ∧
      n.checked a b invalid dst p k = k (n.signal .de)) ∨
    ((a.cls == .denormal || b.cls == .denormal) = false ∧ n.checked a b invalid dst p k = k n) := by
  unfold Npx.checked
  cases (a.isInvalid || b.isInvalid) <;> cases (a.isNan || b.isNan) <;> cases invalid <;>
    cases (a.cls == .denormal || b.cls == .denormal) <;> cases n.masked .de <;> simp

/-! ### Interrupts -/

/-- With a handler, execution goes on at its first instruction. -/
theorem State.takeInterrupt_handler {s : State} {v : Interrupt} {ret : FarPtr} {h : Handler}
    (hh : s.launch.handler v = some h) :
    (s.takeInterrupt v ret).cpu.eip = h.eip ∧ (s.takeInterrupt v ret).cpu.segs.cs = h.code := by
  simp [State.takeInterrupt, hh]

/-- Without a handler the processor's registers are unchanged. -/
theorem State.takeInterrupt_noHandler {s : State} {v : Interrupt} {ret : FarPtr} (hh : s.launch.handler v = none) :
    (s.takeInterrupt v ret).cpu = s.cpu := by
  simp [State.takeInterrupt, hh]

end Sys2Proof.Machine
end

