-- ==== Sys2Proof/Laws/PerInstr.lean ====
section
/-! SUPPORT. The statements about every instruction as syntax, one lemma per constructor: an encoding has the
length R105 gives it. -/

namespace Sys2Proof

/-- SIB and displacement take the bytes R105 counts. -/
theorem MemArg.tail_length (m : MemArg) : m.tail.length = m.extraBytes := by
  cases m with
  | a16 b d => cases d <;> rfl
  | direct16 d => rfl
  | a32 b d => cases d <;> rfl
  | direct32 d => rfl
  | sib s i b d => cases d <;> rfl
  | sibNoBase s i d => rfl

/-- The length of an encoding with a memory operand. -/
theorem length_memForm (i : Instr) (pre : List Prefix) (m : MemArg) (grp reg : BitVec 3)
    (hp : i.parts = (pre, 2, some m)) (ho : i.opcode = .mem grp reg) : (encode i).length = i.length := by
  simp [encode, Instr.length, Instr.prefixes, Instr.memArg?, hp, ho, opcodeBytes, MemArg.tail_length]
  omega

/-- The length of an encoding without a memory operand. -/
theorem length_regForm (i : Instr) (pre : List Prefix) (grp : BitVec 3) (b2 : Byte)
    (hp : i.parts = (pre, 2, none)) (ho : i.opcode = .reg grp b2) : (encode i).length = i.length := by
  simp [encode, Instr.length, Instr.prefixes, Instr.memArg?, hp, ho, opcodeBytes]

end Sys2Proof

namespace Sys2Proof.Laws.EncodeLength

/-- The encoder writes as many bytes as the instruction has. -/
def Statement (i : Instr) : Prop := (encode i).length = i.length

theorem faddSingleReal (pre : List Prefix) (m : MemArg) : Statement (.faddSingleReal pre m) :=
  length_memForm _ _ _ _ _ rfl rfl

theorem fmulSingleReal (pre : List Prefix) (m : MemArg) : Statement (.fmulSingleReal pre m) :=
  length_memForm _ _ _ _ _ rfl rfl

theorem fcomSingleReal (pre : List Prefix) (m : MemArg) : Statement (.fcomSingleReal pre m) :=
  length_memForm _ _ _ _ _ rfl rfl

theorem fcompSingleReal (pre : List Prefix) (m : MemArg) : Statement (.fcompSingleReal pre m) :=
  length_memForm _ _ _ _ _ rfl rfl

theorem fsubSingleReal (pre : List Prefix) (m : MemArg) : Statement (.fsubSingleReal pre m) :=
  length_memForm _ _ _ _ _ rfl rfl

theorem fsubrSingleReal (pre : List Prefix) (m : MemArg) : Statement (.fsubrSingleReal pre m) :=
  length_memForm _ _ _ _ _ rfl rfl

theorem fdivSingleReal (pre : List Prefix) (m : MemArg) : Statement (.fdivSingleReal pre m) :=
  length_memForm _ _ _ _ _ rfl rfl

theorem fdivrSingleReal (pre : List Prefix) (m : MemArg) : Statement (.fdivrSingleReal pre m) :=
  length_memForm _ _ _ _ _ rfl rfl

theorem faddStSti (pre : List Prefix) (i : StIndex) : Statement (.faddStSti pre i) := length_regForm _ _ _ _ rfl rfl

theorem fmulStSti (pre : List Prefix) (i : StIndex) : Statement (.fmulStSti pre i) := length_regForm _ _ _ _ rfl rfl

theorem fcomSti (pre : List Prefix) (i : StIndex) : Statement (.fcomSti pre i) := length_regForm _ _ _ _ rfl rfl

theorem fcompSti (pre : List Prefix) (i : StIndex) : Statement (.fcompSti pre i) := length_regForm _ _ _ _ rfl rfl

theorem fsubStSti (pre : List Prefix) (i : StIndex) : Statement (.fsubStSti pre i) := length_regForm _ _ _ _ rfl rfl

theorem fsubrStSti (pre : List Prefix) (i : StIndex) : Statement (.fsubrStSti pre i) := length_regForm _ _ _ _ rfl rfl

theorem fdivStSti (pre : List Prefix) (i : StIndex) : Statement (.fdivStSti pre i) := length_regForm _ _ _ _ rfl rfl

theorem fdivrStSti (pre : List Prefix) (i : StIndex) : Statement (.fdivrStSti pre i) := length_regForm _ _ _ _ rfl rfl

theorem fldSingleReal (pre : List Prefix) (m : MemArg) : Statement (.fldSingleReal pre m) :=
  length_memForm _ _ _ _ _ rfl rfl

theorem reservedD9mem1 (pre : List Prefix) (m : MemArg) : Statement (.reservedD9mem1 pre m) :=
  length_memForm _ _ _ _ _ rfl rfl

theorem fstSingleReal (pre : List Prefix) (m : MemArg) : Statement (.fstSingleReal pre m) :=
  length_memForm _ _ _ _ _ rfl rfl

theorem fstpSingleReal (pre : List Prefix) (m : MemArg) : Statement (.fstpSingleReal pre m) :=
  length_memForm _ _ _ _ _ rfl rfl

theorem fldenv (pre : List Prefix) (m : MemArg) : Statement (.fldenv pre m) :=
  length_memForm _ _ _ _ _ rfl rfl

theorem fldcw (pre : List Prefix) (m : MemArg) : Statement (.fldcw pre m) :=
  length_memForm _ _ _ _ _ rfl rfl

theorem fstenv (pre : List Prefix) (m : MemArg) : Statement (.fstenv pre m) :=
  length_memForm _ _ _ _ _ rfl rfl

theorem fstcw (pre : List Prefix) (m : MemArg) : Statement (.fstcw pre m) :=
  length_memForm _ _ _ _ _ rfl rfl

theorem fldSti (pre : List Prefix) (i : StIndex) : Statement (.fldSti pre i) := length_regForm _ _ _ _ rfl rfl

theorem fxchSti (pre : List Prefix) (i : StIndex) : Statement (.fxchSti pre i) := length_regForm _ _ _ _ rfl rfl

theorem fnop (pre : List Prefix) : Statement (.fnop pre) := length_regForm _ _ _ _ rfl rfl

theorem reservedD9rD1 (pre : List Prefix) : Statement (.reservedD9rD1 pre) := length_regForm _ _ _ _ rfl rfl

theorem reservedD9rD2toD3 (pre : List Prefix) (k : BitVec 1) : Statement (.reservedD9rD2toD3 pre k) :=
  length_regForm _ _ _ _ rfl rfl

theorem reservedD9rD4toD7 (pre : List Prefix) (k : BitVec 2) : Statement (.reservedD9rD4toD7 pre k) :=
  length_regForm _ _ _ _ rfl rfl

theorem reservedD9rD8toDF (pre : List Prefix) (k : BitVec 3) : Statement (.reservedD9rD8toDF pre k) :=
  length_regForm _ _ _ _ rfl rfl

theorem fchs (pre : List Prefix) : Statement (.fchs pre) := length_regForm _ _ _ _ rfl rfl

theorem fabs (pre : List Prefix) : Statement (.fabs pre) := length_regForm _ _ _ _ rfl rfl

theorem reservedD9rE2 (pre : List Prefix) : Statement (.reservedD9rE2 pre) := length_regForm _ _ _ _ rfl rfl

theorem reservedD9rE3 (pre : List Prefix) : Statement (.reservedD9rE3 pre) := length_regForm _ _ _ _ rfl rfl

theorem ftst (pre : List Prefix) : Statement (.ftst pre) := length_regForm _ _ _ _ rfl rfl

theorem fxam (pre : List Prefix) : Statement (.fxam pre) := length_regForm _ _ _ _ rfl rfl

theorem reservedD9rE6 (pre : List Prefix) : Statement (.reservedD9rE6 pre) := length_regForm _ _ _ _ rfl rfl

theorem reservedD9rE7 (pre : List Prefix) : Statement (.reservedD9rE7 pre) := length_regForm _ _ _ _ rfl rfl

theorem fld1 (pre : List Prefix) : Statement (.fld1 pre) := length_regForm _ _ _ _ rfl rfl

theorem fldl2t (pre : List Prefix) : Statement (.fldl2t pre) := length_regForm _ _ _ _ rfl rfl

theorem fldl2e (pre : List Prefix) : Statement (.fldl2e pre) := length_regForm _ _ _ _ rfl rfl

theorem fldpi (pre : List Prefix) : Statement (.fldpi pre) := length_regForm _ _ _ _ rfl rfl

theorem fldlg2 (pre : List Prefix) : Statement (.fldlg2 pre) := length_regForm _ _ _ _ rfl rfl

theorem fldln2 (pre : List Prefix) : Statement (.fldln2 pre) := length_regForm _ _ _ _ rfl rfl

theorem fldz (pre : List Prefix) : Statement (.fldz pre) := length_regForm _ _ _ _ rfl rfl

theorem reservedD9rEF (pre : List Prefix) : Statement (.reservedD9rEF pre) := length_regForm _ _ _ _ rfl rfl

theorem f2xm1 (pre : List Prefix) : Statement (.f2xm1 pre) := length_regForm _ _ _ _ rfl rfl

theorem fyl2x (pre : List Prefix) : Statement (.fyl2x pre) := length_regForm _ _ _ _ rfl rfl

theorem fptan (pre : List Prefix) : Statement (.fptan pre) := length_regForm _ _ _ _ rfl rfl

theorem fpatan (pre : List Prefix) : Statement (.fpatan pre) := length_regForm _ _ _ _ rfl rfl

theorem fxtract (pre : List Prefix) : Statement (.fxtract pre) := length_regForm _ _ _ _ rfl rfl

theorem fprem1 (pre : List Prefix) : Statement (.fprem1 pre) := length_regForm _ _ _ _ rfl rfl

theorem fdecstp (pre : List Prefix) : Statement (.fdecstp pre) := length_regForm _ _ _ _ rfl rfl

theorem fincstp (pre : List Prefix) : Statement (.fincstp pre) := length_regForm _ _ _ _ rfl rfl

theorem fprem (pre : List Prefix) : Statement (.fprem pre) := length_regForm _ _ _ _ rfl rfl

theorem fyl2xp1 (pre : List Prefix) : Statement (.fyl2xp1 pre) := length_regForm _ _ _ _ rfl rfl

theorem fsqrt (pre : List Prefix) : Statement (.fsqrt pre) := length_regForm _ _ _ _ rfl rfl

theorem fsincos (pre : List Prefix) : Statement (.fsincos pre) := length_regForm _ _ _ _ rfl rfl

theorem frndint (pre : List Prefix) : Statement (.frndint pre) := length_regForm _ _ _ _ rfl rfl

theorem fscale (pre : List Prefix) : Statement (.fscale pre) := length_regForm _ _ _ _ rfl rfl

theorem fsin (pre : List Prefix) : Statement (.fsin pre) := length_regForm _ _ _ _ rfl rfl

theorem fcos (pre : List Prefix) : Statement (.fcos pre) := length_regForm _ _ _ _ rfl rfl

theorem fiaddShortInteger (pre : List Prefix) (m : MemArg) : Statement (.fiaddShortInteger pre m) :=
  length_memForm _ _ _ _ _ rfl rfl

theorem fimulShortInteger (pre : List Prefix) (m : MemArg) : Statement (.fimulShortInteger pre m) :=
  length_memForm _ _ _ _ _ rfl rfl

theorem ficomShortInteger (pre : List Prefix) (m : MemArg) : Statement (.ficomShortInteger pre m) :=
  length_memForm _ _ _ _ _ rfl rfl

theorem ficompShortInteger (pre : List Prefix) (m : MemArg) : Statement (.ficompShortInteger pre m) :=
  length_memForm _ _ _ _ _ rfl rfl

theorem fisubShortInteger (pre : List Prefix) (m : MemArg) : Statement (.fisubShortInteger pre m) :=
  length_memForm _ _ _ _ _ rfl rfl

theorem fisubrShortInteger (pre : List Prefix) (m : MemArg) : Statement (.fisubrShortInteger pre m) :=
  length_memForm _ _ _ _ _ rfl rfl

theorem fidivShortInteger (pre : List Prefix) (m : MemArg) : Statement (.fidivShortInteger pre m) :=
  length_memForm _ _ _ _ _ rfl rfl

theorem fidivrShortInteger (pre : List Prefix) (m : MemArg) : Statement (.fidivrShortInteger pre m) :=
  length_memForm _ _ _ _ _ rfl rfl

theorem reservedDArC0toDF (pre : List Prefix) (k : BitVec 5) : Statement (.reservedDArC0toDF pre k) :=
  length_regForm _ _ _ _ rfl rfl

theorem reservedDArE0toE7 (pre : List Prefix) (k : BitVec 3) : Statement (.reservedDArE0toE7 pre k) :=
  length_regForm _ _ _ _ rfl rfl

theorem reservedDArE8 (pre : List Prefix) : Statement (.reservedDArE8 pre) := length_regForm _ _ _ _ rfl rfl

theorem fucompp (pre : List Prefix) : Statement (.fucompp pre) := length_regForm _ _ _ _ rfl rfl

theorem reservedDArEAtoEB (pre : List Prefix) (k : BitVec 1) : Statement (.reservedDArEAtoEB pre k) :=
  length_regForm _ _ _ _ rfl rfl

theorem reservedDArECtoEF (pre : List Prefix) (k : BitVec 2) : Statement (.reservedDArECtoEF pre k) :=
  length_regForm _ _ _ _ rfl rfl

theorem reservedDArF0toFF (pre : List Prefix) (k : BitVec 4) : Statement (.reservedDArF0toFF pre k) :=
  length_regForm _ _ _ _ rfl rfl

theorem fildShortInteger (pre : List Prefix) (m : MemArg) : Statement (.fildShortInteger pre m) :=
  length_memForm _ _ _ _ _ rfl rfl

theorem reservedDBmem1 (pre : List Prefix) (m : MemArg) : Statement (.reservedDBmem1 pre m) :=
  length_memForm _ _ _ _ _ rfl rfl

theorem fistShortInteger (pre : List Prefix) (m : MemArg) : Statement (.fistShortInteger pre m) :=
  length_memForm _ _ _ _ _ rfl rfl

theorem fistpShortInteger (pre : List Prefix) (m : MemArg) : Statement (.fistpShortInteger pre m) :=
  length_memForm _ _ _ _ _ rfl rfl

theorem reservedDBmem4 (pre : List Prefix) (m : MemArg) : Statement (.reservedDBmem4 pre m) :=
  length_memForm _ _ _ _ _ rfl rfl

theorem fldExtendedReal (pre : List Prefix) (m : MemArg) : Statement (.fldExtendedReal pre m) :=
  length_memForm _ _ _ _ _ rfl rfl

theorem reservedDBmem6 (pre : List Prefix) (m : MemArg) : Statement (.reservedDBmem6 pre m) :=
  length_memForm _ _ _ _ _ rfl rfl

theorem fstpExtendedReal (pre : List Prefix) (m : MemArg) : Statement (.fstpExtendedReal pre m) :=
  length_memForm _ _ _ _ _ rfl rfl

theorem reservedDBrC0toDF (pre : List Prefix) (k : BitVec 5) : Statement (.reservedDBrC0toDF pre k) :=
  length_regForm _ _ _ _ rfl rfl

theorem feni (pre : List Prefix) : Statement (.feni pre) := length_regForm _ _ _ _ rfl rfl

theorem fdisi (pre : List Prefix) : Statement (.fdisi pre) := length_regForm _ _ _ _ rfl rfl

theorem fclex (pre : List Prefix) : Statement (.fclex pre) := length_regForm _ _ _ _ rfl rfl

theorem finit (pre : List Prefix) : Statement (.finit pre) := length_regForm _ _ _ _ rfl rfl

theorem fsetpm (pre : List Prefix) : Statement (.fsetpm pre) := length_regForm _ _ _ _ rfl rfl

theorem reservedDBrE5 (pre : List Prefix) : Statement (.reservedDBrE5 pre) := length_regForm _ _ _ _ rfl rfl

theorem reservedDBrE6toE7 (pre : List Prefix) (k : BitVec 1) : Statement (.reservedDBrE6toE7 pre k) :=
  length_regForm _ _ _ _ rfl rfl

theorem reservedDBrE8toEF (pre : List Prefix) (k : BitVec 3) : Statement (.reservedDBrE8toEF pre k) :=
  length_regForm _ _ _ _ rfl rfl

theorem reservedDBrF0toFF (pre : List Prefix) (k : BitVec 4) : Statement (.reservedDBrF0toFF pre k) :=
  length_regForm _ _ _ _ rfl rfl

theorem faddDoubleReal (pre : List Prefix) (m : MemArg) : Statement (.faddDoubleReal pre m) :=
  length_memForm _ _ _ _ _ rfl rfl

theorem fmulDoubleReal (pre : List Prefix) (m : MemArg) : Statement (.fmulDoubleReal pre m) :=
  length_memForm _ _ _ _ _ rfl rfl

theorem fcomDoubleReal (pre : List Prefix) (m : MemArg) : Statement (.fcomDoubleReal pre m) :=
  length_memForm _ _ _ _ _ rfl rfl

theorem fcompDoubleReal (pre : List Prefix) (m : MemArg) : Statement (.fcompDoubleReal pre m) :=
  length_memForm _ _ _ _ _ rfl rfl

theorem fsubDoubleReal (pre : List Prefix) (m : MemArg) : Statement (.fsubDoubleReal pre m) :=
  length_memForm _ _ _ _ _ rfl rfl

theorem fsubrDoubleReal (pre : List Prefix) (m : MemArg) : Statement (.fsubrDoubleReal pre m) :=
  length_memForm _ _ _ _ _ rfl rfl

theorem fdivDoubleReal (pre : List Prefix) (m : MemArg) : Statement (.fdivDoubleReal pre m) :=
  length_memForm _ _ _ _ _ rfl rfl

theorem fdivrDoubleReal (pre : List Prefix) (m : MemArg) : Statement (.fdivrDoubleReal pre m) :=
  length_memForm _ _ _ _ _ rfl rfl

theorem faddStiSt (pre : List Prefix) (i : StIndex) : Statement (.faddStiSt pre i) := length_regForm _ _ _ _ rfl rfl

theorem fmulStiSt (pre : List Prefix) (i : StIndex) : Statement (.fmulStiSt pre i) := length_regForm _ _ _ _ rfl rfl

theorem reservedDCrD0toDF (pre : List Prefix) (k : BitVec 4) : Statement (.reservedDCrD0toDF pre k) :=
  length_regForm _ _ _ _ rfl rfl

theorem fsubrStiSt (pre : List Prefix) (i : StIndex) : Statement (.fsubrStiSt pre i) := length_regForm _ _ _ _ rfl rfl

theorem fsubStiSt (pre : List Prefix) (i : StIndex) : Statement (.fsubStiSt pre i) := length_regForm _ _ _ _ rfl rfl

theorem fdivrStiSt (pre : List Prefix) (i : StIndex) : Statement (.fdivrStiSt pre i) := length_regForm _ _ _ _ rfl rfl

theorem fdivStiSt (pre : List Prefix) (i : StIndex) : Statement (.fdivStiSt pre i) := length_regForm _ _ _ _ rfl rfl

theorem fldDoubleReal (pre : List Prefix) (m : MemArg) : Statement (.fldDoubleReal pre m) :=
  length_memForm _ _ _ _ _ rfl rfl

theorem reservedDDmem1 (pre : List Prefix) (m : MemArg) : Statement (.reservedDDmem1 pre m) :=
  length_memForm _ _ _ _ _ rfl rfl

theorem fstDoubleReal (pre : List Prefix) (m : MemArg) : Statement (.fstDoubleReal pre m) :=
  length_memForm _ _ _ _ _ rfl rfl

theorem fstpDoubleReal (pre : List Prefix) (m : MemArg) : Statement (.fstpDoubleReal pre m) :=
  length_memForm _ _ _ _ _ rfl rfl

theorem frstor (pre : List Prefix) (m : MemArg) : Statement (.frstor pre m) :=
  length_memForm _ _ _ _ _ rfl rfl

theorem reservedDDmem5 (pre : List Prefix) (m : MemArg) : Statement (.reservedDDmem5 pre m) :=
  length_memForm _ _ _ _ _ rfl rfl

theorem fsave (pre : List Prefix) (m : MemArg) : Statement (.fsave pre m) :=
  length_memForm _ _ _ _ _ rfl rfl

theorem fstsw (pre : List Prefix) (m : MemArg) : Statement (.fstsw pre m) :=
  length_memForm _ _ _ _ _ rfl rfl

theorem ffreeSti (pre : List Prefix) (i : StIndex) : Statement (.ffreeSti pre i) := length_regForm _ _ _ _ rfl rfl

theorem reservedDDrC8toCF (pre : List Prefix) (k : BitVec 3) : Statement (.reservedDDrC8toCF pre k) :=
  length_regForm _ _ _ _ rfl rfl

theorem fstSti (pre : List Prefix) (i : StIndex) : Statement (.fstSti pre i) := length_regForm _ _ _ _ rfl rfl

theorem fstpSti (pre : List Prefix) (i : StIndex) : Statement (.fstpSti pre i) := length_regForm _ _ _ _ rfl rfl

theorem fucomSti (pre : List Prefix) (i : StIndex) : Statement (.fucomSti pre i) := length_regForm _ _ _ _ rfl rfl

theorem fucompSti (pre : List Prefix) (i : StIndex) : Statement (.fucompSti pre i) := length_regForm _ _ _ _ rfl rfl

theorem reservedDDrF0toFF (pre : List Prefix) (k : BitVec 4) : Statement (.reservedDDrF0toFF pre k) :=
  length_regForm _ _ _ _ rfl rfl

theorem fiaddWordInteger (pre : List Prefix) (m : MemArg) : Statement (.fiaddWordInteger pre m) :=
  length_memForm _ _ _ _ _ rfl rfl

theorem fimulWordInteger (pre : List Prefix) (m : MemArg) : Statement (.fimulWordInteger pre m) :=
  length_memForm _ _ _ _ _ rfl rfl

theorem ficomWordInteger (pre : List Prefix) (m : MemArg) : Statement (.ficomWordInteger pre m) :=
  length_memForm _ _ _ _ _ rfl rfl

theorem ficompWordInteger (pre : List Prefix) (m : MemArg) : Statement (.ficompWordInteger pre m) :=
  length_memForm _ _ _ _ _ rfl rfl

theorem fisubWordInteger (pre : List Prefix) (m : MemArg) : Statement (.fisubWordInteger pre m) :=
  length_memForm _ _ _ _ _ rfl rfl

theorem fisubrWordInteger (pre : List Prefix) (m : MemArg) : Statement (.fisubrWordInteger pre m) :=
  length_memForm _ _ _ _ _ rfl rfl

theorem fidivWordInteger (pre : List Prefix) (m : MemArg) : Statement (.fidivWordInteger pre m) :=
  length_memForm _ _ _ _ _ rfl rfl

theorem fidivrWordInteger (pre : List Prefix) (m : MemArg) : Statement (.fidivrWordInteger pre m) :=
  length_memForm _ _ _ _ _ rfl rfl

theorem faddpStiSt (pre : List Prefix) (i : StIndex) : Statement (.faddpStiSt pre i) := length_regForm _ _ _ _ rfl rfl

theorem fmulpStiSt (pre : List Prefix) (i : StIndex) : Statement (.fmulpStiSt pre i) := length_regForm _ _ _ _ rfl rfl

theorem reservedDErD0toD7 (pre : List Prefix) (k : BitVec 3) : Statement (.reservedDErD0toD7 pre k) :=
  length_regForm _ _ _ _ rfl rfl

theorem reservedDErD8 (pre : List Prefix) : Statement (.reservedDErD8 pre) := length_regForm _ _ _ _ rfl rfl

theorem fcompp (pre : List Prefix) : Statement (.fcompp pre) := length_regForm _ _ _ _ rfl rfl

theorem reservedDErDAtoDB (pre : List Prefix) (k : BitVec 1) : Statement (.reservedDErDAtoDB pre k) :=
  length_regForm _ _ _ _ rfl rfl

theorem reservedDErDCtoDF (pre : List Prefix) (k : BitVec 2) : Statement (.reservedDErDCtoDF pre k) :=
  length_regForm _ _ _ _ rfl rfl

theorem fsubrpStiSt (pre : List Prefix) (i : StIndex) : Statement (.fsubrpStiSt pre i) := length_regForm _ _ _ _ rfl rfl

theorem fsubpStiSt (pre : List Prefix) (i : StIndex) : Statement (.fsubpStiSt pre i) := length_regForm _ _ _ _ rfl rfl

theorem fdivrpStiSt (pre : List Prefix) (i : StIndex) : Statement (.fdivrpStiSt pre i) := length_regForm _ _ _ _ rfl rfl

theorem fdivpStiSt (pre : List Prefix) (i : StIndex) : Statement (.fdivpStiSt pre i) := length_regForm _ _ _ _ rfl rfl

theorem fildWordInteger (pre : List Prefix) (m : MemArg) : Statement (.fildWordInteger pre m) :=
  length_memForm _ _ _ _ _ rfl rfl

theorem reservedDFmem1 (pre : List Prefix) (m : MemArg) : Statement (.reservedDFmem1 pre m) :=
  length_memForm _ _ _ _ _ rfl rfl

theorem fistWordInteger (pre : List Prefix) (m : MemArg) : Statement (.fistWordInteger pre m) :=
  length_memForm _ _ _ _ _ rfl rfl

theorem fistpWordInteger (pre : List Prefix) (m : MemArg) : Statement (.fistpWordInteger pre m) :=
  length_memForm _ _ _ _ _ rfl rfl

theorem fbldPackedDecimal (pre : List Prefix) (m : MemArg) : Statement (.fbldPackedDecimal pre m) :=
  length_memForm _ _ _ _ _ rfl rfl

theorem fildLongInteger (pre : List Prefix) (m : MemArg) : Statement (.fildLongInteger pre m) :=
  length_memForm _ _ _ _ _ rfl rfl

theorem fbstpPackedDecimal (pre : List Prefix) (m : MemArg) : Statement (.fbstpPackedDecimal pre m) :=
  length_memForm _ _ _ _ _ rfl rfl

theorem fistpLongInteger (pre : List Prefix) (m : MemArg) : Statement (.fistpLongInteger pre m) :=
  length_memForm _ _ _ _ _ rfl rfl

theorem reservedDFrC0toDF (pre : List Prefix) (k : BitVec 5) : Statement (.reservedDFrC0toDF pre k) :=
  length_regForm _ _ _ _ rfl rfl

theorem fstswAx (pre : List Prefix) : Statement (.fstswAx pre) := length_regForm _ _ _ _ rfl rfl

theorem reservedDFrE1 (pre : List Prefix) : Statement (.reservedDFrE1 pre) := length_regForm _ _ _ _ rfl rfl

theorem reservedDFrE2toE3 (pre : List Prefix) (k : BitVec 1) : Statement (.reservedDFrE2toE3 pre k) :=
  length_regForm _ _ _ _ rfl rfl

theorem reservedDFrE4toE7 (pre : List Prefix) (k : BitVec 2) : Statement (.reservedDFrE4toE7 pre k) :=
  length_regForm _ _ _ _ rfl rfl

theorem reservedDFrE8toEF (pre : List Prefix) (k : BitVec 3) : Statement (.reservedDFrE8toEF pre k) :=
  length_regForm _ _ _ _ rfl rfl

theorem reservedDFrF0toFF (pre : List Prefix) (k : BitVec 4) : Statement (.reservedDFrF0toFF pre k) :=
  length_regForm _ _ _ _ rfl rfl

theorem wait (pre : List Prefix) : Statement (.wait pre) := by
  simp [Statement, encode, Instr.length, Instr.prefixes, Instr.memArg?, Instr.parts, Instr.opcode, opcodeBytes]

end Sys2Proof.Laws.EncodeLength
end

