-- ==== Sys2Proof/Machine/Timing.lean ====
section
/-! DEFINITION. The clock counts of the data sheet (R430). No rule of the model depends on them: the step
function has no time (assumption 35). -/

namespace Sys2Proof

/-- A clock count: a range of internal clocks, or no legible entry (R430). -/
inductive Clocks
  | range (lo hi : Nat)
  | notGiven
deriving DecidableEq, Repr

/-- The clock counts of R430 with notes b to g applied to the form of the instruction. -/
def Instr.clocks : Instr → Clocks
  | .faddSingleReal _ _ => .range 24 32
  | .fmulSingleReal _ _ => .range 27 35
  | .fcomSingleReal _ _ => .range 26 26
  | .fcompSingleReal _ _ => .range 26 26
  | .fsubSingleReal _ _ => .range 24 32
  | .fsubrSingleReal _ _ => .range 25 33
  | .fdivSingleReal _ _ => .range 89 89
  | .fdivrSingleReal _ _ => .range 89 89
  | .faddStSti _ _ => .range 23 31
  | .fmulStSti _ _ => .range 46 54
  | .fcomSti _ _ => .range 24 24
  | .fcompSti _ _ => .range 26 26
  | .fsubStSti _ _ => .range 29 37
  | .fsubrStSti _ _ => .range 29 37
  | .fdivStSti _ _ => .notGiven
  | .fdivrStSti _ _ => .notGiven
  | .fldSingleReal _ _ => .range 20 20
  | .reservedD9mem1 _ _ => .notGiven
  | .fstSingleReal _ _ => .range 44 44
  | .fstpSingleReal _ _ => .range 44 44
  | .fldenv _ _ => .range 71 71
  | .fldcw _ _ => .range 19 19
  | .fstenv _ _ => .range 103 104
  | .fstcw _ _ => .range 15 15
  | .fldSti _ _ => .range 14 14
  | .fxchSti _ _ => .range 18 18
  | .fnop _ => .range 12 12
  | .reservedD9rD1 _ => .notGiven
  | .reservedD9rD2toD3 _ _ => .notGiven
  | .reservedD9rD4toD7 _ _ => .notGiven
  | .reservedD9rD8toDF _ _ => .notGiven
  | .fchs _ => .range 24 25
  | .fabs _ => .range 22 22
  | .reservedD9rE2 _ => .notGiven
  | .reservedD9rE3 _ => .notGiven
  | .ftst _ => .range 28 28
  | .fxam _ => .range 30 38
  | .reservedD9rE6 _ => .notGiven
  | .reservedD9rE7 _ => .notGiven
  | .fld1 _ => .range 24 24
  | .fldl2t _ => .range 40 40
  | .fldl2e _ => .range 40 40
  | .fldpi _ => .range 40 40
  | .fldlg2 _ => .notGiven
  | .fldln2 _ => .notGiven
  | .fldz _ => .range 20 20
  | .reservedD9rEF _ => .notGiven
  | .f2xm1 _ => .range 211 476
  | .fyl2x _ => .range 120 538
  | .fptan _ => .range 191 497
  | .fpatan _ => .range 314 487
  | .fxtract _ => .range 70 76
  | .fprem1 _ => .notGiven
  | .fdecstp _ => .range 22 22
  | .fincstp _ => .range 21 21
  | .fprem _ => .notGiven
  | .fyl2xp1 _ => .range 257 547
  | .fsqrt _ => .range 122 129
  | .fsincos _ => .notGiven
  | .frndint _ => .notGiven
  | .fscale _ => .range 67 86
  | .fsin _ => .notGiven
  | .fcos _ => .notGiven
  | .fiaddShortInteger _ _ => .range 57 72
  | .fimulShortInteger _ _ => .range 61 82
  | .ficomShortInteger _ _ => .range 56 63
  | .ficompShortInteger _ _ => .range 56 63
  | .fisubShortInteger _ _ => .range 57 82
  | .fisubrShortInteger _ _ => .range 58 83
  | .fidivShortInteger _ _ => .range 120 127
  | .fidivrShortInteger _ _ => .range 121 128
  | .reservedDArC0toDF _ _ => .notGiven
  | .reservedDArE0toE7 _ _ => .notGiven
  | .reservedDArE8 _ => .notGiven
  | .fucompp _ => .notGiven
  | .reservedDArEAtoEB _ _ => .notGiven
  | .reservedDArECtoEF _ _ => .notGiven
  | .reservedDArF0toFF _ _ => .notGiven
  | .fildShortInteger _ _ => .range 45 52
  | .reservedDBmem1 _ _ => .notGiven
  | .fistShortInteger _ _ => .range 79 93
  | .fistpShortInteger _ _ => .range 79 93
  | .reservedDBmem4 _ _ => .notGiven
  | .fldExtendedReal _ _ => .range 44 44
  | .reservedDBmem6 _ _ => .notGiven
  | .fstpExtendedReal _ _ => .range 53 53
  | .reservedDBrC0toDF _ _ => .notGiven
  | .feni _ => .notGiven
  | .fdisi _ => .notGiven
  | .fclex _ => .notGiven
  | .finit _ => .range 33 33
  | .fsetpm _ => .notGiven
  | .reservedDBrE5 _ => .notGiven
  | .reservedDBrE6toE7 _ _ => .notGiven
  | .reservedDBrE8toEF _ _ => .notGiven
  | .reservedDBrF0toFF _ _ => .notGiven
  | .faddDoubleReal _ _ => .range 29 37
  | .fmulDoubleReal _ _ => .range 32 57
  | .fcomDoubleReal _ _ => .range 31 31
  | .fcompDoubleReal _ _ => .range 31 31
  | .fsubDoubleReal _ _ => .range 28 36
  | .fsubrDoubleReal _ _ => .range 29 37
  | .fdivDoubleReal _ _ => .range 94 94
  | .fdivrDoubleReal _ _ => .range 94 94
  | .faddStiSt _ _ => .range 26 34
  | .fmulStiSt _ _ => .range 29 57
  | .reservedDCrD0toDF _ _ => .notGiven
  | .fsubrStiSt _ _ => .range 26 34
  | .fsubStiSt _ _ => .range 26 34
  | .fdivrStiSt _ _ => .notGiven
  | .fdivStiSt _ _ => .notGiven
  | .fldDoubleReal _ _ => .range 25 25
  | .reservedDDmem1 _ _ => .notGiven
  | .fstDoubleReal _ _ => .range 45 45
  | .fstpDoubleReal _ _ => .range 45 45
  | .frstor _ _ => .range 308 308
  | .reservedDDmem5 _ _ => .notGiven
  | .fsave _ _ => .range 375 376
  | .fstsw _ _ => .range 15 15
  | .ffreeSti _ _ => .range 18 18
  | .reservedDDrC8toCF _ _ => .notGiven
  | .fstSti _ _ => .notGiven
  | .fstpSti _ _ => .range 12 12
  | .fucomSti _ _ => .notGiven
  | .fucompSti _ _ => .notGiven
  | .reservedDDrF0toFF _ _ => .notGiven
  | .fiaddWordInteger _ _ => .range 71 85
  | .fimulWordInteger _ _ => .range 76 87
  | .ficomWordInteger _ _ => .range 71 75
  | .ficompWordInteger _ _ => .range 71 75
  | .fisubWordInteger _ _ => .range 71 83
  | .fisubrWordInteger _ _ => .range 72 84
  | .fidivWordInteger _ _ => .range 136 140
  | .fidivrWordInteger _ _ => .range 135 141
  | .faddpStiSt _ _ => .range 26 34
  | .fmulpStiSt _ _ => .range 29 57
  | .reservedDErD0toD7 _ _ => .notGiven
  | .reservedDErD8 _ => .notGiven
  | .fcompp _ => .range 26 26
  | .reservedDErDAtoDB _ _ => .notGiven
  | .reservedDErDCtoDF _ _ => .notGiven
  | .fsubrpStiSt _ _ => .range 26 34
  | .fsubpStiSt _ _ => .range 26 34
  | .fdivrpStiSt _ _ => .notGiven
  | .fdivpStiSt _ _ => .notGiven
  | .fildWordInteger _ _ => .range 61 65
  | .reservedDFmem1 _ _ => .notGiven
  | .fistWordInteger _ _ => .range 82 95
  | .fistpWordInteger _ _ => .range 82 95
  | .fbldPackedDecimal _ _ => .range 266 275
  | .fildLongInteger _ _ => .range 56 67
  | .fbstpPackedDecimal _ _ => .range 512 534
  | .fistpLongInteger _ _ => .range 80 97
  | .reservedDFrC0toDF _ _ => .notGiven
  | .fstswAx _ => .range 13 13
  | .reservedDFrE1 _ => .notGiven
  | .reservedDFrE2toE3 _ _ => .notGiven
  | .reservedDFrE4toE7 _ _ => .notGiven
  | .reservedDFrE8toEF _ _ => .notGiven
  | .reservedDFrF0toFF _ _ => .notGiven
  | .wait _ => .notGiven

/-- One clock more for a memory operand with both a base and an index register (R430). -/
def MemArg.extraClocks : MemArg → Nat
  | .a16 .bxSi _ => 1
  | .a16 .bxDi _ => 1
  | .a16 .bpSi _ => 1
  | .a16 .bpDi _ => 1
  | .sib _ (some _) _ _ => 1
  | _ => 0

/-- Clocks added when FLD loads a single- or double-precision zero from memory (R430, note a). -/
def zeroLoadClocks : Nat := 5

/-- The most clocks added to FPTAN for an operand outside |x| < pi/4 (R430, note j). -/
def reductionClocks : Nat := 76

end Sys2Proof
end

