-- ==== Sys2Proof/Tests/Slice0.lean ====
section
/-! SUPPORT. Tests: the checks of WellFormed, words written out from the encoding tables of the spec, vectors of spec
file 95 (each named in its test), and for every statement of Certificates/Slice0/Obligations.lean a state and operands
that meet its hypotheses. -/

set_option Elab.async false

namespace Sys2Proof.Tests

open Sys2Proof.Machine

/-! ### WellFormed refuses an ill-formed term for each of its checks -/

theorem test_wf_accepts : (Instr.faddSingleReal [.seg .fs] (.sib .x4 (some .ecx) .ebp (.byte 8))).wf .s32 = true := by decide

/-- Sixteen bytes (R101, assumption 30): ten prefixes, two opcode bytes, four displacement bytes. -/
theorem test_wf_length : (Instr.faddSingleReal (List.replicate 10 .opSize) (.direct32 0)).wf .s32 = false := by decide

/-- Fifteen bytes are a legal length. -/
theorem test_wf_longest : (Instr.faddSingleReal (List.replicate 9 .opSize) (.direct32 0)).wf .s32 = true := by decide

theorem test_wf_bp_disp : (Instr.faddSingleReal [] (.a16 .bp .none)).wf .s16 = false := by decide

theorem test_wf_ebp_disp : (Instr.faddSingleReal [] (.a32 .ebp .none)).wf .s32 = false := by decide

theorem test_wf_ebp_base : (Instr.faddSingleReal [] (.sib .x1 none .ebp .none)).wf .s32 = false := by decide

theorem test_wf_esp_needs_sib : (Instr.faddSingleReal [] (.a32 .esp .none)).wf .s32 = false := by decide

theorem test_wf_esp_no_index : (Instr.faddSingleReal [] (.sib .x1 (some .esp) .eax .none)).wf .s32 = false := by decide

theorem test_wf_esp_no_index_without_base : (Instr.faddSingleReal [] (.sibNoBase .x1 (some .esp) 0)).wf .s32 = false := by
  decide

theorem test_wf_address_size : (Instr.faddSingleReal [] (.a16 .bx .none)).wf .s32 = false := by decide

/-! ### Words written out from the encoding tables (R112 to R124) -/

/-- A byte sequence that is exactly one instruction, in a 32-bit segment. -/
def reads (bs : List Byte) (i : Instr) : Bool :=
  match decode .s32 bs with
  | .ok (j, []) => decide (j = i)
  | _ => false

/-- The rows of D8H, with the operand DS:12345678H or an index in the low bits. -/
def words_d8 : List (List Byte × Instr) := [
  ([0xD8, 0x05, 0x78, 0x56, 0x34, 0x12], .faddSingleReal [] (.direct32 0x12345678)),
  ([0xD8, 0x0D, 0x78, 0x56, 0x34, 0x12], .fmulSingleReal [] (.direct32 0x12345678)),
  ([0xD8, 0x15, 0x78, 0x56, 0x34, 0x12], .fcomSingleReal [] (.direct32 0x12345678)),
  ([0xD8, 0x1D, 0x78, 0x56, 0x34, 0x12], .fcompSingleReal [] (.direct32 0x12345678)),
  ([0xD8, 0x25, 0x78, 0x56, 0x34, 0x12], .fsubSingleReal [] (.direct32 0x12345678)),
  ([0xD8, 0x2D, 0x78, 0x56, 0x34, 0x12], .fsubrSingleReal [] (.direct32 0x12345678)),
  ([0xD8, 0x35, 0x78, 0x56, 0x34, 0x12], .fdivSingleReal [] (.direct32 0x12345678)),
  ([0xD8, 0x3D, 0x78, 0x56, 0x34, 0x12], .fdivrSingleReal [] (.direct32 0x12345678)),
  ([0xD8, 0xC5], .faddStSti [] 5),
  ([0xD8, 0xCD], .fmulStSti [] 5),
  ([0xD8, 0xD5], .fcomSti [] 5),
  ([0xD8, 0xDD], .fcompSti [] 5),
  ([0xD8, 0xE5], .fsubStSti [] 5),
  ([0xD8, 0xED], .fsubrStSti [] 5),
  ([0xD8, 0xF5], .fdivStSti [] 5),
  ([0xD8, 0xFD], .fdivrStSti [] 5)]

theorem test_decode_d8 : words_d8.all (fun p => reads p.1 p.2) = true := by decide +kernel

/-- The rows of D9H, with the operand DS:12345678H or an index in the low bits. -/
def words_d9 : List (List Byte × Instr) := [
  ([0xD9, 0x05, 0x78, 0x56, 0x34, 0x12], .fldSingleReal [] (.direct32 0x12345678)),
  ([0xD9, 0x0D, 0x78, 0x56, 0x34, 0x12], .reservedD9mem1 [] (.direct32 0x12345678)),
  ([0xD9, 0x15, 0x78, 0x56, 0x34, 0x12], .fstSingleReal [] (.direct32 0x12345678)),
  ([0xD9, 0x1D, 0x78, 0x56, 0x34, 0x12], .fstpSingleReal [] (.direct32 0x12345678)),
  ([0xD9, 0x25, 0x78, 0x56, 0x34, 0x12], .fldenv [] (.direct32 0x12345678)),
  ([0xD9, 0x2D, 0x78, 0x56, 0x34, 0x12], .fldcw [] (.direct32 0x12345678)),
  ([0xD9, 0x35, 0x78, 0x56, 0x34, 0x12], .fstenv [] (.direct32 0x12345678)),
  ([0xD9, 0x3D, 0x78, 0x56, 0x34, 0x12], .fstcw [] (.direct32 0x12345678)),
  ([0xD9, 0xC5], .fldSti [] 5),
  ([0xD9, 0xCD], .fxchSti [] 5),
  ([0xD9, 0xD0], .fnop []),
  ([0xD9, 0xD1], .reservedD9rD1 []),
  ([0xD9, 0xD3], .reservedD9rD2toD3 [] 1),
  ([0xD9, 0xD6], .reservedD9rD4toD7 [] 2),
  ([0xD9, 0xDD], .reservedD9rD8toDF [] 5),
  ([0xD9, 0xE0], .fchs []),
  ([0xD9, 0xE1], .fabs []),
  ([0xD9, 0xE2], .reservedD9rE2 []),
  ([0xD9, 0xE3], .reservedD9rE3 []),
  ([0xD9, 0xE4], .ftst []),
  ([0xD9, 0xE5], .fxam []),
  ([0xD9, 0xE6], .reservedD9rE6 []),
  ([0xD9, 0xE7], .reservedD9rE7 []),
  ([0xD9, 0xE8], .fld1 []),
  ([0xD9, 0xE9], .fldl2t []),
  ([0xD9, 0xEA], .fldl2e []),
  ([0xD9, 0xEB], .fldpi []),
  ([0xD9, 0xEC], .fldlg2 []),
  ([0xD9, 0xED], .fldln2 []),
  ([0xD9, 0xEE], .fldz []),
  ([0xD9, 0xEF], .reservedD9rEF []),
  ([0xD9, 0xF0], .f2xm1 []),
  ([0xD9, 0xF1], .fyl2x []),
  ([0xD9, 0xF2], .fptan []),
  ([0xD9, 0xF3], .fpatan []),
  ([0xD9, 0xF4], .fxtract []),
  ([0xD9, 0xF5], .fprem1 []),
  ([0xD9, 0xF6], .fdecstp []),
  ([0xD9, 0xF7], .fincstp []),
  ([0xD9, 0xF8], .fprem []),
  ([0xD9, 0xF9], .fyl2xp1 []),
  ([0xD9, 0xFA], .fsqrt []),
  ([0xD9, 0xFB], .fsincos []),
  ([0xD9, 0xFC], .frndint []),
  ([0xD9, 0xFD], .fscale []),
  ([0xD9, 0xFE], .fsin []),
  ([0xD9, 0xFF], .fcos [])]

theorem test_decode_d9 : words_d9.all (fun p => reads p.1 p.2) = true := by decide +kernel

/-- The rows of DAH, with the operand DS:12345678H or an index in the low bits. -/
def words_da : List (List Byte × Instr) := [
  ([0xDA, 0x05, 0x78, 0x56, 0x34, 0x12], .fiaddShortInteger [] (.direct32 0x12345678)),
  ([0xDA, 0x0D, 0x78, 0x56, 0x34, 0x12], .fimulShortInteger [] (.direct32 0x12345678)),
  ([0xDA, 0x15, 0x78, 0x56, 0x34, 0x12], .ficomShortInteger [] (.direct32 0x12345678)),
  ([0xDA, 0x1D, 0x78, 0x56, 0x34, 0x12], .ficompShortInteger [] (.direct32 0x12345678)),
  ([0xDA, 0x25, 0x78, 0x56, 0x34, 0x12], .fisubShortInteger [] (.direct32 0x12345678)),
  ([0xDA, 0x2D, 0x78, 0x56, 0x34, 0x12], .fisubrShortInteger [] (.direct32 0x12345678)),
  ([0xDA, 0x35, 0x78, 0x56, 0x34, 0x12], .fidivShortInteger [] (.direct32 0x12345678)),
  ([0xDA, 0x3D, 0x78, 0x56, 0x34, 0x12], .fidivrShortInteger [] (.direct32 0x12345678)),
  ([0xDA, 0xD5], .reservedDArC0toDF [] 21),
  ([0xDA, 0xE5], .reservedDArE0toE7 [] 5),
  ([0xDA, 0xE8], .reservedDArE8 []),
  ([0xDA, 0xE9], .fucompp []),
  ([0xDA, 0xEB], .reservedDArEAtoEB [] 1),
  ([0xDA, 0xEE], .reservedDArECtoEF [] 2),
  ([0xDA, 0xFB], .reservedDArF0toFF [] 11)]

theorem test_decode_da : words_da.all (fun p => reads p.1 p.2) = true := by decide +kernel

/-- The rows of DBH, with the operand DS:12345678H or an index in the low bits. -/
def words_db : List (List Byte × Instr) := [
  ([0xDB, 0x05, 0x78, 0x56, 0x34, 0x12], .fildShortInteger [] (.direct32 0x12345678)),
  ([0xDB, 0x0D, 0x78, 0x56, 0x34, 0x12], .reservedDBmem1 [] (.direct32 0x12345678)),
  ([0xDB, 0x15, 0x78, 0x56, 0x34, 0x12], .fistShortInteger [] (.direct32 0x12345678)),
  ([0xDB, 0x1D, 0x78, 0x56, 0x34, 0x12], .fistpShortInteger [] (.direct32 0x12345678)),
  ([0xDB, 0x25, 0x78, 0x56, 0x34, 0x12], .reservedDBmem4 [] (.direct32 0x12345678)),
  ([0xDB, 0x2D, 0x78, 0x56, 0x34, 0x12], .fldExtendedReal [] (.direct32 0x12345678)),
  ([0xDB, 0x35, 0x78, 0x56, 0x34, 0x12], .reservedDBmem6 [] (.direct32 0x12345678)),
  ([0xDB, 0x3D, 0x78, 0x56, 0x34, 0x12], .fstpExtendedReal [] (.direct32 0x12345678)),
  ([0xDB, 0xD5], .reservedDBrC0toDF [] 21),
  ([0xDB, 0xE0], .feni []),
  ([0xDB, 0xE1], .fdisi []),
  ([0xDB, 0xE2], .fclex []),
  ([0xDB, 0xE3], .finit []),
  ([0xDB, 0xE4], .fsetpm []),
  ([0xDB, 0xE5], .reservedDBrE5 []),
  ([0xDB, 0xE7], .reservedDBrE6toE7 [] 1),
  ([0xDB, 0xED], .reservedDBrE8toEF [] 5),
  ([0xDB, 0xFB], .reservedDBrF0toFF [] 11)]

theorem test_decode_db : words_db.all (fun p => reads p.1 p.2) = true := by decide +kernel

/-- The rows of DCH, with the operand DS:12345678H or an index in the low bits. -/
def words_dc : List (List Byte × Instr) := [
  ([0xDC, 0x05, 0x78, 0x56, 0x34, 0x12], .faddDoubleReal [] (.direct32 0x12345678)),
  ([0xDC, 0x0D, 0x78, 0x56, 0x34, 0x12], .fmulDoubleReal [] (.direct32 0x12345678)),
  ([0xDC, 0x15, 0x78, 0x56, 0x34, 0x12], .fcomDoubleReal [] (.direct32 0x12345678)),
  ([0xDC, 0x1D, 0x78, 0x56, 0x34, 0x12], .fcompDoubleReal [] (.direct32 0x12345678)),
  ([0xDC, 0x25, 0x78, 0x56, 0x34, 0x12], .fsubDoubleReal [] (.direct32 0x12345678)),
  ([0xDC, 0x2D, 0x78, 0x56, 0x34, 0x12], .fsubrDoubleReal [] (.direct32 0x12345678)),
  ([0xDC, 0x35, 0x78, 0x56, 0x34, 0x12], .fdivDoubleReal [] (.direct32 0x12345678)),
  ([0xDC, 0x3D, 0x78, 0x56, 0x34, 0x12], .fdivrDoubleReal [] (.direct32 0x12345678)),
  ([0xDC, 0xC5], .faddStiSt [] 5),
  ([0xDC, 0xCD], .fmulStiSt [] 5),
  ([0xDC, 0xDB], .reservedDCrD0toDF [] 11),
  ([0xDC, 0xE5], .fsubrStiSt [] 5),
  ([0xDC, 0xED], .fsubStiSt [] 5),
  ([0xDC, 0xF5], .fdivrStiSt [] 5),
  ([0xDC, 0xFD], .fdivStiSt [] 5)]

theorem test_decode_dc : words_dc.all (fun p => reads p.1 p.2) = true := by decide +kernel

/-- The rows of DDH, with the operand DS:12345678H or an index in the low bits. -/
def words_dd : List (List Byte × Instr) := [
  ([0xDD, 0x05, 0x78, 0x56, 0x34, 0x12], .fldDoubleReal [] (.direct32 0x12345678)),
  ([0xDD, 0x0D, 0x78, 0x56, 0x34, 0x12], .reservedDDmem1 [] (.direct32 0x12345678)),
  ([0xDD, 0x15, 0x78, 0x56, 0x34, 0x12], .fstDoubleReal [] (.direct32 0x12345678)),
  ([0xDD, 0x1D, 0x78, 0x56, 0x34, 0x12], .fstpDoubleReal [] (.direct32 0x12345678)),
  ([0xDD, 0x25, 0x78, 0x56, 0x34, 0x12], .frstor [] (.direct32 0x12345678)),
  ([0xDD, 0x2D, 0x78, 0x56, 0x34, 0x12], .reservedDDmem5 [] (.direct32 0x12345678)),
  ([0xDD, 0x35, 0x78, 0x56, 0x34, 0x12], .fsave [] (.direct32 0x12345678)),
  ([0xDD, 0x3D, 0x78, 0x56, 0x34, 0x12], .fstsw [] (.direct32 0x12345678)),
  ([0xDD, 0xC5], .ffreeSti [] 5),
  ([0xDD, 0xCD], .reservedDDrC8toCF [] 5),
  ([0xDD, 0xD5], .fstSti [] 5),
  ([0xDD, 0xDD], .fstpSti [] 5),
  ([0xDD, 0xE5], .fucomSti [] 5),
  ([0xDD, 0xED], .fucompSti [] 5),
  ([0xDD, 0xFB], .reservedDDrF0toFF [] 11)]

theorem test_decode_dd : words_dd.all (fun p => reads p.1 p.2) = true := by decide +kernel

/-- The rows of DEH, with the operand DS:12345678H or an index in the low bits. -/
def words_de : List (List Byte × Instr) := [
  ([0xDE, 0x05, 0x78, 0x56, 0x34, 0x12], .fiaddWordInteger [] (.direct32 0x12345678)),
  ([0xDE, 0x0D, 0x78, 0x56, 0x34, 0x12], .fimulWordInteger [] (.direct32 0x12345678)),
  ([0xDE, 0x15, 0x78, 0x56, 0x34, 0x12], .ficomWordInteger [] (.direct32 0x12345678)),
  ([0xDE, 0x1D, 0x78, 0x56, 0x34, 0x12], .ficompWordInteger [] (.direct32 0x12345678)),
  ([0xDE, 0x25, 0x78, 0x56, 0x34, 0x12], .fisubWordInteger [] (.direct32 0x12345678)),
  ([0xDE, 0x2D, 0x78, 0x56, 0x34, 0x12], .fisubrWordInteger [] (.direct32 0x12345678)),
  ([0xDE, 0x35, 0x78, 0x56, 0x34, 0x12], .fidivWordInteger [] (.direct32 0x12345678)),
  ([0xDE, 0x3D, 0x78, 0x56, 0x34, 0x12], .fidivrWordInteger [] (.direct32 0x12345678)),
  ([0xDE, 0xC5], .faddpStiSt [] 5),
  ([0xDE, 0xCD], .fmulpStiSt [] 5),
  ([0xDE, 0xD5], .reservedDErD0toD7 [] 5),
  ([0xDE, 0xD8], .reservedDErD8 []),
  ([0xDE, 0xD9], .fcompp []),
  ([0xDE, 0xDB], .reservedDErDAtoDB [] 1),
  ([0xDE, 0xDE], .reservedDErDCtoDF [] 2),
  ([0xDE, 0xE5], .fsubrpStiSt [] 5),
  ([0xDE, 0xED], .fsubpStiSt [] 5),
  ([0xDE, 0xF5], .fdivrpStiSt [] 5),
  ([0xDE, 0xFD], .fdivpStiSt [] 5)]

theorem test_decode_de : words_de.all (fun p => reads p.1 p.2) = true := by decide +kernel

/-- The rows of DFH, with the operand DS:12345678H or an index in the low bits. -/
def words_df : List (List Byte × Instr) := [
  ([0xDF, 0x05, 0x78, 0x56, 0x34, 0x12], .fildWordInteger [] (.direct32 0x12345678)),
  ([0xDF, 0x0D, 0x78, 0x56, 0x34, 0x12], .reservedDFmem1 [] (.direct32 0x12345678)),
  ([0xDF, 0x15, 0x78, 0x56, 0x34, 0x12], .fistWordInteger [] (.direct32 0x12345678)),
  ([0xDF, 0x1D, 0x78, 0x56, 0x34, 0x12], .fistpWordInteger [] (.direct32 0x12345678)),
  ([0xDF, 0x25, 0x78, 0x56, 0x34, 0x12], .fbldPackedDecimal [] (.direct32 0x12345678)),
  ([0xDF, 0x2D, 0x78, 0x56, 0x34, 0x12], .fildLongInteger [] (.direct32 0x12345678)),
  ([0xDF, 0x35, 0x78, 0x56, 0x34, 0x12], .fbstpPackedDecimal [] (.direct32 0x12345678)),
  ([0xDF, 0x3D, 0x78, 0x56, 0x34, 0x12], .fistpLongInteger [] (.direct32 0x12345678)),
  ([0xDF, 0xD5], .reservedDFrC0toDF [] 21),
  ([0xDF, 0xE0], .fstswAx []),
  ([0xDF, 0xE1], .reservedDFrE1 []),
  ([0xDF, 0xE3], .reservedDFrE2toE3 [] 1),
  ([0xDF, 0xE6], .reservedDFrE4toE7 [] 2),
  ([0xDF, 0xED], .reservedDFrE8toEF [] 5),
  ([0xDF, 0xFB], .reservedDFrF0toFF [] 11)]

theorem test_decode_df : words_df.all (fun p => reads p.1 p.2) = true := by decide +kernel

/-- The word of WAIT. -/
def words_wait : List (List Byte × Instr) := [
  ([0x9B], .wait [])]

theorem test_decode_wait : words_wait.all (fun p => reads p.1 p.2) = true := by decide +kernel

/-- All rows of the opcode table, one instruction each. -/
def samples : List Instr :=
  (words_d8 ++ words_d9 ++ words_da ++ words_db ++ words_dc ++ words_dd ++ words_de ++ words_df ++ words_wait).map fun p => p.2

theorem test_samples_cover_the_table : samples.length = 161 := by decide +kernel

/-- The addressing forms (R108 to R110), and the prefixes (R106). -/
theorem test_decode_addressing :
    reads [0xD9, 0x03] (.fldSingleReal [] (.a32 .ebx .none)) = true ∧
    reads [0xD9, 0x46, 0xFC] (.fldSingleReal [] (.a32 .esi (.byte 0xFC))) = true ∧
    reads [0xD9, 0x85, 4, 3, 2, 1] (.fldSingleReal [] (.a32 .ebp (.full 0x01020304))) = true ∧
    reads [0xD9, 0x04, 0x24] (.fldSingleReal [] (.sib .x1 none .esp .none)) = true ∧
    reads [0xD9, 0x44, 0x8D, 0x10] (.fldSingleReal [] (.sib .x4 (some .ecx) .ebp (.byte 0x10))) = true ∧
    reads [0xD9, 0x04, 0xFD, 4, 3, 2, 1] (.fldSingleReal [] (.sibNoBase .x8 (some .edi) 0x01020304)) = true ∧
    reads [0x67, 0xD9, 0x42, 0x05] (.fldSingleReal [.addrSize] (.a16 .bpSi (.byte 5))) = true ∧
    reads [0x67, 0xD9, 0x06, 0x34, 0x12] (.fldSingleReal [.addrSize] (.direct16 0x1234)) = true ∧
    reads [0x66, 0x26, 0x64, 0xD9, 0xE8] (.fld1 [.opSize, .seg .es, .seg .fs]) = true := by decide +kernel

theorem test_decode_refuses :
    (match decode .s32 [0xF0, 0xD9, 0xE8] with | .error _ => true | .ok _ => false) = true ∧
    (match decode .s32 [0x90] with | .error _ => true | .ok _ => false) = true ∧
    (match decode .s32 [0xD9, 0x05, 0, 0] with | .error _ => true | .ok _ => false) = true := by decide +kernel

/-! ### The vectors of spec file 95 -/

/-- A segment of limit FFFFFFFFH and base zero. -/
def flat (sel : BitVec 16) : Segment := ⟨sel, 0, [⟨0, 0xFFFFFFFF⟩]⟩

/-- The state file 95 starts from: protected mode, 32-bit attributes, CS = 8, the other selectors 10H, EIP = 1000H. -/
def calm : State :=
  { State.reset with
    npx := resetNpx.init
    cpu := { resetCpu with
      segs := ⟨flat 0x10, flat 8, flat 0x10, flat 0x10, flat 0x10, flat 0x10⟩
      eip := 0x1000, mode := .protectedMode, operandSize := .s32, addressSize := .s32 } }

/-- The registers of a list are nonempty, the others empty. -/
def npxOf (top : BitVec 3) (cw : BitVec 16) (sw : BitVec 16) (regs : List (Nat × Ext)) : Npx where
  regs := Vector.ofFn fun k => (regs.lookup k.val).getD 0
  empty := Vector.ofFn fun k => (regs.lookup k.val).isNone
  sw := { loadStatus sw with top := top }
  cw := cw

/-- The state of a vector: code at 1000H, data at 2000H. -/
def machine (code : List Byte) (n : Npx) (data : List Byte := []) : State :=
  { calm with
    npx := n
    mem := (Memory.writeBytes [] (fetchAddresses 0 0x1000 code.length) code).writeBytes
      (fetchAddresses 0 0x2000 data.length) data }

/-- The state after one step, or the same state when the machine stops. -/
def ran (s : State) : State :=
  match step s with
  | .next t => t
  | _ => s

/-- The defined bits of the status word after an instruction that leaves C3, C2 and C0 undefined. -/
def status (t : State) (top : BitVec 3) (c1 sf : Bool) (flags : BitVec 6) : Bool :=
  t.npx.sw.top == top && t.npx.sw.c1 == c1 && t.npx.sw.sf == sf && t.npx.sw.flags == flags

/-- The bytes at 2000H. -/
def data (t : State) (n : Nat) : List Byte := (fetchAddresses 0 0x2000 n).map t.mem.read

/-- Vector D1. -/
theorem test_fldSingleReal :
    let t := ran (machine [0xD9, 0x05, 0x00, 0x20, 0x00, 0x00] (npxOf 0 0x37F 0x0 []) [0x00, 0x00, 0x80, 0x3F])
    t.npx.sw.top = 7 ∧ t.npx.reg 7 = 0x3FFF8000000000000000 ∧ t.npx.tagWord = 0x3FFF ∧
    status t 7 false false 0x0 = true ∧ t.ptrs.fip = 0x1000 ∧ t.ptrs.fcs = 0x8 ∧ t.ptrs.fdp = 0x2000 ∧
    t.ptrs.fds = 0x10 ∧ t.ptrs.fop = 0x105 := by
  decide +kernel

/-- Vector D2. -/
theorem test_fldSingleReal_2 :
    let t := ran (machine [0xD9, 0x05, 0x00, 0x20, 0x00, 0x00] (npxOf 0 0x37F 0x0 []) [0x01, 0x00, 0x00, 0x00])
    t.npx.reg 7 = 0x3F6A8000000000000000 ∧ status t 7 false false 0x2 = true := by
  decide +kernel

/-- Vector D6. -/
theorem test_fldDoubleReal :
    let t := ran (machine [0xDD, 0x05, 0x00, 0x20, 0x00, 0x00] (npxOf 0 0x37F 0x0 []) [0x9A, 0x99, 0x99, 0x99, 0x99,
      0x99, 0xB9, 0x3F])
    t.npx.reg 7 = 0x3FFBCCCCCCCCCCCCD000 ∧ status t 7 false false 0x0 = true ∧ t.ptrs.fop = 0x505 := by
  decide +kernel

/-- Vector D7. -/
theorem test_fldDoubleReal_2 :
    let t := ran (machine [0xDD, 0x05, 0x00, 0x20, 0x00, 0x00] (npxOf 0 0x37F 0x0 []) [0x00, 0x00, 0x00, 0x00, 0x00,
      0x00, 0xF0, 0xFF])
    t.npx.reg 7 = 0xFFFF8000000000000000 ∧ status t 7 false false 0x0 = true := by
  decide +kernel

/-- Vector D9. -/
theorem test_fldExtendedReal :
    let t := ran (machine [0xDB, 0x2D, 0x00, 0x20, 0x00, 0x00] (npxOf 0 0x37F 0x0 []) [0x01, 0x00, 0x00, 0x00, 0x00,
      0x00, 0x00, 0x00, 0xFF, 0x3F])
    t.npx.reg 7 = 0x3FFF0000000000000001 ∧ status t 7 false false 0x0 = true ∧ t.npx.tagWord = 0xBFFF ∧
    t.ptrs.fop = 0x32D := by
  decide +kernel

/-- Vector D10. -/
theorem test_faddStSti :
    let t := ran (machine [0xD8, 0xC0] (npxOf 7 0x37F 0x0 [(7, 0x3FFF0000000000000001)]))
    t.npx.reg 7 = 0xFFFFC000000000000000 ∧ status t 7 false false 0x1 = true := by
  decide +kernel

/-- Vector D11. -/
theorem test_fldSti :
    let t := ran (machine [0xD9, 0xC1] (npxOf 6 0x37F 0x0 [(6, 0x40008000000000000000), (7, 0x3FFF8000000000000000)]))
    t.npx.sw.top = 5 ∧ t.npx.reg 5 = 0x3FFF8000000000000000 ∧ t.npx.tagWord = 0x3FF := by
  decide +kernel

/-- Vector D12. -/
theorem test_fldSti_2 :
    let t := ran (machine [0xD9, 0xC0] (npxOf 0 0x37F 0x0 []))
    t.npx.sw.top = 7 ∧ t.npx.reg 7 = 0xFFFFC000000000000000 ∧ status t 7 false true 0x1 = true := by
  decide +kernel

/-- Vector D13. -/
theorem test_fstDoubleReal :
    let t := ran (machine [0xDD, 0x15, 0x00, 0x20, 0x00, 0x00] (npxOf 7 0x37F 0x0 [(7, 0x4000C90FDAA22168C235)]))
    data t 8 = [0x18, 0x2D, 0x44, 0x54, 0xFB, 0x21, 0x09, 0x40] ∧ status t 7 false false 0x20 = true ∧
    t.npx.reg 7 = 0x4000C90FDAA22168C235 := by
  decide +kernel

/-- Vector D14. -/
theorem test_fstpDoubleReal :
    let t := ran (machine [0xDD, 0x1D, 0x00, 0x20, 0x00, 0x00] (npxOf 7 0x37F 0x0 [(7, 0x3FFDAAAAAAAAAAAAAAAB)]))
    data t 8 = [0x55, 0x55, 0x55, 0x55, 0x55, 0x55, 0xD5, 0x3F] ∧ status t 0 false false 0x20 = true ∧
    t.npx.tagWord = 0xFFFF := by
  decide +kernel

/-- Vector D15. -/
theorem test_fstSingleReal :
    let t := ran (machine [0xD9, 0x15, 0x00, 0x20, 0x00, 0x00] (npxOf 7 0x37F 0x0 [(7, 0x407F8000000000000000)]))
    data t 4 = [0x00, 0x00, 0x80, 0x7F] ∧ status t 7 true false 0x28 = true := by
  decide +kernel

/-- Vector D16. -/
theorem test_fstSingleReal_2 :
    let t := ran (machine [0xD9, 0x15, 0x00, 0x20, 0x00, 0x00] (npxOf 7 0xF7F 0x0 [(7, 0x407F8000000000000000)]))
    data t 4 = [0xFF, 0xFF, 0x7F, 0x7F] ∧ status t 7 false false 0x28 = true := by
  decide +kernel

/-- Vector D17. -/
theorem test_fstpSingleReal :
    let t := ran (machine [0xD9, 0x1D, 0x00, 0x20, 0x00, 0x00] (npxOf 7 0x377 0x0 [(7,
      0x407F8000000000000000)]) [0xAA, 0xBB, 0xCC, 0xDD])
    data t 4 = [0xAA, 0xBB, 0xCC, 0xDD] ∧ status t 7 false false 0x8 = true ∧ t.npx.reg 7 = 0x407F8000000000000000 ∧
    t.npx.tagWord = 0x3FFF := by
  decide +kernel

/-- Vector D21. -/
theorem test_fistWordInteger :
    let t := ran (machine [0xDF, 0x15, 0x00, 0x20, 0x00, 0x00] (npxOf 7 0x37F 0x0 [(7, 0x4000A000000000000000)]))
    data t 2 = [0x02, 0x00] ∧ status t 7 false false 0x20 = true := by
  decide +kernel

/-- Vector D22. -/
theorem test_fistWordInteger_2 :
    let t := ran (machine [0xDF, 0x15, 0x00, 0x20, 0x00, 0x00] (npxOf 7 0xB7F 0x0 [(7, 0x4000A000000000000000)]))
    data t 2 = [0x03, 0x00] ∧ status t 7 true false 0x20 = true := by
  decide +kernel

/-- Vector D26. -/
theorem test_fistShortInteger :
    let t := ran (machine [0xDB, 0x15, 0x00, 0x20, 0x00, 0x00] (npxOf 7 0x37F 0x0 [(7, 0x400DFFFF000000000000)]))
    data t 4 = [0x00, 0x80, 0x00, 0x00] ∧ status t 7 true false 0x20 = true := by
  decide +kernel

/-- Vector D27. -/
theorem test_fistpLongInteger :
    let t := ran (machine [0xDF, 0x3D, 0x00, 0x20, 0x00, 0x00] (npxOf 7 0x37F 0x0 [(7, 0x403E8000000000000000)]))
    data t 8 = [0x00, 0x00, 0x00, 0x00, 0x00, 0x00, 0x00, 0x80] ∧ status t 0 false false 0x1 = true := by
  decide +kernel

/-- Vector D28. -/
theorem test_fistpLongInteger_2 :
    let t := ran (machine [0xDF, 0x3D, 0x00, 0x20, 0x00, 0x00] (npxOf 7 0x37F 0x0 [(7, 0x403DFFFFFFFFFFFFFFFE)]))
    data t 8 = [0xFF, 0xFF, 0xFF, 0xFF, 0xFF, 0xFF, 0xFF, 0x7F] ∧ status t 0 false false 0x0 = true := by
  decide +kernel

/-- Vector D29. -/
theorem test_fistpShortInteger :
    let t := ran (machine [0xDB, 0x1D, 0x00, 0x20, 0x00, 0x00] (npxOf 7 0x37F 0x0 [(7, 0x7FFFC000000000000000)]))
    data t 4 = [0x00, 0x00, 0x00, 0x80] ∧ status t 0 false false 0x1 = true := by
  decide +kernel

/-- Vector D30. -/
theorem test_fildWordInteger :
    let t := ran (machine [0xDF, 0x05, 0x00, 0x20, 0x00, 0x00] (npxOf 0 0x37F 0x0 []) [0x00, 0x80])
    t.npx.reg 7 = 0xC00E8000000000000000 ∧ t.ptrs.fop = 0x705 ∧ status t 7 false false 0x0 = true := by
  decide +kernel

/-- Vector D31. -/
theorem test_fildShortInteger :
    let t := ran (machine [0xDB, 0x05, 0x00, 0x20, 0x00, 0x00] (npxOf 0 0x37F 0x0 []) [0xFF, 0xFF, 0xFF, 0xFF])
    t.npx.reg 7 = 0xBFFF8000000000000000 := by
  decide +kernel

/-- Vector D32. -/
theorem test_fildLongInteger :
    let t := ran (machine [0xDF, 0x2D, 0x00, 0x20, 0x00, 0x00] (npxOf 0 0x37F 0x0 []) [0xFF, 0xFF, 0xFF, 0xFF, 0xFF,
      0xFF, 0xFF, 0x7F])
    t.npx.reg 7 = 0x403DFFFFFFFFFFFFFFFE := by
  decide +kernel

/-- Vector D33. -/
theorem test_fildWordInteger_2 :
    let t := ran (machine [0xDF, 0x05, 0x00, 0x20, 0x00, 0x00] (npxOf 0 0x37F 0x0 []) [0x00, 0x00])
    t.npx.reg 7 = 0x0 ∧ t.npx.tagWord = 0x7FFF := by
  decide +kernel

/-- Vector D34. -/
theorem test_fbldPackedDecimal :
    let t := ran (machine [0xDF, 0x25, 0x00, 0x20, 0x00, 0x00] (npxOf 0 0x37F 0x0 []) [0x99, 0x99, 0x99, 0x99, 0x99,
      0x99, 0x99, 0x99, 0x99, 0x00])
    t.npx.reg 7 = 0x403ADE0B6B3A763FFFF0 := by
  decide +kernel

/-- Vector D35. -/
theorem test_fbldPackedDecimal_2 :
    let t := ran (machine [0xDF, 0x25, 0x00, 0x20, 0x00, 0x00] (npxOf 0 0x37F 0x0 []) [0x45, 0x23, 0x01, 0x00, 0x00,
      0x00, 0x00, 0x00, 0x00, 0x80])
    t.npx.reg 7 = 0xC00CC0E4000000000000 := by
  decide +kernel

/-- Vector D36. -/
theorem test_fbstpPackedDecimal :
    let t := ran (machine [0xDF, 0x35, 0x00, 0x20, 0x00, 0x00] (npxOf 7 0x37F 0x0 [(7, 0x400CC0E6666666666666)]))
    data t 10 = [0x46, 0x23, 0x01, 0x00, 0x00, 0x00, 0x00, 0x00, 0x00, 0x00] ∧ status t 0 true false 0x20 = true := by
  decide +kernel

/-- Vector D37. -/
theorem test_fbstpPackedDecimal_2 :
    let t := ran (machine [0xDF, 0x35, 0x00, 0x20, 0x00, 0x00] (npxOf 7 0x37F 0x0 [(7, 0xBFFDCCCCCCCCCCCCCCCD)]))
    data t 10 = [0x00, 0x00, 0x00, 0x00, 0x00, 0x00, 0x00, 0x00, 0x00, 0x80] ∧ status t 0 false false 0x20 = true := by
  decide +kernel

/-- Vector D39. -/
theorem test_fxchSti :
    let t := ran (machine [0xD9, 0xC9] (npxOf 7 0x37F 0x0 [(7, 0x3FFF8000000000000000)]))
    t.npx.reg 7 = 0xFFFFC000000000000000 ∧ t.npx.reg 0 = 0x3FFF8000000000000000 ∧ status t 7 false true 0x1 = true ∧
    t.npx.tagWord = 0xBFFC := by
  decide +kernel

/-- Vector D40. -/
theorem test_fstpSti :
    let t := ran (machine [0xDD, 0xD9] (npxOf 6 0x37F 0x0 [(6, 0x40008000000000000000), (7, 0x3FFF8000000000000000)]))
    t.npx.reg 7 = 0x40008000000000000000 ∧ t.npx.sw.top = 7 ∧ t.npx.tagWord = 0x3FFF := by
  decide +kernel

/-- Vector D41. -/
theorem test_fstpSti_2 :
    let t := ran (machine [0xDD, 0xD8] (npxOf 7 0x37F 0x0 [(7, 0x3FFF8000000000000000)]))
    t.npx.reg 7 = 0x3FFF8000000000000000 ∧ t.npx.sw.top = 0 ∧ t.npx.tagWord = 0xFFFF := by
  decide +kernel

/-- Vector D42. -/
theorem test_fstpExtendedReal :
    let t := ran (machine [0xDB, 0x3D, 0x00, 0x20, 0x00, 0x00] (npxOf 7 0x37F 0x0 [(7, 0x7FFF8000000000000001)]))
    data t 10 = [0x01, 0x00, 0x00, 0x00, 0x00, 0x00, 0x00, 0x80, 0xFF, 0x7F] ∧ status t 0 false false 0x0 = true := by
  decide +kernel

/-- Vector D43. -/
theorem test_fstpExtendedReal_2 :
    let t := ran (machine [0xDB, 0x3D, 0x00, 0x20, 0x00, 0x00] (npxOf 0 0x37F 0x0 []))
    data t 10 = [0x00, 0x00, 0x00, 0x00, 0x00, 0x00, 0x00, 0xC0, 0xFF, 0xFF] ∧ status t 1 false true 0x1 = true := by
  decide +kernel

/-- Vector D44. -/
theorem test_fld1 :
    let t := ran (machine [0xD9, 0xE8] (npxOf 0 0x37F 0x0 [(0, 0x3FFF8000000000000000), (1, 0x3FFF8000000000000000),
      (2, 0x3FFF8000000000000000), (3, 0x3FFF8000000000000000), (4, 0x3FFF8000000000000000), (5,
      0x3FFF8000000000000000), (6, 0x3FFF8000000000000000), (7, 0x3FFF8000000000000000)]))
    t.npx.reg 7 = 0xFFFFC000000000000000 ∧ status t 7 true true 0x1 = true := by
  decide +kernel

/-- Vector D45. -/
theorem test_fld1_2 :
    let t := ran (machine [0xD9, 0xE8] (npxOf 0 0x37E 0x0 [(0, 0x3FFF8000000000000000), (1, 0x3FFF8000000000000000),
      (2, 0x3FFF8000000000000000), (3, 0x3FFF8000000000000000), (4, 0x3FFF8000000000000000), (5,
      0x3FFF8000000000000000), (6, 0x3FFF8000000000000000), (7, 0x3FFF8000000000000000)]))
    t.npx.reg 7 = 0x3FFF8000000000000000 ∧ t.npx.sw.top = 0 ∧ status t 0 true true 0x1 = true := by
  decide +kernel

/-- Vector C1. -/
theorem test_fcomSti :
    let t := ran (machine [0xD8, 0xD1] (npxOf 6 0x37F 0x0 [(6, 0x0), (7, 0x80000000000000000000)]))
    t.npx.statusWord = 0x7000 := by
  decide +kernel

/-- Vector C2. -/
theorem test_fcomSti_2 :
    let t := ran (machine [0xD8, 0xD1] (npxOf 6 0x37F 0x0 [(6, 0x3FFF8000000000000000), (7, 0x40008000000000000000)]))
    t.npx.statusWord = 0x3100 := by
  decide +kernel

/-- Vector C5. -/
theorem test_fucomSti :
    let t := ran (machine [0xDD, 0xE1] (npxOf 6 0x37F 0x0 [(6, 0x3FFF8000000000000000), (7, 0x7FFFC000000000000000)]))
    t.npx.statusWord = 0x7500 := by
  decide +kernel

/-- Vector C6. -/
theorem test_fucomSti_2 :
    let t := ran (machine [0xDD, 0xE1] (npxOf 6 0x37F 0x0 [(6, 0x3FFF8000000000000000), (7, 0x7FFF8000000000000001)]))
    t.npx.statusWord = 0x7501 := by
  decide +kernel

/-- Vector C7. -/
theorem test_fcomSingleReal :
    let t := ran (machine [0xD8, 0x15, 0x00, 0x20, 0x00, 0x00] (npxOf 7 0x37F 0x0 [(7,
      0x3FFF8000000000000000)]) [0x01, 0x00, 0x00, 0x00])
    t.npx.statusWord = 0x3802 := by
  decide +kernel

/-- Vector C8. -/
theorem test_fcompSingleReal :
    let t := ran (machine [0xD8, 0x1D, 0x00, 0x20, 0x00, 0x00] (npxOf 7 0x37F 0x0 [(7,
      0x4000C000000000000000)]) [0x00, 0x00, 0x40, 0x40])
    t.npx.statusWord = 0x4000 ∧ t.npx.tagWord = 0xFFFF := by
  decide +kernel

/-- Vector C9. -/
theorem test_fcompp :
    let t := ran (machine [0xDE, 0xD9] (npxOf 7 0x37F 0x0 [(7, 0x3FFF8000000000000000)]))
    t.npx.statusWord = 0x4D41 ∧ t.npx.tagWord = 0xFFFF := by
  decide +kernel

/-- Vector C10. -/
theorem test_fcompp_2 :
    let t := ran (machine [0xDE, 0xD9] (npxOf 6 0x37F 0x0 [(6, 0xFFFF8000000000000000), (7, 0x7FFF8000000000000000)]))
    t.npx.statusWord = 0x100 := by
  decide +kernel

/-- Vector C11. -/
theorem test_ficompWordInteger :
    let t := ran (machine [0xDE, 0x1D, 0x00, 0x20, 0x00, 0x00] (npxOf 7 0x37F 0x0 [(7,
      0xC00E8000000000000000)]) [0x00, 0x80])
    t.npx.statusWord = 0x4000 := by
  decide +kernel

/-- Vector C12. -/
theorem test_ficomShortInteger :
    let t := ran (machine [0xDA, 0x15, 0x00, 0x20, 0x00, 0x00] (npxOf 7 0x37F 0x0 [(7,
      0x4005C800000000000000)]) [0x05, 0x00, 0x00, 0x00])
    t.npx.statusWord = 0x3800 := by
  decide +kernel

/-- Vector C13. -/
theorem test_ftst :
    let t := ran (machine [0xD9, 0xE4] (npxOf 7 0x37F 0x0 [(7, 0x80000000000000000000)]))
    t.npx.statusWord = 0x7800 := by
  decide +kernel

/-- Vector C14. -/
theorem test_ftst_2 :
    let t := ran (machine [0xD9, 0xE4] (npxOf 7 0x37F 0x0 [(7, 0xFFFF8000000000000000)]))
    t.npx.statusWord = 0x3900 := by
  decide +kernel

/-- Vector C15. -/
theorem test_fucompp :
    let t := ran (machine [0xDA, 0xE9] (npxOf 6 0x37F 0x0 [(6, 0x4001E000000000000000), (7, 0x4001E000000000000000)]))
    t.npx.statusWord = 0x4000 := by
  decide +kernel

/-- Vector C20. -/
theorem test_fxam :
    let t := ran (machine [0xD9, 0xE5] (npxOf 7 0x37F 0x0 [(7, 0x3FFF8000000000000000)]))
    t.npx.statusWord = 0x3C00 := by
  decide +kernel

/-- Vector C21. -/
theorem test_fxam_2 :
    let t := ran (machine [0xD9, 0xE5] (npxOf 7 0x37F 0x0 [(7, 0xC0008000000000000000)]))
    t.npx.statusWord = 0x3E00 := by
  decide +kernel

/-- Vector K1. -/
theorem test_fldz :
    let t := ran (machine [0xD9, 0xEE] (npxOf 0 0x37F 0x0 []))
    t.npx.reg 7 = 0x0 ∧ t.npx.tagWord = 0x7FFF ∧ status t 7 false false 0x0 = true ∧ t.ptrs.fop = 0x1EE := by
  decide +kernel

/-- Vector K3. -/
theorem test_fldpi :
    let t := ran (machine [0xD9, 0xEB] (npxOf 0 0x37F 0x0 []))
    t.npx.reg 7 = 0x4000C90FDAA22168C235 := by
  decide +kernel

/-- Vector K4. -/
theorem test_fldpi_2 :
    let t := ran (machine [0xD9, 0xEB] (npxOf 0 0xF7F 0x0 []))
    t.npx.reg 7 = 0x4000C90FDAA22168C234 := by
  decide +kernel

/-- Vector K5. -/
theorem test_fldl2t :
    let t := ran (machine [0xD9, 0xE9] (npxOf 0 0xB7F 0x0 []))
    t.npx.reg 7 = 0x4000D49A784BCD1B8AFF := by
  decide +kernel

/-- Vector K6. -/
theorem test_fldl2t_2 :
    let t := ran (machine [0xD9, 0xE9] (npxOf 0 0x37F 0x0 []))
    t.npx.reg 7 = 0x4000D49A784BCD1B8AFE := by
  decide +kernel

/-- Vector K7. -/
theorem test_fldl2e :
    let t := ran (machine [0xD9, 0xEA] (npxOf 0 0x77F 0x0 []))
    t.npx.reg 7 = 0x3FFFB8AA3B295C17F0BB := by
  decide +kernel

/-- Vector K8. -/
theorem test_fldlg2 :
    let t := ran (machine [0xD9, 0xEC] (npxOf 0 0x37F 0x0 []))
    t.npx.reg 7 = 0x3FFD9A209A84FBCFF799 := by
  decide +kernel

/-- Vector K9. -/
theorem test_fldln2 :
    let t := ran (machine [0xD9, 0xED] (npxOf 0 0x77F 0x0 []))
    t.npx.reg 7 = 0x3FFEB17217F7D1CF79AB := by
  decide +kernel

/-- Vector A1. -/
theorem test_faddStSti_2 :
    let t := ran (machine [0xD8, 0xC1] (npxOf 6 0x37F 0x0 [(6, 0x3FFF8000000000000000), (7, 0x3FBF8000000000000000)]))
    t.npx.reg 6 = 0x3FFF8000000000000000 ∧ status t 6 false false 0x20 = true := by
  decide +kernel

/-- Vector A7. -/
theorem test_fdivStSti :
    let t := ran (machine [0xD8, 0xF1] (npxOf 6 0x37F 0x0 [(6, 0x3FFF8000000000000000), (7, 0x4000C000000000000000)]))
    t.npx.reg 6 = 0x3FFDAAAAAAAAAAAAAAAB ∧ status t 6 true false 0x20 = true := by
  decide +kernel

/-- Vector A7. -/
theorem test_fdivStSti_2 :
    let t := ran (machine [0xD8, 0xF1] (npxOf 6 0x7F 0x0 [(6, 0x3FFF8000000000000000), (7, 0x4000C000000000000000)]))
    t.npx.reg 6 = 0x3FFDAAAAAB0000000000 ∧ status t 6 true false 0x20 = true := by
  decide +kernel

/-- Vector A8. -/
theorem test_fsubStSti :
    let t := ran (machine [0xD8, 0xE1] (npxOf 6 0x37F 0x0 [(6, 0x4001A000000000000000), (7, 0x4001A000000000000000)]))
    t.npx.reg 6 = 0x0 ∧ status t 6 false false 0x0 = true := by
  decide +kernel

/-- Vector A8. -/
theorem test_fsubStSti_2 :
    let t := ran (machine [0xD8, 0xE1] (npxOf 6 0x77F 0x0 [(6, 0x4001A000000000000000), (7, 0x4001A000000000000000)]))
    t.npx.reg 6 = 0x80000000000000000000 ∧ status t 6 false false 0x0 = true := by
  decide +kernel

/-- Vector A10. -/
theorem test_fmulStSti :
    let t := ran (machine [0xD8, 0xC9] (npxOf 6 0x37F 0x0 [(6, 0x0), (7, 0x7FFF8000000000000000)]))
    t.npx.reg 6 = 0xFFFFC000000000000000 ∧ status t 6 false false 0x1 = true := by
  decide +kernel

/-- Vector A17. -/
theorem test_fsubrStSti :
    let t := ran (machine [0xD8, 0xE9] (npxOf 6 0x37F 0x0 [(6, 0x4001A000000000000000), (7, 0x4000C000000000000000)]))
    t.npx.reg 6 = 0xC0008000000000000000 ∧ status t 6 false false 0x0 = true := by
  decide +kernel

/-- Vector A17. -/
theorem test_fsubrStiSt :
    let t := ran (machine [0xDC, 0xE1] (npxOf 6 0x37F 0x0 [(6, 0x4001A000000000000000), (7, 0x4000C000000000000000)]))
    t.npx.reg 7 = 0x40008000000000000000 ∧ status t 6 false false 0x0 = true := by
  decide +kernel

/-- Vector A17. -/
theorem test_fsubStiSt :
    let t := ran (machine [0xDC, 0xE9] (npxOf 6 0x37F 0x0 [(6, 0x4001A000000000000000), (7, 0x4000C000000000000000)]))
    t.npx.reg 7 = 0xC0008000000000000000 ∧ status t 6 false false 0x0 = true := by
  decide +kernel

/-- Vector A17. -/
theorem test_fsubrpStiSt :
    let t := ran (machine [0xDE, 0xE1] (npxOf 6 0x37F 0x0 [(6, 0x4001A000000000000000), (7, 0x4000C000000000000000)]))
    t.npx.reg 7 = 0x40008000000000000000 ∧ t.npx.sw.top = 7 ∧ status t 7 false false 0x0 = true := by
  decide +kernel

/-- Vector A17. -/
theorem test_fsubpStiSt :
    let t := ran (machine [0xDE, 0xE9] (npxOf 6 0x37F 0x0 [(6, 0x4001A000000000000000), (7, 0x4000C000000000000000)]))
    t.npx.reg 7 = 0xC0008000000000000000 ∧ t.npx.sw.top = 7 ∧ status t 7 false false 0x0 = true := by
  decide +kernel

/-- Vector A17. -/
theorem test_fdivrStSti :
    let t := ran (machine [0xD8, 0xF9] (npxOf 6 0x37F 0x0 [(6, 0x40028000000000000000), (7, 0x40008000000000000000)]))
    t.npx.reg 6 = 0x3FFD8000000000000000 ∧ status t 6 false false 0x0 = true := by
  decide +kernel

/-- Vector A17. -/
theorem test_fdivrStiSt :
    let t := ran (machine [0xDC, 0xF1] (npxOf 6 0x37F 0x0 [(6, 0x40028000000000000000), (7, 0x40008000000000000000)]))
    t.npx.reg 7 = 0x40018000000000000000 ∧ status t 6 false false 0x0 = true := by
  decide +kernel

/-- Vector A17. -/
theorem test_fdivStiSt :
    let t := ran (machine [0xDC, 0xF9] (npxOf 6 0x37F 0x0 [(6, 0x40028000000000000000), (7, 0x40008000000000000000)]))
    t.npx.reg 7 = 0x3FFD8000000000000000 ∧ status t 6 false false 0x0 = true := by
  decide +kernel

/-- Vector A17. -/
theorem test_fdivrpStiSt :
    let t := ran (machine [0xDE, 0xF1] (npxOf 6 0x37F 0x0 [(6, 0x40028000000000000000), (7, 0x40008000000000000000)]))
    t.npx.reg 7 = 0x40018000000000000000 ∧ t.npx.sw.top = 7 ∧ status t 7 false false 0x0 = true := by
  decide +kernel

/-- Vector A17. -/
theorem test_fdivpStiSt :
    let t := ran (machine [0xDE, 0xF9] (npxOf 6 0x37F 0x0 [(6, 0x40028000000000000000), (7, 0x40008000000000000000)]))
    t.npx.reg 7 = 0x3FFD8000000000000000 ∧ t.npx.sw.top = 7 ∧ status t 7 false false 0x0 = true := by
  decide +kernel

/-- Vector A18. -/
theorem test_fsqrt :
    let t := ran (machine [0xD9, 0xFA] (npxOf 7 0x37F 0x0 [(7, 0x40008000000000000000)]))
    t.npx.reg 7 = 0x3FFFB504F333F9DE6484 ∧ status t 7 false false 0x20 = true := by
  decide +kernel

/-- Vector A18. -/
theorem test_fsqrt_2 :
    let t := ran (machine [0xD9, 0xFA] (npxOf 7 0x7F 0x0 [(7, 0x40008000000000000000)]))
    t.npx.reg 7 = 0x3FFFB504F30000000000 ∧ status t 7 false false 0x20 = true := by
  decide +kernel

/-- Vector A21. -/
theorem test_fscale :
    let t := ran (machine [0xD9, 0xFD] (npxOf 6 0x37F 0x0 [(6, 0x4000C000000000000000), (7, 0x4000B000000000000000)]))
    t.npx.reg 6 = 0x4002C000000000000000 ∧ status t 6 false false 0x0 = true ∧ t.npx.sw.top = 6 := by
  decide +kernel

/-- Vector A21. -/
theorem test_fscale_2 :
    let t := ran (machine [0xD9, 0xFD] (npxOf 6 0x37F 0x0 [(6, 0x4000C000000000000000), (7, 0xC000B000000000000000)]))
    t.npx.reg 6 = 0x3FFEC000000000000000 ∧ status t 6 false false 0x0 = true := by
  decide +kernel

/-- Vector A24. -/
theorem test_fprem :
    let t := ran (machine [0xD9, 0xF8] (npxOf 6 0x37F 0x0 [(6, 0x4001E000000000000000), (7, 0x40008000000000000000)]))
    t.npx.reg 6 = 0x3FFF8000000000000000 ∧ t.npx.statusWord = 0x7200 := by
  decide +kernel

/-- Vector A24. -/
theorem test_fprem_2 :
    let t := ran (machine [0xD9, 0xF8] (npxOf 6 0x37F 0x0 [(6, 0xC001E000000000000000), (7, 0x40008000000000000000)]))
    t.npx.reg 6 = 0xBFFF8000000000000000 ∧ t.npx.statusWord = 0x7200 := by
  decide +kernel

/-- Vector A31. -/
theorem test_fprem1 :
    let t := ran (machine [0xD9, 0xF5] (npxOf 6 0x37F 0x0 [(6, 0x4001E000000000000000), (7, 0x40008000000000000000)]))
    t.npx.reg 6 = 0xBFFF8000000000000000 ∧ t.npx.statusWord = 0x3100 := by
  decide +kernel

/-- Vector A31. -/
theorem test_fprem1_2 :
    let t := ran (machine [0xD9, 0xF5] (npxOf 6 0x37F 0x0 [(6, 0x4001A000000000000000), (7, 0x40008000000000000000)]))
    t.npx.reg 6 = 0x3FFF8000000000000000 ∧ t.npx.statusWord = 0x7000 := by
  decide +kernel

/-- Vector A32. -/
theorem test_fxtract :
    let t := ran (machine [0xD9, 0xF4] (npxOf 7 0x37F 0x0 [(7, 0x0)]))
    t.npx.reg 7 = 0xFFFF8000000000000000 ∧ t.npx.reg 6 = 0x0 ∧ status t 6 false false 0x4 = true := by
  decide +kernel

/-- Vector A33. -/
theorem test_fxtract_2 :
    let t := ran (machine [0xD9, 0xF4] (npxOf 7 0x37F 0x0 [(7, 0x7FFF8000000000000000)]))
    t.npx.reg 7 = 0x7FFF8000000000000000 ∧ t.npx.reg 6 = 0x7FFF8000000000000000 ∧
    status t 6 false false 0x0 = true := by
  decide +kernel

/-- Vector A36. -/
theorem test_frndint :
    let t := ran (machine [0xD9, 0xFC] (npxOf 7 0x37F 0x0 [(7, 0x4000A000000000000000)]))
    t.npx.reg 7 = 0x40008000000000000000 ∧ status t 7 false false 0x20 = true := by
  decide +kernel

/-- Vector A36. -/
theorem test_frndint_2 :
    let t := ran (machine [0xD9, 0xFC] (npxOf 7 0x37F 0x0 [(7, 0x4000E000000000000000)]))
    t.npx.reg 7 = 0x40018000000000000000 ∧ status t 7 true false 0x20 = true := by
  decide +kernel

/-- Vector A37. -/
theorem test_fchs :
    let t := ran (machine [0xD9, 0xE0] (npxOf 7 0x37F 0x0 [(7, 0xFFFFC000000000000000)]))
    t.npx.reg 7 = 0x7FFFC000000000000000 ∧ status t 7 false false 0x0 = true := by
  decide +kernel

/-- Vector A38. -/
theorem test_fabs :
    let t := ran (machine [0xD9, 0xE1] (npxOf 7 0x37F 0x0 [(7, 0xFFFF8000000000000000)]))
    t.npx.reg 7 = 0x7FFF8000000000000000 ∧ status t 7 false false 0x0 = true := by
  decide +kernel

/-- Vector A39. -/
theorem test_fiaddWordInteger :
    let t := ran (machine [0xDE, 0x05, 0x00, 0x20, 0x00, 0x00] (npxOf 7 0x37F 0x0 [(7,
      0x3FFE8000000000000000)]) [0x03, 0x00])
    t.npx.reg 7 = 0x4000E000000000000000 := by
  decide +kernel

/-- Vector A40. -/
theorem test_fimulShortInteger :
    let t := ran (machine [0xDA, 0x0D, 0x00, 0x20, 0x00, 0x00] (npxOf 7 0x37F 0x0 [(7,
      0x4001C000000000000000)]) [0x07, 0x00, 0x00, 0x00])
    t.npx.reg 7 = 0x4004A800000000000000 := by
  decide +kernel

/-- Vector A41. -/
theorem test_fidivWordInteger :
    let t := ran (machine [0xDE, 0x35, 0x00, 0x20, 0x00, 0x00] (npxOf 7 0x37F 0x0 [(7,
      0x3FFF8000000000000000)]) [0x00, 0x00])
    t.npx.reg 7 = 0x7FFF8000000000000000 ∧ status t 7 false false 0x4 = true := by
  decide +kernel

/-- Vector A42. -/
theorem test_fmulStSti_2 :
    let t := ran (machine [0xD8, 0xC9] (npxOf 6 0x37F 0x0 [(6, 0x7FFE8000000000000000), (7, 0x40018000000000000000)]))
    t.npx.reg 6 = 0x7FFF8000000000000000 ∧ status t 6 true false 0x28 = true := by
  decide +kernel

/-- Vector T1. -/
theorem test_fcos :
    let t := ran (machine [0xD9, 0xFF] (npxOf 7 0x37F 0x0 [(7, 0x0)]))
    t.npx.reg 7 = 0x3FFF8000000000000000 ∧ status t 7 false false 0x0 = true ∧ t.npx.sw.c2 = false := by
  decide +kernel

/-- Vector T2. -/
theorem test_fsin :
    let t := ran (machine [0xD9, 0xFE] (npxOf 7 0x37F 0x0 [(7, 0x80000000000000000000)]))
    t.npx.reg 7 = 0x80000000000000000000 ∧ status t 7 false false 0x0 = true ∧ t.npx.sw.c2 = false := by
  decide +kernel

/-- Vector T3FE. -/
theorem test_fsin_2 :
    let t := ran (machine [0xD9, 0xFE] (npxOf 7 0x37F 0x0 [(7, 0x403E8000000000000000)]))
    t.npx.reg 7 = 0x403E8000000000000000 ∧ t.npx.sw.top = 7 ∧ t.npx.sw.flags = 0x0 := by
  decide +kernel

/-- Vector T3FF. -/
theorem test_fcos_2 :
    let t := ran (machine [0xD9, 0xFF] (npxOf 7 0x37F 0x0 [(7, 0x403E8000000000000000)]))
    t.npx.reg 7 = 0x403E8000000000000000 ∧ t.npx.sw.top = 7 ∧ t.npx.sw.flags = 0x0 := by
  decide +kernel

/-- Vector T3FB. -/
theorem test_fsincos :
    let t := ran (machine [0xD9, 0xFB] (npxOf 7 0x37F 0x0 [(7, 0x403E8000000000000000)]))
    t.npx.reg 7 = 0x403E8000000000000000 ∧ t.npx.sw.top = 7 ∧ t.npx.sw.flags = 0x0 := by
  decide +kernel

/-- Vector T3F2. -/
theorem test_fptan :
    let t := ran (machine [0xD9, 0xF2] (npxOf 7 0x37F 0x0 [(7, 0x403E8000000000000000)]))
    t.npx.reg 7 = 0x403E8000000000000000 ∧ t.npx.sw.top = 7 ∧ t.npx.sw.flags = 0x0 := by
  decide +kernel

/-- Vector T4. -/
theorem test_fptan_2 :
    let t := ran (machine [0xD9, 0xF2] (npxOf 1 0x37F 0x0 [(1, 0x0)]))
    t.npx.reg 1 = 0x0 ∧ t.npx.reg 0 = 0x3FFF8000000000000000 ∧ t.npx.sw.top = 0 ∧
    status t 0 false false 0x0 = true ∧ t.npx.sw.c2 = false := by
  decide +kernel

/-- Vector T6. -/
theorem test_fsincos_2 :
    let t := ran (machine [0xD9, 0xFB] (npxOf 7 0x37F 0x0 [(7, 0x0)]))
    t.npx.reg 7 = 0x0 ∧ t.npx.reg 6 = 0x3FFF8000000000000000 ∧ status t 6 false false 0x0 = true ∧
    t.npx.sw.c2 = false := by
  decide +kernel

/-- Vector T8. -/
theorem test_fpatan :
    let t := ran (machine [0xD9, 0xF3] (npxOf 6 0x37F 0x0 [(6, 0x3FFF8000000000000000), (7, 0x0)]))
    t.npx.reg 7 = 0x0 ∧ t.npx.sw.top = 7 ∧ status t 7 false false 0x0 = true := by
  decide +kernel

/-- Vector T9. -/
theorem test_f2xm1 :
    let t := ran (machine [0xD9, 0xF0] (npxOf 7 0x37F 0x0 [(7, 0x3FFF8000000000000000)]))
    t.npx.reg 7 = 0x3FFF8000000000000000 := by
  decide +kernel

/-- Vector T9. -/
theorem test_f2xm1_2 :
    let t := ran (machine [0xD9, 0xF0] (npxOf 7 0x37F 0x0 [(7, 0xBFFF8000000000000000)]))
    t.npx.reg 7 = 0xBFFE8000000000000000 ∧ status t 7 false false 0x0 = true := by
  decide +kernel

/-- Vector T10. -/
theorem test_fyl2x :
    let t := ran (machine [0xD9, 0xF1] (npxOf 6 0x37F 0x0 [(6, 0x3FFF8000000000000000), (7, 0x4001A000000000000000)]))
    t.npx.reg 7 = 0x0 ∧ t.npx.sw.top = 7 ∧ status t 7 false false 0x0 = true := by
  decide +kernel

/-- Vector T11. -/
theorem test_fyl2x_2 :
    let t := ran (machine [0xD9, 0xF1] (npxOf 6 0x37F 0x0 [(6, 0x0), (7, 0x40008000000000000000)]))
    t.npx.reg 7 = 0xFFFF8000000000000000 ∧ t.npx.sw.top = 7 ∧ status t 7 false false 0x4 = true := by
  decide +kernel

/-- Vector T13. -/
theorem test_fyl2xp1 :
    let t := ran (machine [0xD9, 0xF9] (npxOf 6 0x37F 0x0 [(6, 0x0), (7, 0x4000C000000000000000)]))
    t.npx.reg 7 = 0x0 ∧ t.npx.sw.top = 7 ∧ status t 7 false false 0x0 = true := by
  decide +kernel

/-- Vector Q1. -/
theorem test_finit :
    let t := ran (machine [0xDB, 0xE3] (npxOf 0 0x37E 0x8081 []))
    t.npx.cw = 0x37F ∧ t.npx.statusWord = 0x0 ∧ t.npx.tagWord = 0xFFFF := by
  decide +kernel

/-- Vector Q2. -/
theorem test_fstcw :
    let t := ran (machine [0xD9, 0x3D, 0x00, 0x20, 0x00, 0x00] (npxOf 0 0x37F 0x0 []))
    data t 2 = [0x7F, 0x03] ∧ t.npx.sw.top = 0 ∧ t.npx.sw.flags = 0x0 := by
  decide +kernel

/-- Vector Q3. -/
theorem test_fldcw :
    let t := ran (machine [0xD9, 0x2D, 0x00, 0x20, 0x00, 0x00] (npxOf 0 0x37F 0x4 []) [0x7B, 0x03])
    t.npx.cw = 0x37B ∧ t.npx.sw.top = 0 ∧ t.npx.sw.flags = 0x4 ∧ t.ptrs.fip = 0x0 := by
  decide +kernel

/-- Vector Q4. -/
theorem test_fclex :
    let t := ran (machine [0xDB, 0xE2] (npxOf 7 0x37E 0xB8A1 []))
    t.npx.sw.top = 7 ∧ t.npx.sw.flags = 0x0 ∧ t.npx.cw = 0x37E := by
  decide +kernel

/-- Vector Q5. -/
theorem test_fstswAx :
    let t := ran (machine [0xDF, 0xE0] (npxOf 7 0x37F 0x0 [(7, 0x3FFF8000000000000000)]))
    low16 t.cpu.gprs.eax = 0x3800 := by
  decide +kernel

/-- Vector Q6. -/
theorem test_fstsw :
    let t := ran (machine [0xDD, 0x3D, 0x00, 0x20, 0x00, 0x00] (npxOf 7 0x37F 0x0 [(7, 0x3FFF8000000000000000)]))
    data t 2 = [0x00, 0x38] := by
  decide +kernel

/-- Vector Q7. -/
theorem test_fincstp :
    let t := ran (machine [0xD9, 0xF7] (npxOf 7 0x37F 0x0 []))
    t.npx.sw.top = 0 ∧ status t 0 false false 0x0 = true := by
  decide +kernel

/-- Vector Q7. -/
theorem test_fdecstp :
    let t := ran (machine [0xD9, 0xF6] (npxOf 0 0x37F 0x0 []))
    t.npx.sw.top = 7 ∧ status t 7 false false 0x0 = true := by
  decide +kernel

/-- Vector Q8. -/
theorem test_ffreeSti :
    let t := ran (machine [0xDD, 0xC2] (npxOf 3 0x37F 0x0 [(5, 0x3FFF8000000000000000)]))
    t.npx.reg 5 = 0x3FFF8000000000000000 ∧ t.npx.sw.top = 3 ∧ t.npx.tagWord = 0xFFFF := by
  decide +kernel

/-- Vector Q9. -/
theorem test_fnop :
    let t := ran (machine [0xD9, 0xD0] (npxOf 0 0x37F 0x0 []))
    t.ptrs.fip = 0x1000 ∧ t.ptrs.fcs = 0x8 ∧ t.ptrs.fop = 0x1D0 ∧ t.npx.tagWord = 0xFFFF ∧ t.npx.sw.top = 0 ∧
    t.npx.sw.flags = 0x0 := by
  decide +kernel

/-- Vector Q10. -/
theorem test_fldenv :
    let t := ran (machine [0x66, 0xD9, 0x25, 0x00, 0x20, 0x00, 0x00] (npxOf 0 0x37F 0x0 []) [0x7E, 0x03, 0x01, 0x00,
      0xFF, 0xFF, 0x00, 0x00, 0x00, 0x00, 0x00, 0x00, 0x00, 0x00])
    t.npx.cw = 0x37E ∧ t.npx.statusWord = 0x8081 ∧ t.npx.tagWord = 0xFFFF := by
  decide +kernel

/-- Vector Q11. -/
theorem test_fldenv_2 :
    let t := ran (machine [0x66, 0xD9, 0x25, 0x00, 0x20, 0x00, 0x00] (npxOf 0 0x37F 0x0 []) [0x7E, 0x03, 0x01, 0x00,
      0xAA, 0xAA, 0x00, 0x00, 0x00, 0x00, 0x00, 0x00, 0x00, 0x00])
    t.npx.cw = 0x37E ∧ t.npx.statusWord = 0x8081 ∧ t.npx.tagWord = 0x5555 := by
  decide +kernel

/-- Vector Q21. -/
theorem test_fstenv :
    let t := ran ({ machine [0x66, 0xD9, 0x35, 0x00, 0x20, 0x00, 0x00] (npxOf 7 0x37F 0x0 [(7,
      0x3FFF8000000000000000)]) with ptrs := ⟨0x1002, 0x8, 0x2000, 0x10, 0x0⟩ })
    data t 14 = [0x7F, 0x03, 0x00, 0x38, 0xFF, 0x3F, 0x02, 0x10, 0x08, 0x00, 0x00, 0x20, 0x10, 0x00] := by
  decide +kernel

/-- Vector X1. -/
theorem test_wait :
    let t := ran (machine [0x9B] (npxOf 0 0x37E 0x8081 []))
    t.taken.map (fun e => (e.vector.number, e.ret.off)) = [(16, 0x1000)] ∧ t.npx.statusWord = 0x8081 := by
  decide +kernel

/-- Vector X2. -/
theorem test_finit_2 :
    let t := ran ({ machine [0xDB, 0xE3] (npxOf 0 0x37F 0x0 []) with cpu := { calm.cpu with em := true } })
    t.taken.map (fun e => (e.vector.number, e.ret.off)) = [(7, 0x1000)] := by
  decide +kernel

/-- Vector X3. -/
theorem test_wait_2 :
    let t := ran ({ machine [0x9B] (npxOf 0 0x37F 0x0 []) with cpu := { calm.cpu with em := true } })
    t.taken = [] ∧ t.cpu.eip = 0x1001 := by
  decide +kernel

/-- Vector X7. -/
theorem test_fstswAx_2 :
    let t := ran (machine [0xDF, 0xE0] (npxOf 6 0x37B 0xB084 []))
    low16 t.cpu.gprs.eax = 0xB084 ∧ t.taken = [] := by
  decide +kernel

/-- Vector X8. -/
theorem test_fnop_2 :
    let t := ran (machine [0xD9, 0xD0] (npxOf 6 0x37B 0xB084 []))
    t.taken.map (fun e => (e.vector.number, e.ret.off)) = [(16, 0x1000)] := by
  decide +kernel

/-- Vector X8. -/
theorem test_fldcw_2 :
    let t := ran (machine [0xD9, 0x2D, 0x00, 0x20, 0x00, 0x00] (npxOf 6 0x37B 0xB084 []))
    t.taken.map (fun e => (e.vector.number, e.ret.off)) = [(16, 0x1000)] := by
  decide +kernel

/-- Vector X8. -/
theorem test_frstor :
    let t := ran (machine [0xDD, 0x25, 0x00, 0x20, 0x00, 0x00] (npxOf 6 0x37B 0xB084 []))
    t.taken.map (fun e => (e.vector.number, e.ret.off)) = [(16, 0x1000)] := by
  decide +kernel

/-- 8 + 2, the operand at DS:2000H. -/
theorem test_faddSingleReal :
    let t := ran (machine [0xD8, 0x05, 0x00, 0x20, 0x00, 0x00] (npxOf 7 0x37F 0 [(7, 0x40028000000000000000)]) [0x00,
      0x00, 0x00, 0x40])
    t.npx.reg 7 = 0x4002A000000000000000 ∧ status t 7 false false 0 = true := by
  decide +kernel

/-- 8 + 2, the operand at DS:2000H. -/
theorem test_faddDoubleReal :
    let t := ran (machine [0xDC, 0x05, 0x00, 0x20, 0x00, 0x00] (npxOf 7 0x37F 0 [(7, 0x40028000000000000000)]) [0x00,
      0x00, 0x00, 0x00, 0x00, 0x00, 0x00, 0x40])
    t.npx.reg 7 = 0x4002A000000000000000 ∧ status t 7 false false 0 = true := by
  decide +kernel

/-- 8 + 2, the operand at DS:2000H. -/
theorem test_fiaddShortInteger :
    let t := ran (machine [0xDA, 0x05, 0x00, 0x20, 0x00, 0x00] (npxOf 7 0x37F 0 [(7, 0x40028000000000000000)]) [0x02,
      0x00, 0x00, 0x00])
    t.npx.reg 7 = 0x4002A000000000000000 ∧ status t 7 false false 0 = true := by
  decide +kernel

/-- 8 * 2, the operand at DS:2000H. -/
theorem test_fmulSingleReal :
    let t := ran (machine [0xD8, 0x0D, 0x00, 0x20, 0x00, 0x00] (npxOf 7 0x37F 0 [(7, 0x40028000000000000000)]) [0x00,
      0x00, 0x00, 0x40])
    t.npx.reg 7 = 0x40038000000000000000 ∧ status t 7 false false 0 = true := by
  decide +kernel

/-- 8 * 2, the operand at DS:2000H. -/
theorem test_fmulDoubleReal :
    let t := ran (machine [0xDC, 0x0D, 0x00, 0x20, 0x00, 0x00] (npxOf 7 0x37F 0 [(7, 0x40028000000000000000)]) [0x00,
      0x00, 0x00, 0x00, 0x00, 0x00, 0x00, 0x40])
    t.npx.reg 7 = 0x40038000000000000000 ∧ status t 7 false false 0 = true := by
  decide +kernel

/-- 8 * 2, the operand at DS:2000H. -/
theorem test_fimulWordInteger :
    let t := ran (machine [0xDE, 0x0D, 0x00, 0x20, 0x00, 0x00] (npxOf 7 0x37F 0 [(7, 0x40028000000000000000)]) [0x02,
      0x00])
    t.npx.reg 7 = 0x40038000000000000000 ∧ status t 7 false false 0 = true := by
  decide +kernel

/-- 8 - 2, the operand at DS:2000H. -/
theorem test_fsubSingleReal :
    let t := ran (machine [0xD8, 0x25, 0x00, 0x20, 0x00, 0x00] (npxOf 7 0x37F 0 [(7, 0x40028000000000000000)]) [0x00,
      0x00, 0x00, 0x40])
    t.npx.reg 7 = 0x4001C000000000000000 ∧ status t 7 false false 0 = true := by
  decide +kernel

/-- 8 - 2, the operand at DS:2000H. -/
theorem test_fsubDoubleReal :
    let t := ran (machine [0xDC, 0x25, 0x00, 0x20, 0x00, 0x00] (npxOf 7 0x37F 0 [(7, 0x40028000000000000000)]) [0x00,
      0x00, 0x00, 0x00, 0x00, 0x00, 0x00, 0x40])
    t.npx.reg 7 = 0x4001C000000000000000 ∧ status t 7 false false 0 = true := by
  decide +kernel

/-- 8 - 2, the operand at DS:2000H. -/
theorem test_fisubShortInteger :
    let t := ran (machine [0xDA, 0x25, 0x00, 0x20, 0x00, 0x00] (npxOf 7 0x37F 0 [(7, 0x40028000000000000000)]) [0x02,
      0x00, 0x00, 0x00])
    t.npx.reg 7 = 0x4001C000000000000000 ∧ status t 7 false false 0 = true := by
  decide +kernel

/-- 8 - 2, the operand at DS:2000H. -/
theorem test_fisubWordInteger :
    let t := ran (machine [0xDE, 0x25, 0x00, 0x20, 0x00, 0x00] (npxOf 7 0x37F 0 [(7, 0x40028000000000000000)]) [0x02,
      0x00])
    t.npx.reg 7 = 0x4001C000000000000000 ∧ status t 7 false false 0 = true := by
  decide +kernel

/-- 2 - 8, the operand at DS:2000H. -/
theorem test_fsubrSingleReal :
    let t := ran (machine [0xD8, 0x2D, 0x00, 0x20, 0x00, 0x00] (npxOf 7 0x37F 0 [(7, 0x40028000000000000000)]) [0x00,
      0x00, 0x00, 0x40])
    t.npx.reg 7 = 0xC001C000000000000000 ∧ status t 7 false false 0 = true := by
  decide +kernel

/-- 2 - 8, the operand at DS:2000H. -/
theorem test_fsubrDoubleReal :
    let t := ran (machine [0xDC, 0x2D, 0x00, 0x20, 0x00, 0x00] (npxOf 7 0x37F 0 [(7, 0x40028000000000000000)]) [0x00,
      0x00, 0x00, 0x00, 0x00, 0x00, 0x00, 0x40])
    t.npx.reg 7 = 0xC001C000000000000000 ∧ status t 7 false false 0 = true := by
  decide +kernel

/-- 2 - 8, the operand at DS:2000H. -/
theorem test_fisubrShortInteger :
    let t := ran (machine [0xDA, 0x2D, 0x00, 0x20, 0x00, 0x00] (npxOf 7 0x37F 0 [(7, 0x40028000000000000000)]) [0x02,
      0x00, 0x00, 0x00])
    t.npx.reg 7 = 0xC001C000000000000000 ∧ status t 7 false false 0 = true := by
  decide +kernel

/-- 2 - 8, the operand at DS:2000H. -/
theorem test_fisubrWordInteger :
    let t := ran (machine [0xDE, 0x2D, 0x00, 0x20, 0x00, 0x00] (npxOf 7 0x37F 0 [(7, 0x40028000000000000000)]) [0x02,
      0x00])
    t.npx.reg 7 = 0xC001C000000000000000 ∧ status t 7 false false 0 = true := by
  decide +kernel

/-- 8 / 2, the operand at DS:2000H. -/
theorem test_fdivSingleReal :
    let t := ran (machine [0xD8, 0x35, 0x00, 0x20, 0x00, 0x00] (npxOf 7 0x37F 0 [(7, 0x40028000000000000000)]) [0x00,
      0x00, 0x00, 0x40])
    t.npx.reg 7 = 0x40018000000000000000 ∧ status t 7 false false 0 = true := by
  decide +kernel

/-- 8 / 2, the operand at DS:2000H. -/
theorem test_fdivDoubleReal :
    let t := ran (machine [0xDC, 0x35, 0x00, 0x20, 0x00, 0x00] (npxOf 7 0x37F 0 [(7, 0x40028000000000000000)]) [0x00,
      0x00, 0x00, 0x00, 0x00, 0x00, 0x00, 0x40])
    t.npx.reg 7 = 0x40018000000000000000 ∧ status t 7 false false 0 = true := by
  decide +kernel

/-- 8 / 2, the operand at DS:2000H. -/
theorem test_fidivShortInteger :
    let t := ran (machine [0xDA, 0x35, 0x00, 0x20, 0x00, 0x00] (npxOf 7 0x37F 0 [(7, 0x40028000000000000000)]) [0x02,
      0x00, 0x00, 0x00])
    t.npx.reg 7 = 0x40018000000000000000 ∧ status t 7 false false 0 = true := by
  decide +kernel

/-- 2 / 8, the operand at DS:2000H. -/
theorem test_fdivrSingleReal :
    let t := ran (machine [0xD8, 0x3D, 0x00, 0x20, 0x00, 0x00] (npxOf 7 0x37F 0 [(7, 0x40028000000000000000)]) [0x00,
      0x00, 0x00, 0x40])
    t.npx.reg 7 = 0x3FFD8000000000000000 ∧ status t 7 false false 0 = true := by
  decide +kernel

/-- 2 / 8, the operand at DS:2000H. -/
theorem test_fdivrDoubleReal :
    let t := ran (machine [0xDC, 0x3D, 0x00, 0x20, 0x00, 0x00] (npxOf 7 0x37F 0 [(7, 0x40028000000000000000)]) [0x00,
      0x00, 0x00, 0x00, 0x00, 0x00, 0x00, 0x40])
    t.npx.reg 7 = 0x3FFD8000000000000000 ∧ status t 7 false false 0 = true := by
  decide +kernel

/-- 2 / 8, the operand at DS:2000H. -/
theorem test_fidivrShortInteger :
    let t := ran (machine [0xDA, 0x3D, 0x00, 0x20, 0x00, 0x00] (npxOf 7 0x37F 0 [(7, 0x40028000000000000000)]) [0x02,
      0x00, 0x00, 0x00])
    t.npx.reg 7 = 0x3FFD8000000000000000 ∧ status t 7 false false 0 = true := by
  decide +kernel

/-- 2 / 8, the operand at DS:2000H. -/
theorem test_fidivrWordInteger :
    let t := ran (machine [0xDE, 0x3D, 0x00, 0x20, 0x00, 0x00] (npxOf 7 0x37F 0 [(7, 0x40028000000000000000)]) [0x02,
      0x00])
    t.npx.reg 7 = 0x3FFD8000000000000000 ∧ status t 7 false false 0 = true := by
  decide +kernel

/-- 8 is greater than 2 (R39). -/
theorem test_fcomDoubleReal :
    let t := ran (machine [0xDC, 0x15, 0x00, 0x20, 0x00, 0x00] (npxOf 7 0x37F 0 [(7, 0x40028000000000000000)]) [0x00,
      0x00, 0x00, 0x00, 0x00, 0x00, 0x00, 0x40])
    t.npx.statusWord = 0x3800 ∧ t.npx.isEmpty 7 = false := by
  decide +kernel

/-- 8 is greater than 2 (R39). -/
theorem test_fcompDoubleReal :
    let t := ran (machine [0xDC, 0x1D, 0x00, 0x20, 0x00, 0x00] (npxOf 7 0x37F 0 [(7, 0x40028000000000000000)]) [0x00,
      0x00, 0x00, 0x00, 0x00, 0x00, 0x00, 0x40])
    t.npx.statusWord = 0x0 ∧ t.npx.isEmpty 7 = true := by
  decide +kernel

/-- 8 is greater than 2 (R39). -/
theorem test_ficompShortInteger :
    let t := ran (machine [0xDA, 0x1D, 0x00, 0x20, 0x00, 0x00] (npxOf 7 0x37F 0 [(7, 0x40028000000000000000)]) [0x02,
      0x00, 0x00, 0x00])
    t.npx.statusWord = 0x0 ∧ t.npx.isEmpty 7 = true := by
  decide +kernel

/-- 8 is greater than 2 (R39). -/
theorem test_ficomWordInteger :
    let t := ran (machine [0xDE, 0x15, 0x00, 0x20, 0x00, 0x00] (npxOf 7 0x37F 0 [(7, 0x40028000000000000000)]) [0x02,
      0x00])
    t.npx.statusWord = 0x3800 ∧ t.npx.isEmpty 7 = false := by
  decide +kernel

/-- The destination is ST(1). -/
theorem test_faddStiSt :
    let t := ran (machine [0xDC, 0xC1] (npxOf 6 0x37F 0 [(6, 0x40028000000000000000), (7, 0x40008000000000000000)]))
    t.npx.reg 7 = 0x4002A000000000000000 ∧ t.npx.reg 6 = 0x40028000000000000000 := by
  decide +kernel

/-- The destination is ST(1). -/
theorem test_fmulStiSt :
    let t := ran (machine [0xDC, 0xC9] (npxOf 6 0x37F 0 [(6, 0x40028000000000000000), (7, 0x40008000000000000000)]))
    t.npx.reg 7 = 0x40038000000000000000 ∧ t.npx.reg 6 = 0x40028000000000000000 := by
  decide +kernel

/-- The destination is ST(1), then the pop. -/
theorem test_faddpStiSt :
    let t := ran (machine [0xDE, 0xC1] (npxOf 6 0x37F 0 [(6, 0x40028000000000000000), (7, 0x40008000000000000000)]))
    t.npx.reg 7 = 0x4002A000000000000000 ∧ t.npx.sw.top = 7 ∧ t.npx.isEmpty 6 = true := by
  decide +kernel

/-- The destination is ST(1), then the pop. -/
theorem test_fmulpStiSt :
    let t := ran (machine [0xDE, 0xC9] (npxOf 6 0x37F 0 [(6, 0x40028000000000000000), (7, 0x40008000000000000000)]))
    t.npx.reg 7 = 0x40038000000000000000 ∧ t.npx.sw.top = 7 ∧ t.npx.isEmpty 6 = true := by
  decide +kernel

/-- 2 is less than 8, then the pop. -/
theorem test_fcompSti :
    let t := ran (machine [0xD8, 0xD9] (npxOf 6 0x37F 0 [(6, 0x40008000000000000000), (7, 0x40028000000000000000)]))
    t.npx.statusWord = 0x3900 ∧ t.npx.isEmpty 6 = true := by
  decide +kernel

/-- 2 is less than 8, then the pop. -/
theorem test_fucompSti :
    let t := ran (machine [0xDD, 0xE9] (npxOf 6 0x37F 0 [(6, 0x40008000000000000000), (7, 0x40028000000000000000)]))
    t.npx.statusWord = 0x3900 ∧ t.npx.isEmpty 6 = true := by
  decide +kernel

/-- ST(2) is R0. -/
theorem test_fstSti :
    let t := ran (machine [0xDD, 0xD2] (npxOf 6 0x37F 0 [(6, 0x40008000000000000000)]))
    t.npx.reg 0 = 0x40008000000000000000 ∧ t.npx.isEmpty 0 = false ∧ t.npx.sw.top = 6 := by
  decide +kernel

/-- Treated as FNOP (R349). -/
theorem test_feni :
    let t := ran (machine [0xDB, 0xE0] (npxOf 7 0x37F 0 [(7, 0x40008000000000000000)]))
    t.npx.reg 7 = 0x40008000000000000000 ∧ t.npx.sw.top = 7 ∧ t.npx.sw.flags = 0 ∧ t.npx.cw = 0x37F := by
  decide +kernel

/-- Treated as FNOP (R349). -/
theorem test_fdisi :
    let t := ran (machine [0xDB, 0xE1] (npxOf 7 0x37F 0 [(7, 0x40008000000000000000)]))
    t.npx.reg 7 = 0x40008000000000000000 ∧ t.npx.sw.top = 7 ∧ t.npx.sw.flags = 0 ∧ t.npx.cw = 0x37F := by
  decide +kernel

/-- Treated as FNOP (R349). -/
theorem test_fsetpm :
    let t := ran (machine [0xDB, 0xE4] (npxOf 7 0x37F 0 [(7, 0x40008000000000000000)]))
    t.npx.reg 7 = 0x40008000000000000000 ∧ t.npx.sw.top = 7 ∧ t.npx.sw.flags = 0 ∧ t.npx.cw = 0x37F := by
  decide +kernel

/-- The top register is the first of the image (R338), then the initialization (R340). -/
theorem test_fsave :
    let t := ran (machine [0x66, 0xDD, 0x35, 0x00, 0x20, 0x00, 0x00] (npxOf 7 0x37F 0 [(7, 0x40008000000000000000)]))
    t.npx.tagWord = 0xFFFF ∧ t.npx.statusWord = 0 ∧ t.npx.cw = 0x37F ∧
    t.mem.readList (fetchAddresses 0 0x200E 10) = 0x40008000000000000000 := by
  decide +kernel

/-- The integer is stored, then the pop. -/
theorem test_fistpWordInteger :
    let t := ran (machine [0xDF, 0x1D, 0x00, 0x20, 0x00, 0x00] (npxOf 7 0x37F 0 [(7, 0x40008000000000000000)]))
    data t 2 = [0x02, 0x00] ∧ t.npx.sw.top = 0 ∧ t.npx.isEmpty 7 = true := by
  decide +kernel

/-! ### Interrupts 9 and 13, reserved encodings, stops -/

/-- `s` with the limit of DS at `lim` (R78). -/
def limited (s : State) (lim : BitVec 32) : State :=
  { s with cpu := { s.cpu with segs := { s.cpu.segs with ds := ⟨0x10, 0, [⟨0, lim⟩]⟩ } } }

/-- Vectors M5 and M6: an 8-byte operand with limit 1FFFH, at 1FFCH and at 1FFEH. -/
theorem test_limits :
    (ran (limited (machine [0xDD, 0x05, 0xFC, 0x1F, 0, 0] calm.npx) 0x1FFF)).taken.map (·.vector) = [.segmentOverrun] ∧
    (ran (limited (machine [0xDD, 0x05, 0xFE, 0x1F, 0, 0] calm.npx) 0x1FFF)).taken.map (fun e => (e.vector,
      e.ret.off)) =
      [(.generalProtection, 0x1000)] := by
  decide +kernel

/-- The example of Table 2.6: a 16-bit address, limit FFFDH, offset FFFCH (90 C15); and one word further. -/
theorem test_small_segment_limits :
    (ran (limited (machine [0x67, 0xDD, 0x06, 0xFC, 0xFF] calm.npx) 0xFFFD)).taken.map (·.vector) = [.segmentOverrun] ∧
    (ran (limited (machine [0x67, 0xDD, 0x06, 0xFE, 0xFF] calm.npx) 0xFFFD)).taken.map (·.vector) =
      [.generalProtection] := by
  decide +kernel

/-- What a meaning answers is a next state. -/
def completes (o : Result) : Bool :=
  match o with
  | .next _ => true
  | _ => false

/-- The next state of an instruction, or the same state when it stops. -/
def after (i : Instr) (s : State) : State :=
  match exec i s with
  | .next t => t
  | _ => s

theorem exec_after {i : Instr} {s : State} (h : completes (exec i s) = true) : exec i s = .next (after i s) := by
  unfold after completes at *
  split <;> simp_all

/-- `s` with `reserved_esc` = refuse. -/
def refusing (s : State) : State := { s with params := { s.params with reservedEsc := .refuse } }

/-- `s` with `self_modifying_code` = refuse, and the bytes the program has stored. -/
def guarded (s : State) (stored : List Nat) : State :=
  { s with params := { s.params with selfModifyingCode := .refuse }, stored := stored }

/-- 92 D16: FNSTCW at 1000H stores the bytes behind it, those of FLD1, which is then executed or refused. -/
theorem test_self_modifying_code :
    let s := machine [0xD9, 0x3D, 0x06, 0x10, 0, 0] (npxOf 0 0xE8D9 0 [])
    (step (ran (guarded s [])) matches .refused .selfModifyingCode) = true ∧
    (ran (guarded s [])).stored = [0x1006, 0x1007] ∧ (ran s).stored = [] ∧
    (ran (ran s)).npx.st 0 = some 0x3FFF8000000000000000 := by decide +kernel

theorem test_reserved :
    (exec (.reservedD9rD1 []) (refusing calm) matches .refused .reservedEncoding) = true ∧
    (after (.reservedD9rD1 []) calm).cpu.eip = 0x1002 ∧
    (after (.reservedD9rD1 []) { calm with cpu := { calm.cpu with em := true } }).taken.map (·.vector) =
      [.deviceNotAvailable] := by
  decide +kernel

/-- From reset a waiting instruction takes interrupt 16, and FNINIT runs (R60, R380, R415). -/
theorem test_first_instruction_after_reset :
    (ran (State.reset.withFetchWord 16 0xD9E8)).taken.map (·.vector) = [.numericException] ∧
    (ran (State.reset.withFetchWord 16 0xDBE3)).npx.statusWord = 0 := by
  decide +kernel

/-! ### Witnesses: states and operands that meet the hypotheses of the statements -/

/-- The registers of a list, ST(0) first, and a control word. -/
def stack (l : List Ext) (cw : BitVec 16 := 0x37F) : State :=
  let regs := (List.range l.length).map fun k => (8 - l.length + k, l.getD k 0)
  { calm with npx := npxOf (BitVec.ofNat 3 (8 - l.length)) cw 0 regs }

/-- Images: 1, 2, zero, infinity, a quiet and a signaling NaN, an unsupported image, the smallest denormal, 2^63. -/
abbrev one : Ext := 0x3FFF8000000000000000
abbrev two : Ext := 0x40008000000000000000
abbrev zero : Ext := 0
abbrev inf : Ext := 0x7FFF8000000000000000
abbrev qnan : Ext := 0x7FFFC000000000000001
abbrev snan : Ext := 0x7FFF8000000000000001
abbrev unsupported : Ext := 0x3FFF0000000000000001
abbrev denormal : Ext := 1
abbrev huge : Ext := 0x403E8000000000000000
/-- The image with the other sign. -/
abbrev minus (x : Ext) : Ext := x ^^^ 0x80000000000000000000

/-- R303, R162: FPTAN of an invalid operand and of an empty register pushes 1.0. -/
theorem test_fptan_pushes_one :
    let t := after (.fptan []) (stack [unsupported])
    t.npx.st 0 = some one ∧ t.npx.st 1 = some indefinite ∧
    (after (.fptan []) (stack [])).npx.st 0 = some one ∧ (after (.fptan []) (stack [])).npx.st 1 = some indefinite := by
  decide +kernel

/-- Eight registers in use. -/
def full (cw : BitVec 16 := 0x37F) : State := stack (List.replicate 8 one) cw

/-- A state with an unmasked zero-divide pending (ES = 1). -/
def pending : State := { calm with npx := npxOf 7 0x37B 4 [(7, one)] }

/-- Two numbers on the stack. -/
def ordinaryState : State := stack [one, two]

theorem witness_DecodeEncode :
    (Instr.faddSingleReal (List.replicate 9 .opSize) (.direct32 0)).wf .s32 = true ∧
    (Instr.fld1 []).wf .s16 = true ∧ (Instr.faddSingleReal [.addrSize] (.a16 .bp (.byte 1))).wf .s32 = true := by decide

theorem witness_EncodeDecode :
    decode .s32 (List.replicate 13 0x66 ++ [0xD9, 0xE8, 7]) = .ok (.fld1 (List.replicate 13 .opSize), [7]) ∧
    (Instr.fld1 (List.replicate 13 .opSize)).length ≤ maxLength ∧
    ¬(Instr.fld1 (List.replicate 14 .opSize)).length ≤ maxLength ∧
    decode .s32 (List.replicate 14 0x66 ++ [0xD9, 0xE8]) = .ok (.fld1 (List.replicate 14 .opSize), []) :=
  ⟨rfl, by decide, by decide, rfl⟩

theorem witness_EscBytesDecode :
    (0xD8 : Byte).extractLsb' 3 5 = 0b11011 ∧ (0xDF : Byte).extractLsb' 3 5 = 0b11011 ∧
    5 ≤ ([0, 0, 0, 0, 0] : List Byte).length := by decide

/-- R102: a load of the control word, an addition in memory and in a register, FSQRT, FINIT, and the four words without
a form. -/
theorem test_forms :
    escForm 0xD9 0x2D = some .one ∧ escForm 0xD9 0x05 = some .two ∧ escForm 0xDE 0x05 = some .two ∧
    escForm 0xDE 0xC1 = some .three ∧ escForm 0xD9 0xFA = some .four ∧ escForm 0xDB 0xE3 = some .five ∧
    escForm 0xD9 0xD0 = none ∧ escForm 0xDA 0xE9 = none ∧ escForm 0xDE 0xD9 = none ∧ escForm 0xDF 0xE0 = none ∧
    escForm 0x9B 0xC0 = none := by decide

theorem witness_StepRunsDecoded :
    let i : Instr := .faddSingleReal [.seg .fs] (.direct32 0x2000)
    let s := machine (encode i) calm.npx
    s.stranded = false ∧ s.launch.endAddress ≠ some s.cpu.eip ∧ i.wf s.cpu.addressSize = true ∧
    s.codeAllowed i.length = true ∧
    (List.range (encode i).length).all (fun k =>
      s.mem.read (s.cpu.segs.cs.base + (s.cpu.eip + BitVec.ofNat 32 k)).toNat == (encode i).getD k 0) = true ∧
    s.params.selfModifyingCode ≠ .refuse ∧
    -- code that is refused if stored: the bytes before and after the instruction are
    (guarded s [0xFFF, 0x1007]).params.selfModifyingCode = .refuse ∧ i.length = 7 ∧
    (List.range i.length).all (fun k =>
      !(guarded s [0xFFF,
      0x1007]).stored.contains (s.cpu.segs.cs.base + (s.cpu.eip + BitVec.ofNat 32 k)).toNat) = true := by
  decide +kernel

theorem witness_StepKeepsInvariant :
    (machine [0xD9, 0xE8] calm.npx).Inv ∧ completes (step (machine [0xD9, 0xE8] calm.npx)) = true :=
  ⟨⟨by decide +kernel, by decide +kernel, by decide +kernel, by decide +kernel, by decide +kernel⟩, by decide +kernel⟩

theorem witness_ResetValues : State.reset = State.reset ∧ calm.hardwareReset = calm.hardwareReset := ⟨rfl, rfl⟩

theorem witness_StatusAndTagWords : calm.npx.isEmpty 7 = true ∧ classOf (ordinaryState.npx.reg 6) = .normal ∧
    classOf ((stack [zero]).npx.reg 7) = .zero ∧ classOf ((stack [qnan]).npx.reg 7) = .qnan := by decide +kernel

/-- `s` with CR0 bits. -/
def withCr0 (s : State) (em ts mp : Bool) : State := { s with cpu := { s.cpu with em := em, ts := ts, mp := mp } }

theorem witness_Interrupt7 :
    (Instr.fld1 []).isWait = false ∧ (Instr.finit []).isWait = false ∧ (withCr0 calm true false false).cpu.em = true ∧
    (withCr0 calm false true false).cpu.ts = true ∧ (withCr0 calm false true true).cpu.mp = true ∧
    completes (exec (.wait []) (withCr0 calm false true false)) = true ∧
    completes (exec (.wait []) (withCr0 calm false false true)) = true := by decide +kernel

theorem witness_Interrupt16 :
    pending.params.platform = .standard ∧ pending.available (.fld1 []) = true ∧
    (Instr.fld1 []).waits pending.params = true ∧
    pending.available (.wait []) = true ∧ (Instr.wait []).waits pending.params = true ∧
    pending.busyIn = false ∧ pending.npx.es = true ∧ pending.launch.handler16 = none ∧
    [Instr.finit [], .fclex [], .fstswAx [], .fstsw [] (.direct32 0x2000), .fstenv [] (.direct32 0x2000),
      .fsave [] (.direct32 0x2000), .fstcw [] (.direct32 0x2000), .fld1 [], .wait []].all
        (fun i => pending.available i && completes (exec i pending)) = true := by decide +kernel

theorem witness_LimitChecks :
    let s := limited calm 0x1FFF
    -- a doubleword, then a word, that ends one byte too far; a small segment
    ([Instr.fldDoubleReal [] (.direct32 0x1FFD), .fildWordInteger [] (.direct32 0x1FFF),
      .fldDoubleReal [] (.direct16 0x1FFF)].all fun i =>
        s.available i && s.proceeds i && match s.operand i with
          | some (r, u) => !s.cpu.segs.allowsBytes r (if r.size = .s16 ∨ u.bytes = 2 then 2 else 4)
          | none => false) = true ∧
    -- an operand that starts inside and ends outside, loaded and stored
    ([Instr.fldDoubleReal [] (.direct32 0x1FFC), .fstpExtendedReal [] (.direct32 0x1FFC),
      .fldDoubleReal [] (.direct16 0x1FFE)].all fun i =>
        s.available i && s.proceeds i && match s.operand i with
          | some (r, u) => s.cpu.segs.allowsBytes r (if r.size = .s16 ∨ u.bytes = 2 then 2 else 4) &&
              !s.launch.hostFaultOn r u.bytes u.stores && !s.cpu.segs.allowsBytes r u.bytes
          | none => false) = true := by decide +kernel

theorem witness_WaitsForBusy :
    let s := { calm with busy := true }
    s.available (.fld1 []) = true ∧ (Instr.fld1 []).waits s.params = true ∧ s.busyIn = true ∧
    (calm.cpu.ts = false ∨ calm.cpu.mp = false) ∧ calm.busyIn = false ∧ calm.errorIn = false := by decide +kernel

/-- `s` with a handler for every interrupt. -/
def handled (s : State) : State :=
  let h : Option Handler := some ⟨flat 0x20, 0x8000⟩
  { s with launch := ⟨h, h, h, h, none, []⟩ }

theorem witness_EntryAndReturn :
    exec (.wait []) pending = .next (after (.wait []) pending) ∧
    pending.TookHere (after (.wait []) pending) .numericException ∧
    exec (.fld1 []) (handled pending) = .next (after (.fld1 []) (handled pending)) ∧
    (handled pending).TookHere (after (.fld1 []) (handled pending)) .numericException := by
  refine ⟨exec_after (by decide +kernel), ?_, exec_after (by decide +kernel), ?_⟩ <;> unfold State.TookHere <;>
    decide +kernel

/-- A host fault on every write of DS. -/
def faulting (s : State) : State :=
  { s with launch := { s.launch with hostFaults := [⟨.ds, ⟨0, 0xFFFFFFFF⟩, false, true⟩] } }

theorem witness_StopsByName :
    (after (.wait []) pending).stranded = true ∧
    ({ calm with launch := { calm.launch with endAddress := some 0x1000 } } : State).launch.endAddress =
      some calm.cpu.eip ∧
    calm.stranded = false ∧ calm.launch.endAddress ≠ some calm.cpu.eip ∧
    (calm.fetch matches .error _) = true ∧
    (let s : State := { machine [0xD9, 0xE8] calm.npx with
        cpu := { calm.cpu with segs := { calm.cpu.segs with cs := ⟨8, 0, [⟨0, 0x1000⟩]⟩ } } }
     (match s.fetch with | .ok p => !s.codeAllowed p.2 | .error _ => false) = true) ∧
    (let s := guarded (machine [0xD9, 0xE8] calm.npx) [0x1001]
     (match s.fetch with | .ok p => s.codeAllowed p.2 && decide (p.2 = 2) | .error _ => false) = true ∧
     s.params.selfModifyingCode = .refuse ∧
     (s.cpu.segs.cs.base + (s.cpu.eip + BitVec.ofNat 32 1)).toNat ∈ s.stored) ∧
    (let s := faulting ordinaryState
     let i : Instr := .fstSingleReal [] (.direct32 0x2000)
     (s.available i && s.proceeds i && match s.operand i with
       | some (r, u) => s.cpu.segs.allowsBytes r (if r.size = .s16 ∨ u.bytes = 2 then 2 else 4) &&
           s.launch.hostFaultOn r u.bytes u.stores
       | none => false) = true) ∧
    (Instr.reservedD9rD1 []).reserved = true ∧ (refusing calm).params.reservedEsc = .refuse ∧
    (refusing calm).available (.reservedD9rD1 []) = true ∧ (refusing calm).proceeds (.reservedD9rD1 []) = true := by
  decide +kernel

/-- Every instruction of the table can execute normally, in protected and in real-address mode. -/
theorem witness_EveryInstructionCompletes :
    samples.all (fun i => ordinaryState.ready i &&
      ({ ordinaryState with cpu := { ordinaryState.cpu with mode := .realAddress } } : State).ready i) = true := by
  decide +kernel

theorem witness_PointersUpdated :
    (Instr.faddSingleReal [] (.direct32 0x12345678)).administrative = false ∧
    (ordinaryState.operand (.faddSingleReal [] (.direct32 0x12345678))).isSome = true ∧
    ordinaryState.cpu.mode = .protectedMode ∧ (Instr.fldcw [] (.direct32 0)).administrative = true ∧
    (Instr.fldcw [] (.direct32 0)).writes.top ≠ .sets ∧ ordinaryState.ready (.finit []) = true ∧
    ordinaryState.ready (.fsave [] (.direct32 0x2000)) = true := by decide +kernel

/-- Every instruction of the table has a next state; so have an interrupt 9 and an interrupt 16. -/
theorem witness_HostFrame :
    samples.all (fun i => completes (exec i ordinaryState)) = true ∧ completes (exec (.fld1 []) pending) = true ∧
    completes (exec (.fldDoubleReal [] (.direct32 0x1FFC)) (limited calm 0x1FFF)) = true ∧
    ordinaryState.params.platform = .standard := by decide +kernel

theorem witness_MemoryFrame :
    samples.all (fun i => completes (exec i ordinaryState) && match ordinaryState.operand i with
      | some (r, u) => !(ordinaryState.cpu.segs.addresses r u.bytes).contains 0
      | none => true) = true ∧
    ordinaryState.params.selfModifyingCode = .coherent ∧
    samples.all (fun i => completes (exec i (guarded ordinaryState [7]))) = true ∧
    (after (.fstcw [] (.direct32 0x2000)) (guarded ordinaryState [7])).stored = [0x2000, 0x2001, 7] := by decide +kernel

theorem witness_NpxFrame :
    samples.all (fun i => completes (exec i ordinaryState)) = true ∧
    (∀ j ∈ (Instr.faddSingleReal [] (.direct32 0)).writes.regs, ordinaryState.npx.phys j ≠ 0) ∧
    (Instr.fld1 []).writes.top = .pushes ∧ (Instr.fcompp []).writes.top = .pops 2 ∧
    (Instr.fcos []).writes.top = .keeps ∧
    (Instr.fincstp []).writes.top = .increments ∧ (Instr.fdecstp []).writes.top = .decrements ∧
    (Instr.fld1 []).writes.control = false ∧
    (∀ j ∈ (Instr.fstpSti [] 3).tags, ordinaryState.npx.phys j ≠ 0) ∧ (Instr.fclex []).tags = [] ∧
    (Instr.ffreeSti [] 2).tags = [2] ∧ (Instr.fcompp []).tags = [0, 1] := by decide +kernel

theorem witness_FlagsAreSticky :
    let s : State := { ordinaryState with npx := npxOf 6 0x37F 0x0041 [(6, one), (7, two)] }
    completes (exec (.faddStSti [] 1) s) = true ∧ s.npx.sw.flag .ie = true ∧ s.npx.sw.sf = true ∧
    (Instr.faddStSti [] 1).writes.flags = .sets ∧
    [Instr.fclex [], .finit [], .fsave [] (.direct32 0x2000)].all
      (fun i => s.ready i && decide (i.writes.flags = .clears)) = true ∧
    [Instr.fldenv [] (.direct32 0x2000), .frstor [.opSize] (.direct32 0x2000)].all
      (fun i => s.ready i && decide (i.writes.flags = .loads) && (s.operand i).isSome) = true := by decide +kernel

theorem witness_ErrorDeassertion :
    pending.params.platform = .standard ∧ completes (exec (.fclex []) pending) = true ∧ pending.errorPin = true ∧
    (after (.fclex []) pending).errorPin = false ∧
    [Instr.finit [], .fclex [], .fstenv [] (.direct32 0x2000),
      .fsave [] (.direct32 0x2000)].all pending.ready = true := by
  decide +kernel

theorem witness_ModeIndependence :
    completes (exec (.fld1 []) calm) = true ∧
    (exec (.fstSingleReal [] (.direct32 0x2000)) (faulting ordinaryState) matches .fault .hostMemoryFault) = true ∧
    (exec (.reservedD9rD1 []) (refusing calm) matches .refused .reservedEncoding) = true := by decide +kernel

/-- `s` on the PC/AT connection. -/
def atBoard (s : State) (latched : Bool) : State :=
  { s with params := { s.params with platform := .pcAt }, busyLatch := latched }

theorem witness_PcAtConnection :
    (atBoard pending false).params.platform = .pcAt ∧ completes (exec (.fld1 []) (atBoard pending false)) = true ∧
    (atBoard (stack [one, zero] 0x37B) false).ready (.fdivStSti [] 1) = true ∧
    (after (.fdivStSti [] 1) (atBoard (stack [one, zero] 0x37B) false)).irq13 = true ∧
    (after (.fdivStSti [] 1) (atBoard (stack [one, zero] 0x37B) false)).pereqLatch = true ∧
    completes (exec (.fldDoubleReal [] (.direct32 0x1FFC)) (atBoard (limited calm 0x1FFF) false)) = true ∧
    (atBoard calm false).hardwareReset.busyLatch = true ∧
    (atBoard pending true).busyLatch = true ∧ (atBoard pending true).available (.fld1 []) = true ∧
    (Instr.fld1 []).waits (atBoard pending true).params = true := by decide +kernel

theorem witness_ConstantLoads :
    [Instr.fldz [], .fld1 [], .fldpi [], .fldl2t [], .fldl2e [], .fldlg2 [], .fldln2 []].all
      (fun i => calm.ready i && full.ready i && (full 0x37E).ready i) = true ∧
    (stack [] 0x37F).npx.rc = .nearest ∧ (stack [] 0x77F).npx.rc = .down ∧ (stack [] 0xB7F).npx.rc = .up ∧
    (stack [] 0xF7F).npx.rc = .chop := by decide +kernel

/-- Data at 2000H behind the state `s`. -/
def withData (s : State) (d : List Byte) : State := { s with mem := s.mem.writeBytes (fetchAddresses 0 0x2000 d.length) d }

/-- An FLDCW that masks every exception executes on the PC/AT connection while ERROR# is active, and makes it inactive. -/
theorem witness_PcAtConnection_fldcw :
    let s := atBoard (withData pending [0x7F, 0x03]) false
    let i : Instr := .fldcw [] (.direct32 0x2000)
    s.params.platform = .pcAt ∧ s.errorPin = true ∧ s.ready i = true ∧
    ((s.operandRef i).map fun r => (s.wordAt r 0).extractLsb' 0 6) = some 0x3F ∧ completes (exec i s) = true ∧
    (after i s).errorPin = false := by decide +kernel

/-- FIDIV by 1 of the largest number with PC = 00 overflows by its rounding (R261, assumption 45). -/
theorem test_fidivWordInteger_overflow :
    let s := withData (stack [0x7FFEFFFFFFFFFFFFFFFF] 0x07F) [1, 0]
    let t := after (.fidivWordInteger [] (.direct32 0x2000)) s
    t.npx.sw.oe = true ∧ t.npx.reg 7 = inf := by decide +kernel

theorem witness_RealLoads :
    let i : Instr := .fldSingleReal [] (.direct32 0x2000)
    i.loadUse = some (.real single) ∧ (Instr.fldDoubleReal [] (.direct32 0x2000)).loadUse = some (.real double) ∧
    full.ready i = true ∧ full.npx.isEmpty (full.npx.sw.top - 1) = false ∧
    calm.ready i = true ∧ calm.npx.isEmpty (calm.npx.sw.top - 1) = true ∧
    (single.opnd ((withData calm [1, 0, 0x80, 0x7F]).operandValue i)).cls = .snan ∧
    (single.opnd ((withData calm [1, 0, 0, 0]).operandValue i)).cls = .denormal ∧
    (single.opnd ((withData calm [0, 0, 0x80, 0]).operandValue i)).cls = .normal ∧
    (stack [] 0x37E).ready i = true ∧ (stack [] 0x37D).ready i = true := by decide +kernel

theorem witness_ExactLoads :
    calm.ready (.fldExtendedReal [] (.direct32 0x2000)) = true ∧
    (Instr.fldExtendedReal [] (.direct32 0x2000)).loadUse = some .ext ∧
    (Instr.fildWordInteger [] (.direct32 0x2000)).loadUse = some (.int 16) ∧
    (Instr.fbldPackedDecimal [] (.direct32 0x2000)).loadUse = some .bcd ∧
    (extOfBcd ((withData calm [0x99]).operandValue (.fbldPackedDecimal [] (.direct32 0x2000)))).isSome = true ∧
    full.ready (.fldSti [] 7) = true ∧ (full.npx.st 7).isSome = true ∧ calm.npx.st 0 = none ∧
    calm.npx.isEmpty (calm.npx.sw.top - 1) = true ∧ (stack [] 0x37E).npx.masked .ie = false := by decide +kernel

/-- The conditions of the statement on stores. -/
def storing (i : Instr) (s : State) : Bool := i.storeUse.isSome && (s.operand i).isSome && s.ready i

theorem witness_StoresToMemory :
    samples.all (fun i => i.storeUse.isNone || (storing i calm && storing i (stack [one]) && storing i (stack [snan] 0x37E)))
      = true ∧ calm.params.platform = .standard ∧ calm.npx.st 0 = none ∧ (stack [one]).npx.st 0 = some one ∧
    (single.narrow .nearest false true true snan).bits = none ∧
    (single.narrow .nearest true true true one).bits = some 0x3F800000 := by decide +kernel

theorem witness_RegisterOperations :
    [Instr.fstSti [] 7, .fstpSti [] 1, .fabs [], .fchs [], .fxchSti [] 1].all
      (fun i => calm.ready i && ordinaryState.ready i && (stack [] 0x37E).ready i) = true ∧
    ordinaryState.npx.st 0 = some one ∧ calm.npx.st 0 = none ∧
    (ordinaryState.npx.isEmpty (ordinaryState.npx.phys 0) || ordinaryState.npx.isEmpty (ordinaryState.npx.phys 1)) = false ∧
    (stack [one]).npx.isEmpty ((stack [one]).npx.phys 1) = true := by decide +kernel

theorem witness_WideningIsExact :
    [0, 0x80000000, 0x7F800000, 1, 0x7FFFFF, 0x800000, 0x7F7FFFFF, 0x7FC00000, 0x7F800001].all (· < 2 ^ 32) = true ∧
    single.memClass 0 = .zero ∧ single.memClass 0x7F800000 = .infinity ∧ single.memClass 0x7FFFFF = .denormal ∧
    single.memClass 0x800000 = .normal ∧ single.memClass 0x7FC00000 = .qnan ∧ single.memClass 0x7F800001 = .snan ∧
    double.memClass 0xFFFFFFFFFFFFF = .denormal ∧ double.memClass 0x10000000000000 = .normal := by decide +kernel

/-- The largest single, the first value that overflows it, the smallest normal single and the largest value below it. -/
theorem witness_NarrowingRounds :
    [0x407EFFFFFF0000000000, 0x407EFFFFFF8000000000, 0x3F818000000000000000, 0x3F80FFFFFF0000000000].all
      (fun x => decide (classOf x = .normal)) = true ∧ classOf denormal = .denormal ∧
    (single.narrow .nearest true true true 0x407EFFFFFF0000000000).oe = false ∧
    (single.narrow .nearest true true true 0x407EFFFFFF8000000000).oe = true ∧
    (single.narrow .nearest true true false 0x3F818000000000000000).ue = false ∧
    (single.narrow .nearest true true false 0x3F80FFFFFF0000000000).ue = true ∧ classOf zero = .zero ∧
    classOf inf = .infinity ∧
    classOf qnan = .qnan ∧ classOf snan = .snan ∧ classOf unsupported = .unsupported := by decide +kernel

/-- R183: the truncated fraction of a NaN, quieted if it signals, and the indefinite of an unsupported image. -/
theorem test_narrow_nans :
    single.narrow .nearest true true true 0xFFFFC00001FFFFFFFFFF = storedExact 0xFFC00001 ∧
    single.narrow .nearest true true true 0x7FFF8000010000000000 = storedInvalid true 0x7FC00001 ∧
    double.narrow .nearest false true true 0x7FFF8000010000000000 = storedInvalid false 0 ∧
    double.narrow .nearest true true true unsupported = storedInvalid true 0xFFF8000000000000 := by decide +kernel

theorem witness_IntegerFormatsRoundTrip :
    0xFFFF < 2 ^ 16 ∧ 0x8000000000000000 < 2 ^ 64 ∧ bcdDigits 18 0x999999999999999999 = (999999999999999999, true) ∧
    bcdDigits 18 0x80000000000000000005 = (5, true) ∧ 0x80000000000000000005 < 2 ^ 80 ∧
    0x80000000000000000005 / 2 ^ 72 % 2 ^ 7 = 0 := by decide +kernel

/-- 32767, 32768 and -32768 as words; the classes that are invalid. -/
theorem witness_IntegerConversion :
    (intOfExt 16 .nearest true 0x400DFFFE000000000000).bits = some 0x7FFF ∧
    (intOfExt 16 .nearest true 0x400E8000000000000000).ie = true ∧
    (intOfExt 16 .nearest true 0xC00E8000000000000000).bits = some 0x8000 ∧ classOf zero = .zero ∧
    classOf inf = .infinity ∧
    classOf qnan = .qnan ∧ classOf snan = .snan ∧ classOf unsupported = .unsupported ∧
    classOf denormal = .denormal := by
  decide +kernel

/-- 10^18 - 1 and 10^18. -/
theorem witness_BcdConversion :
    (bcdOfExt .nearest true 0x403ADE0B6B3A763FFFF0).bits = some 0x999999999999999999 ∧
    (bcdOfExt .nearest true 0x403ADE0B6B3A76400000).ie = true ∧ classOf 0x403ADE0B6B3A763FFFF0 = .normal ∧
    classOf zero = .zero ∧ classOf inf = .infinity ∧ classOf unsupported = .unsupported := by decide +kernel

/-- The operand of a register image. -/
abbrev opnd := opndOf

theorem witness_OrderOfValues :
    (opnd qnan).ordinary = false ∧ (opnd unsupported).ordinary = false ∧ (opnd one).finite = true ∧
    (opnd denormal).finite = true ∧ (opnd (minus zero)).finite = true ∧ (opnd inf).cls = .infinity ∧
    (opnd (minus inf)).cls = .infinity := by decide +kernel

/-- The comparisons, on two numbers, on an empty register, on NaNs, on a denormal. -/
theorem witness_Comparisons :
    samples.all (fun i => i.compareUse.isNone ||
      ([calm, ordinaryState, stack [qnan, two], stack [snan, two], stack [denormal, two], stack [denormal, two] 0x37D,
        stack [snan, two] 0x37E].all fun s => s.ready i)) = true ∧
    (Instr.ftst []).compareUse.isSome = true ∧ calm.npx.stOpnd 0 = none ∧
    ordinaryState.npx.stOpnd 0 = some (opnd one) ∧ (opnd qnan).isNan = true ∧ (opnd qnan).isInvalid = false ∧
    (opnd snan).isInvalid = true ∧ (stack [denormal, two] 0x37D).npx.denormalOk (opnd denormal) (opnd two) = false ∧
    (stack [denormal, two]).npx.denormalOk (opnd denormal) (opnd two) = true := by decide +kernel

theorem witness_Examine : calm.ready (.fxam []) = true ∧ (stack [denormal]).ready (.fxam []) = true := by decide +kernel

theorem witness_RoundingIsR150 : 0 < (Mag.ratio 1 3 0).real ∧ 0 < (Mag.root 2 (-1)).real := by
  simp [Mag.real]

theorem witness_DeliveryIsR153 : 0 < (Mag.ratio 1 1 16384).real ∧ 0 < (Mag.ratio 1 3 (-16382)).real ∧
    0 < (Mag.root 2 0).real := by
  refine ⟨?_, ?_, ?_⟩ <;> simp only [Mag.real] <;> positivity

theorem witness_NanChoice :
    (opnd qnan).isNan = true ∧ (opnd one).isNan = false ∧ (opnd qnan).cls = .qnan ∧ (opnd snan).cls = .snan ∧
    (opnd qnan).cls = (opnd 0x7FFFC000000000000002).cls ∧ extSig qnan = extSig (minus qnan) ∧ extSign qnan = false ∧
    extSign (minus qnan) = true := by decide +kernel

/-- Every arithmetic instruction on an empty register, on two numbers, NaNs and denormals. -/
theorem witness_ArithmeticChecks :
    samples.all (fun i => i.arithUse.isNone ||
      ([calm, ordinaryState, stack [qnan, two], stack [snan, two] 0x37E, stack [denormal, two] 0x37D, stack [one, zero],
        stack [one, zero] 0x37B, stack [zero, zero]].all fun s => s.ready i)) = true ∧
    (Instr.fdivStSti [] 1).arithUse = some ⟨.div, .st 0, .st 1, 0, 0⟩ ∧
    calm.source (.fdivStSti [] 1) (.st 0) = none ∧ ordinaryState.source (.fdivStSti [] 1) (.st 1) = some (opnd two) ∧
    (opnd snan).isInvalid = true ∧ (opnd qnan).isNan = true ∧ (opnd qnan).isInvalid = false ∧
    (opnd one).ordinary = true ∧ (stack [denormal, two] 0x37D).npx.denormalOk (opnd denormal) (opnd two) = false ∧
    (opnd one).nonzero = true ∧ (opnd zero).cls = .zero := by decide +kernel

theorem witness_InvalidPair :
    InvalidPair .add (opnd inf) (opnd (minus inf)) ∧ InvalidPair .sub (opnd inf) (opnd inf) ∧
    InvalidPair .mul (opnd zero) (opnd inf) ∧ InvalidPair .mul (opnd inf) (opnd zero) ∧
    InvalidPair .div (opnd zero) (opnd zero) ∧ InvalidPair .div (opnd inf) (opnd inf) :=
  ⟨.sum _ _ (by decide) (by decide) (by decide), .difference _ _ (by decide) (by decide) (by decide),
   .zeroTimes _ _ (by decide) (by decide), .timesZero _ _ (by decide) (by decide),
      .zeroByZero _ _ (by decide) (by decide),
   .infinityByInfinity _ _ (by decide) (by decide)⟩

/-- Each special result, between two registers. -/
theorem witness_ArithmeticSpecialResults :
    (Instr.faddStSti [] 1).arithUse = some ⟨.add, .st 0, .st 1, 0, 0⟩ ∧
    (stack [inf, one]).ready (.faddStSti [] 1) = true ∧
    (stack [inf, one]).source (.faddStSti [] 1) (.st 0) = some (opnd inf) ∧
    (stack [inf, one]).source (.faddStSti [] 1) (.st 1) = some (opnd one) ∧
    (stack [inf, one]).npx.denormalOk (opnd inf) (opnd one) = true ∧
    SpecialResult .nearest (opnd inf) (opnd one) .add (extInf false) ∧
    SpecialResult .nearest (opnd one) (opnd inf) .sub (extInf true) ∧
    SpecialResult .nearest (opnd inf) (opnd inf) .add (extInf false) ∧
    SpecialResult .down (opnd zero) (opnd (minus zero)) .add (extZero true) ∧
    SpecialResult .nearest (opnd (minus zero)) (opnd (minus zero)) .add (extZero true) ∧
    SpecialResult .nearest (opnd inf) (opnd one) .mul (extInf false) ∧
    SpecialResult .nearest (opnd one) (opnd inf) .mul (extInf false) ∧
    SpecialResult .nearest (opnd zero) (opnd one) .mul (extZero false) ∧
    SpecialResult .nearest (opnd one) (opnd zero) .mul (extZero false) ∧
    SpecialResult .nearest (opnd inf) (opnd zero) .div (extInf false) ∧
    SpecialResult .nearest (opnd one) (opnd inf) .div (extZero false) ∧
    SpecialResult .nearest (opnd zero) (opnd one) .div (extZero false) :=
  ⟨by decide +kernel, by decide +kernel, by decide +kernel, by decide +kernel, by decide +kernel,
   .sum _ (.infinityLeft (by decide) (by decide)), .difference _ (.infinityRight (by decide) (by decide)),
   .sum _ (.infinities (by decide) (by decide) (by decide)), .sum _ (.otherZeros (by decide) (by decide) (by decide)),
   .sum _ (.sameZeros (by decide) (by decide) (by decide)), .infinityTimes (by decide) (by decide),
   .timesInfinity (by decide) (by decide), .zeroTimes (by decide) (by decide), .timesZero (by decide) (by decide),
   .infinityBy (by decide) (by decide), .byInfinity (by decide) (by decide), .zeroBy (by decide) (by decide)⟩

theorem extReal_of_val {x : Ext} {v : Val} (h : valOf x = v) : extReal x = signOf v.neg * v.m * 2 ^ v.k := by
  subst h
  rfl

theorem extReal_one : extReal one = 1 := by
  rw [extReal_of_val (v := ⟨false, 2 ^ 63, -63⟩) (by decide +kernel)]
  norm_num [signOf]

theorem extReal_minus_one : extReal (minus one) = -1 := by
  rw [extReal_of_val (v := ⟨true, 2 ^ 63, -63⟩) (by decide +kernel)]
  norm_num [signOf]

theorem extReal_two : extReal two = 2 := by
  rw [extReal_of_val (v := ⟨false, 2 ^ 63, -62⟩) (by decide +kernel)]
  norm_num [signOf]

theorem extReal_half : extReal 0x3FFE8000000000000000 = 1 / 2 := by
  rw [extReal_of_val (v := ⟨false, 2 ^ 63, -64⟩) (by decide +kernel)]
  norm_num [signOf]

theorem extReal_quarter : extReal 0x3FFD8000000000000000 = 1 / 4 := by
  rw [extReal_of_val (v := ⟨false, 2 ^ 63, -65⟩) (by decide +kernel)]
  norm_num [signOf]

theorem extReal_huge : extReal huge = 2 ^ 63 := by
  rw [extReal_of_val (v := ⟨false, 2 ^ 63, 0⟩) (by decide +kernel)]
  norm_num [signOf]

/-- A sum, a difference that is zero, a product and a quotient, at the three precisions. -/
theorem witness_ArithmeticIsCorrectlyRounded :
    ([0x07F, 0x27F, 0x37F].all fun cw =>
      [Instr.faddStSti [] 1, .fsubStSti [] 0, .fmulStiSt [] 1, .fdivrpStiSt [] 1].all fun i => (stack [one,
      two] cw).ready i)
      = true ∧
    (stack [one, two] 0x07F).npx.precision = some 24 ∧ (stack [one, two] 0x27F).npx.precision = some 53 ∧
    (stack [one, two]).npx.precision = some 64 ∧ (opnd one).finite = true ∧ (opnd one).nonzero = true ∧
    (stack [one, two]).source (.fsubStSti [] 0) (.st 0) = some (opnd one) ∧
    (stack [one, two]).npx.denormalOk (opnd one) (opnd one) = true ∧
    (Instr.fsubStSti [] 0).arithUse = some ⟨.sub, .st 0, .st 0, 0, 0⟩ := by decide +kernel

theorem witness_ArithmeticIsCorrectlyRounded_values :
    ArithOp.sub.real (extReal one) (extReal one) = 0 ∧ ArithOp.div.real (extReal one) (extReal two) ≠ 0 := by
  norm_num [ArithOp.real, extReal_one, extReal_two]

theorem witness_SharedOperandChecks :
    [Instr.fsqrt [], .frndint [], .f2xm1 [], .fscale [], .fpatan [], .fyl2x [], .fyl2xp1 []].all (fun i =>
      [calm, stack [snan, one], stack [qnan, one] 0x37E, stack [denormal, one] 0x37D].all fun s => s.ready i) = true ∧
    calm.npx.stOpnd 0 = none ∧ (stack [snan, one]).npx.stOpnd 0 = some (opnd snan) ∧ (opnd snan).isInvalid = true ∧
    (opnd qnan).isInvalid = false ∧ (opnd qnan).isNan = true ∧ (opnd denormal).nonzero = true ∧
    extSign denormal = false ∧ (stack [denormal, one] 0x37D).npx.denormalOk (opnd denormal) (opnd one) = false ∧
    (opnd denormal).ordinary = true ∧
    -- negative denormals, and denormals beside a zero and an infinity
    [Instr.frndint [], .f2xm1 [], .fscale [], .fpatan [], .fyl2x [], .fyl2xp1 []].all (fun i =>
      [stack [minus denormal, one] 0x37D, stack [denormal, zero] 0x37D, stack [denormal, inf] 0x37D,
        stack [minus zero, denormal] 0x37D, stack [inf, minus denormal] 0x37D].all fun s => s.ready i) = true ∧
    (stack [] 0x37D).npx.denormalOk (opnd (minus denormal)) (opnd inf) = false ∧ (opnd inf).ordinary = true ∧
    (opnd (minus zero)).cls = .zero ∧ extSign (minus zero) = true := by
  decide +kernel

theorem witness_SquareRoot :
    [stack [minus zero], stack [inf], stack [minus one], stack [minus inf] 0x37E, stack [two]].all
      (fun s => s.ready (.fsqrt [])) = true ∧ (stack [two]).npx.stOpnd 0 = some (opnd two) ∧
    (opnd (minus zero)).cls = .zero ∧ (opnd inf).cls = .infinity ∧ (opnd (minus one)).nonzero = true ∧
    extSign (minus inf) = true ∧ (stack [two]).npx.denormalOk (opnd two) (opnd two) = true ∧
    (stack [two]).npx.precision = some 64 := by decide +kernel

theorem witness_Scale :
    [stack [zero, inf], stack [inf, minus inf] 0x37E, stack [one, minus inf], stack [zero, two], stack [one,
      minus two]].all
      (fun s => s.ready (.fscale [])) = true ∧
    (stack [one, minus two]).npx.stOpnd 0 = some (opnd one) ∧
    (stack [one, minus two]).npx.stOpnd 1 = some (opnd (minus two)) ∧
    (opnd one).ordinary = true ∧ (opnd (minus inf)).cls = .infinity ∧ extSign (minus inf) = true ∧ extSign inf = false ∧
    (opnd (minus two)).finite = true ∧ (stack [one, two]).npx.denormalOk (opnd one) (opnd (minus two)) = true := by
  decide +kernel

theorem witness_RoundToInteger :
    [stack [zero], stack [inf], stack [one], stack [denormal]].all (fun s => s.ready (.frndint [])) = true ∧
    (stack [denormal]).npx.stOpnd 0 = some (opnd denormal) ∧ (opnd denormal).nonzero = true ∧
    (stack [denormal]).npx.denormalOk (opnd denormal) (opnd denormal) = true := by decide +kernel

theorem witness_Extract :
    [calm, full, stack [], stack [unsupported], stack [qnan], stack [zero], stack [zero] 0x37B, stack [inf],
      stack [denormal], stack [denormal] 0x37D].all (fun s => s.ready (.fxtract [])) = true ∧
    calm.npx.stOpnd 0 = none ∧ full.npx.isEmpty (full.npx.sw.top - 1) = false ∧
    (stack [qnan]).npx.stOpnd 0 = some (opnd qnan) ∧
    (stack [qnan]).npx.isEmpty ((stack [qnan]).npx.sw.top - 1) = true := by decide +kernel

/-- A complete reduction, an incomplete one (2^63 by the smallest normal number), and a tiny remainder. -/
theorem witness_Remainder :
    [Instr.fprem [], .fprem1 []].all (fun i => (stack [one, two]).ready i && (stack [huge,
      0x00018000000000000000]).ready i &&
      (stack [0x00018000000000000001, 0x00018000000000000000] 0x36F).ready i) = true ∧
    (stack [huge, 0x00018000000000000000]).npx.stOpnd 1 = some (opnd 0x00018000000000000000) ∧
    (opnd huge).nonzero = true ∧ (opnd 0x00018000000000000000).nonzero = true ∧
    (stack [huge, 0x00018000000000000000]).npx.denormalOk (opnd huge) (opnd 0x00018000000000000000) = true ∧
    (stack [one, two] 0x36F).npx.masked .ue = false := by decide +kernel

theorem witness_RemainderSpecialCases :
    [Instr.fprem [], .fprem1 []].all (fun i =>
      [calm, stack [snan, one], stack [qnan, one], stack [inf, one], stack [one, zero] 0x37E, stack [denormal,
      one] 0x37D,
        stack [zero, one], stack [one, inf]].all fun s => s.ready i) = true ∧
    calm.npx.stOpnd 0 = none ∧ (stack [inf, one]).npx.stOpnd 0 = some (opnd inf) ∧ (opnd inf).ordinary = true ∧
    (stack [denormal, one] 0x37D).npx.denormalOk (opnd denormal) (opnd one) = false := by decide +kernel

/-- Every operand of the trigonometric instructions; 2^63 is the first one that is too large. -/
theorem witness_TrigonometricSpecialCases :
    [Instr.fsin [], .fcos [], .fptan [], .fsincos []].all (fun i =>
      [calm, full, stack [huge], stack [zero], stack [inf], stack [snan] 0x37E, stack [qnan],
      stack [denormal] 0x37D].all
        fun s => s.ready i) = true ∧
    (stack [huge]).npx.stOpnd 0 = some (opnd huge) ∧ (opnd huge).finite = true ∧
    (stack [huge]).npx.isEmpty ((stack [huge]).npx.sw.top - 1) = true ∧ (opnd zero).cls = .zero ∧
    full.npx.isEmpty (full.npx.sw.top - 1) = false ∧ calm.npx.stOpnd 0 = none ∧
    calm.npx.isEmpty (calm.npx.sw.top - 1) = true ∧ calm.npx.masked .ie = true := by decide +kernel

theorem witness_TrigonometricSpecialCases_bound : (2 : ℝ) ^ 63 ≤ |extReal huge| := by
  rw [extReal_huge]
  norm_num

theorem witness_ArctangentSpecialValues :
    [stack [one, zero], stack [minus one, zero], stack [zero, one], stack [inf, inf], stack [minus inf, inf],
      stack [inf, one], stack [one, inf]].all (fun s => s.ready (.fpatan [])) = true ∧
    (stack [one, zero]).npx.stOpnd 0 = some (opnd one) ∧ (stack [one, zero]).npx.stOpnd 1 = some (opnd zero) ∧
    (stack [one, zero]).npx.denormalOk (opnd zero) (opnd one) = true ∧ (opnd zero).cls = .zero ∧
    (opnd one).ordinary = true ∧ extSign (minus one) = true ∧ (opnd inf).cls = .infinity ∧
    (opnd one).nonzero = true := by
  decide +kernel

theorem witness_LogarithmSpecialValues :
    [stack [minus one, two], stack [zero, zero], stack [inf, zero], stack [one, inf], stack [zero, two] 0x37B,
      stack [zero, inf], stack [inf, two], stack [two, inf], stack [one, two], stack [two, zero]].all
        (fun s => s.ready (.fyl2x []) && s.ready (.fyl2xp1 []) && s.ready (.f2xm1 [])) = true ∧
    (stack [one, two]).npx.stOpnd 0 = some (opnd one) ∧ (stack [one, two]).npx.stOpnd 1 = some (opnd two) ∧
    (opnd one).ordinary = true ∧ (stack [one, two]).npx.denormalOk (opnd two) (opnd one) = true ∧
    (opnd one).nonzero = true ∧ (opnd zero).cls = .zero ∧ (opnd inf).cls = .infinity := by decide +kernel

/-- 1, 2, 1/2, -1 and 1/4 against the bounds of the logarithms and the exponential. -/
theorem witness_LogarithmSpecialValues_values :
    extReal one = 1 ∧ 1 < extReal two ∧ extReal 0x3FFE8000000000000000 < 1 ∧ extReal (minus one) = -1 ∧
    |extReal 0x3FFD8000000000000000| < (2 - Real.sqrt 2) / 2 := by
  have h : Real.sqrt 2 < 1.5 := by
    rw [Real.sqrt_lt' (by norm_num)]
    norm_num
  refine ⟨extReal_one, ?_, ?_, extReal_minus_one, ?_⟩
  · rw [extReal_two]
    norm_num
  · rw [extReal_half]
    norm_num
  · rw [extReal_quarter, abs_of_pos (by norm_num)]
    norm_num at h ⊢
    linarith

theorem witness_TranscendentalResults :
    [Instr.fsin [], .fcos [], .fptan [], .fsincos [], .f2xm1 [], .fpatan [], .fyl2x [], .fyl2xp1 []].all
      (fun i => (stack [one, two]).ready i) = true ∧
    (stack [one, two]).npx.stOpnd 0 = some (opnd one) ∧ (stack [one, two]).npx.stOpnd 1 = some (opnd two) ∧
    (opnd one).nonzero = true ∧ (opnd two).nonzero = true ∧ extSign one = false ∧
    (stack [one, two]).npx.denormalOk (opnd one) (opnd one) = true ∧ (stack [one, two]).npx.masked .oe = true ∧
    (stack [one, two]).npx.masked .ue = true ∧ (stack [one, two]).npx.masked .de = true ∧
    (stack [two, one] 0x36F).ready (.fyl2x []) = true ∧ (stack [two, one] 0x36F).npx.stOpnd 0 = some (opnd two) ∧
    (stack [two, one] 0x36F).npx.stOpnd 1 = some (opnd one) ∧ (stack [two, one] 0x36F).npx.masked .de = true ∧
    (stack [two, one] 0x36F).npx.masked .ue = false ∧ extSign two = false ∧ (stack [two, one] 0x36F).npx.sw.flags = 0 ∧
    (stack [one, two]).npx.isEmpty ((stack [one, two]).npx.sw.top - 1) = true := by decide +kernel

/-- FYL2X can leave PE clear. -/
theorem witness_TranscendentalResults_exact : (stack [one, two]).npx.sw.pe = false ∧
    (after (.fyl2x []) (stack [one, two])).npx.sw.pe = false := by decide +kernel

theorem witness_TranscendentalResults_bounds :
    |extReal one| < (2 : ℝ) ^ 63 ∧ |extReal one| ≤ 1 ∧ |extReal 0x3FFE8000000000000000| < 1 ∧ extReal two ≠ 1 := by
  rw [extReal_one, extReal_half, extReal_two]
  norm_num

/-- R167: a drawn logarithm far below the format is denormalized to zero with UE, or, unmasked,
      moved to a Normal; one of
the smallest exponent of the format is neither. -/
theorem test_log_underflow :
    let v (e : BitVec 16) : TranscLog := ⟨false, e, 5, true, true⟩
    let go (um : Bool) (e : BitVec 16) := deliverRounded .nearest true um false (logMag (v e)) 64 (logRounded (v e)) 0
    go true 0 = ⟨0, false, true, true, false⟩ ∧ go true 128 = ⟨0x00018000000000000005, false, false, true, true⟩ ∧
    (go true 127).ue = true ∧ go false 0 = ⟨0x5F818000000000000005, false, true, true, true⟩ := by decide +kernel

/-- A tiny operand of FSIN. -/
theorem witness_TranscendentalResults_tiny : |extReal denormal| < 2 ^ (-16382 : ℤ) := by
  rw [extReal_of_val (v := ⟨false, 1, -16445⟩) (by decide +kernel)]
  have h : (2 : ℝ) ^ (-16445 : ℤ) < 2 ^ (-16382 : ℤ) := zpow_lt_zpow_right₀ (by norm_num) (by norm_num)
  simpa [signOf, abs_of_pos] using h

theorem witness_Initialize : pending.ready (.finit []) = true := by decide +kernel

theorem witness_StatusAndControlTransfers :
    [Instr.fstswAx [], .fstsw [] (.direct32 0x2000), .fstcw [] (.direct32 0x2000), .fldcw [] (.direct32 0x2000)].all
      ordinaryState.ready = true ∧ (ordinaryState.operandRef (.fldcw [] (.direct32 0x2000))).isSome = true := by
  decide +kernel

theorem witness_StackManagement :
    [Instr.fincstp [], .fdecstp [], .ffreeSti [] 7, .fnop [], .feni [], .fdisi [], .fsetpm []].all
      (fun i => full.ready i && calm.ready i) = true := by decide +kernel

/-- The four formats (R335). -/
theorem witness_StoreEnvironmentAndState :
    [Instr.fstenv [] (.direct32 0x2000), .fsave [.opSize] (.direct32 0x2000), .fstenv [.opSize] (.direct32 0x2000),
      .fsave [] (.direct32 0x2000)].all (fun i => ordinaryState.ready i && (ordinaryState.operandRef i).isSome &&
        ({ ordinaryState with cpu := { ordinaryState.cpu with mode := .virtual8086 } } : State).ready i) = true ∧
    ordinaryState.operandSize [] = .s32 ∧ ordinaryState.operandSize [.opSize] = .s16 ∧
    ordinaryState.cpu.mode = .protectedMode := by decide +kernel

theorem witness_LoadEnvironmentAndState :
    [Instr.fldenv [] (.direct32 0x2000), .frstor [.opSize] (.direct32 0x2000), .fldenv [.opSize] (.direct32 0x2000),
      .frstor [] (.direct32 0x2000)].all (fun i => ordinaryState.ready i && (ordinaryState.operandRef i).isSome &&
        ({ ordinaryState with cpu := { ordinaryState.cpu with mode := .realAddress } } : State).ready i) = true := by
  decide +kernel

theorem witness_SaveThenRestore :
    ordinaryState.Inv ∧
    ([[], [.opSize]].all fun pre => [CpuMode.protectedMode, .realAddress, .virtual8086].all fun mode =>
      let s : State := { ordinaryState with cpu := { ordinaryState.cpu with mode := mode } }
      s.ready (.fsave pre (.direct32 0x2000)) &&
        (after (.fsave pre (.direct32 0x2000)) s).ready (.frstor pre (.direct32 0x2000))) = true ∧
    ordinaryState.operandSize [] = .s32 ∧ ordinaryState.operandSize [.opSize] = .s16 :=
  ⟨⟨by decide +kernel, by decide +kernel, by decide +kernel, by decide +kernel, by decide +kernel⟩,
      by decide +kernel, by decide +kernel,
   by decide +kernel⟩
end Sys2Proof.Tests
end

section
/-! The template each instruction's meaning is made of: one case split over the instructions, which later proofs cite
in place of their own. -/

namespace Sys2Proof.Machine

/-! ### The templates (R361) -/

/-- The tables of the spec give `i` as a waiting instruction that replaces the pointers, reserved or not, with the
memory operand `u`. -/
structure TabledAs (i : Instr) (reserved : Bool) (u : Option OperandUse) : Prop where
  waits : ∀ p, i.waits p = true
  administrative : i.administrative = false
  reserved : i.reserved = reserved
  operandUse : ∀ z, i.operandUse z = u

/-- How `exec` runs an instruction: by a template of R361 with the instruction's own opcode and operand, or as one of
the administrative instructions, each of which has a rule of its own. -/
inductive Template : Instr → Prop
  | numReg {i : Instr} (pre : List Prefix) (grp : BitVec 3) (b2 : Byte) (f : Nat → Npx → Npx)
      (opcode : i.opcode = .reg grp b2) (parts : i.parts = (pre, 2, none)) (tabled : TabledAs i false none)
      (runs : ∀ s, exec i s = s.numReg pre grp b2 f) : Template i
  | numLoad {i : Instr} (pre : List Prefix) (grp reg : BitVec 3) (m : MemArg) (n : Nat) (f : Nat → Nat → Npx → Npx)
      (opcode : i.opcode = .mem grp reg) (parts : i.parts = (pre, 2, some m))
      (tabled : TabledAs i false (some ⟨n, false⟩)) (runs : ∀ s, exec i s = s.numLoad pre grp reg m n f) : Template i
  | numStore {i : Instr} (pre : List Prefix) (grp reg : BitVec 3) (m : MemArg) (n : Nat) (f : Nat → Npx → StoreEffect)
      (opcode : i.opcode = .mem grp reg) (parts : i.parts = (pre, 2, some m))
      (tabled : TabledAs i false (some ⟨n, true⟩)) (runs : ∀ s, exec i s = s.numStore pre grp reg m n f) : Template i
  | reservedReg {i : Instr} (pre : List Prefix) (grp : BitVec 3) (b2 : Byte) (opcode : i.opcode = .reg grp b2)
      (parts : i.parts = (pre, 2, none)) (tabled : TabledAs i true none)
      (runs : ∀ s, exec i s = s.reservedReg pre grp b2) : Template i
  | reservedMem {i : Instr} (pre : List Prefix) (grp reg : BitVec 3) (m : MemArg) (opcode : i.opcode = .mem grp reg)
      (parts : i.parts = (pre, 2, some m)) (tabled : TabledAs i true none)
      (runs : ∀ s, exec i s = s.reservedMem pre grp reg m) : Template i
  | finit (pre : List Prefix) : Template (.finit pre)
  | fclex (pre : List Prefix) : Template (.fclex pre)
  | fstswAx (pre : List Prefix) : Template (.fstswAx pre)
  | wait (pre : List Prefix) : Template (.wait pre)
  | fldcw (pre : List Prefix) (m : MemArg) : Template (.fldcw pre m)
  | fstcw (pre : List Prefix) (m : MemArg) : Template (.fstcw pre m)
  | fstsw (pre : List Prefix) (m : MemArg) : Template (.fstsw pre m)
  | fldenv (pre : List Prefix) (m : MemArg) : Template (.fldenv pre m)
  | fstenv (pre : List Prefix) (m : MemArg) : Template (.fstenv pre m)
  | frstor (pre : List Prefix) (m : MemArg) : Template (.frstor pre m)
  | fsave (pre : List Prefix) (m : MemArg) : Template (.fsave pre m)

/-- Every instruction has its template, with its own row of the tables. -/
theorem template_of : (i : Instr) → Template i
  | .faddStSti .. | .fmulStSti .. | .fcomSti .. | .fcompSti .. | .fsubStSti .. | .fsubrStSti .. | .fdivStSti ..
  | .fdivrStSti .. | .fldSti .. | .fxchSti .. | .fnop .. | .fchs .. | .fabs .. | .ftst .. | .fxam .. | .fld1 ..
  | .fldl2t .. | .fldl2e .. | .fldpi .. | .fldlg2 .. | .fldln2 .. | .fldz .. | .f2xm1 .. | .fyl2x .. | .fptan ..
  | .fpatan .. | .fxtract .. | .fprem1 .. | .fdecstp .. | .fincstp .. | .fprem .. | .fyl2xp1 .. | .fsqrt ..
  | .fsincos .. | .frndint .. | .fscale .. | .fsin .. | .fcos .. | .fucompp .. | .feni .. | .fdisi ..
  | .fsetpm .. | .faddStiSt .. | .fmulStiSt .. | .fsubrStiSt .. | .fsubStiSt .. | .fdivrStiSt .. | .fdivStiSt ..
  | .ffreeSti .. | .fstSti .. | .fstpSti .. | .fucomSti .. | .fucompSti .. | .faddpStiSt .. | .fmulpStiSt ..
  | .fcompp .. | .fsubrpStiSt .. | .fsubpStiSt .. | .fdivrpStiSt .. | .fdivpStiSt .. =>
    .numReg _ _ _ _ rfl rfl ⟨fun _ => rfl, rfl, rfl, fun _ => rfl⟩ fun _ => rfl
  | .faddSingleReal .. | .fmulSingleReal .. | .fcomSingleReal .. | .fcompSingleReal .. | .fsubSingleReal ..
  | .fsubrSingleReal .. | .fdivSingleReal .. | .fdivrSingleReal .. | .fldSingleReal .. | .fiaddShortInteger ..
  | .fimulShortInteger .. | .ficomShortInteger .. | .ficompShortInteger .. | .fisubShortInteger ..
  | .fisubrShortInteger .. | .fidivShortInteger .. | .fidivrShortInteger .. | .fildShortInteger ..
  | .fldExtendedReal .. | .faddDoubleReal .. | .fmulDoubleReal .. | .fcomDoubleReal .. | .fcompDoubleReal ..
  | .fsubDoubleReal .. | .fsubrDoubleReal .. | .fdivDoubleReal .. | .fdivrDoubleReal .. | .fldDoubleReal ..
  | .fiaddWordInteger .. | .fimulWordInteger .. | .ficomWordInteger .. | .ficompWordInteger ..
  | .fisubWordInteger .. | .fisubrWordInteger .. | .fidivWordInteger .. | .fidivrWordInteger ..
  | .fildWordInteger .. | .fbldPackedDecimal .. | .fildLongInteger .. =>
    .numLoad _ _ _ _ _ _ rfl rfl ⟨fun _ => rfl, rfl, rfl, fun _ => rfl⟩ fun _ => rfl
  | .fstSingleReal .. | .fstpSingleReal .. | .fistShortInteger .. | .fistpShortInteger .. | .fstpExtendedReal ..
  | .fstDoubleReal .. | .fstpDoubleReal .. | .fistWordInteger .. | .fistpWordInteger .. | .fbstpPackedDecimal ..
  | .fistpLongInteger .. =>
    .numStore _ _ _ _ _ _ rfl rfl ⟨fun _ => rfl, rfl, rfl, fun _ => rfl⟩ fun _ => rfl
  | .reservedD9rD1 .. | .reservedD9rD2toD3 .. | .reservedD9rD4toD7 .. | .reservedD9rD8toDF ..
  | .reservedD9rE2 .. | .reservedD9rE3 .. | .reservedD9rE6 .. | .reservedD9rE7 .. | .reservedD9rEF ..
  | .reservedDArC0toDF .. | .reservedDArE0toE7 .. | .reservedDArE8 .. | .reservedDArEAtoEB ..
  | .reservedDArECtoEF .. | .reservedDArF0toFF .. | .reservedDBrC0toDF .. | .reservedDBrE5 ..
  | .reservedDBrE6toE7 .. | .reservedDBrE8toEF .. | .reservedDBrF0toFF .. | .reservedDCrD0toDF ..
  | .reservedDDrC8toCF .. | .reservedDDrF0toFF .. | .reservedDErD0toD7 .. | .reservedDErD8 ..
  | .reservedDErDAtoDB .. | .reservedDErDCtoDF .. | .reservedDFrC0toDF .. | .reservedDFrE1 ..
  | .reservedDFrE2toE3 .. | .reservedDFrE4toE7 .. | .reservedDFrE8toEF .. | .reservedDFrF0toFF .. =>
    .reservedReg _ _ _ rfl rfl ⟨fun _ => rfl, rfl, rfl, fun _ => rfl⟩ fun _ => rfl
  | .reservedD9mem1 .. | .reservedDBmem1 .. | .reservedDBmem4 .. | .reservedDBmem6 .. | .reservedDDmem1 ..
  | .reservedDDmem5 .. | .reservedDFmem1 .. =>
    .reservedMem _ _ _ _ rfl rfl ⟨fun _ => rfl, rfl, rfl, fun _ => rfl⟩ fun _ => rfl
  | .finit pre => .finit pre
  | .fclex pre => .fclex pre
  | .fstswAx pre => .fstswAx pre
  | .wait pre => .wait pre
  | .fldcw pre m => .fldcw pre m
  | .fstcw pre m => .fstcw pre m
  | .fstsw pre m => .fstsw pre m
  | .fldenv pre m => .fldenv pre m
  | .fstenv pre m => .fstenv pre m
  | .frstor pre m => .frstor pre m
  | .fsave pre m => .fsave pre m

section
variable (pre : List Prefix) (m : MemArg) (s : State)

/-! ### The administrative instructions -/

theorem exec_finit : exec (.finit pre) s = s.regForm noWaitKind pre 3 0xE3 State.init := rfl

theorem exec_fclex : exec (.fclex pre) s =
    s.regForm noWaitKind pre 3 0xE2 fun t => (onNpx (fun _ => clearExceptions) t).drawCC := rfl

theorem exec_fstswAx : exec (.fstswAx pre) s = s.regForm noWaitKind pre 7 0xE0 State.storeStatusAx := rfl

theorem exec_wait : exec (.wait pre) s = execWait pre s := rfl

theorem exec_fldcw : exec (.fldcw pre m) s = s.memForm adminKind pre 1 5 m 2 false State.loadControl := rfl

theorem exec_fstcw : exec (.fstcw pre m) s =
    s.memForm (fstcwKind s.params) pre 1 7 m 2 true fun r t => (t.writeOperand r 2 t.npx.cw.toNat).drawCC := rfl

theorem exec_fstsw : exec (.fstsw pre m) s =
    s.memForm noWaitKind pre 5 7 m 2 true fun r t => (t.writeOperand r 2 t.npx.statusWord.toNat).drawCC := rfl

theorem exec_fldenv : exec (.fldenv pre m) s =
    s.memForm adminKind pre 1 4 m (envSize (s.operandSize pre)) false
      (State.loadEnvironment (s.operandSize pre)) := rfl

theorem exec_fstenv : exec (.fstenv pre m) s =
    s.memForm noWaitKind pre 1 6 m (envSize (s.operandSize pre)) true (State.storeEnv (s.operandSize pre)) := rfl

theorem exec_frstor : exec (.frstor pre m) s =
    s.memForm adminKind pre 5 4 m (stateSize (s.operandSize pre)) false
      (State.restoreState (s.operandSize pre)) := rfl

theorem exec_fsave : exec (.fsave pre m) s =
    s.memForm noWaitKind pre 5 6 m (stateSize (s.operandSize pre)) true
      (State.saveState (s.operandSize pre)) := rfl

end

/-! ### Entering an instruction that may go on -/

theorem isWait_eq_false_of_operandUse {i : Instr} {z : Size} {u : OperandUse} (h : i.operandUse z = some u) :
    i.isWait = false := by
  cases i with
  | wait pre => cases h
  | _ => rfl

theorem isWait_eq_false_of_reserved {i : Instr} (h : i.reserved = true) : i.isWait = false := by
  cases i with
  | wait pre => cases h
  | _ => rfl

/-- An ESC instruction that no interrupt 7, BUSY# or ERROR# stops passes step 2 of R361. -/
theorem State.escEntry_run_of_proceeds {s : State} {i : Instr} (hi : i.isWait = false) (ha : s.available i = true)
    (hp : s.proceeds i = true) : s.escEntry (i.waits s.params) = .run := by
  rw [State.escEntry_run]
  simp only [State.available, hi, State.proceeds] at ha hp
  cases hw : i.waits s.params <;> simp_all

/-! ### The operand of an instruction -/

theorem State.operand_of_parts {i : Instr} {pre : List Prefix} {k : Nat} {m : MemArg} (s : State)
    (parts : i.parts = (pre, k, some m)) :
    s.operand i = (i.operandUse (s.operandSize pre)).map fun u => (effectiveAddress s.cpu pre m, u) := by
  simp only [State.operand, State.operandRef, Instr.memArg?, Instr.prefixes, parts, Option.map_some]
  cases i.operandUse (s.operandSize pre) <;> rfl

theorem State.operandUse_of_operand {s : State} {i : Instr} {r : MemRef} {u : OperandUse}
    (h : s.operand i = some (r, u)) : i.operandUse (s.operandSize i.prefixes) = some u := by
  unfold State.operand at h
  split at h
  · next hu => cases h; exact hu
  · cases h

@[simp] theorem fstcwKind_waiting (p : Params) : (fstcwKind p).waiting = p.fnstcwChecksError := by
  unfold fstcwKind
  cases p.fnstcwChecksError <;> rfl

theorem operandUse_fldenv (pre : List Prefix) (m : MemArg) (z : Size) :
    (Instr.fldenv pre m).operandUse z = some ⟨envSize z, false⟩ := by cases z <;> rfl

theorem operandUse_fstenv (pre : List Prefix) (m : MemArg) (z : Size) :
    (Instr.fstenv pre m).operandUse z = some ⟨envSize z, true⟩ := by cases z <;> rfl

theorem operandUse_frstor (pre : List Prefix) (m : MemArg) (z : Size) :
    (Instr.frstor pre m).operandUse z = some ⟨stateSize z, false⟩ := by cases z <;> rfl

theorem operandUse_fsave (pre : List Prefix) (m : MemArg) (z : Size) :
    (Instr.fsave pre m).operandUse z = some ⟨stateSize z, true⟩ := by cases z <;> rfl

/-- `exec` runs `i` by the template of a memory form on the operand `r`, and waits if the tables say so. -/
def RunsOnOperand (i : Instr) (s : State) (r : MemRef) (u : OperandUse) : Prop :=
  ∃ k op body, k.waiting = i.waits s.params ∧ exec i s = s.escMem k op i.length r u.bytes u.stores body

theorem runsOnOperand_of_memForm {i : Instr} {s : State} {r : MemRef} {u : OperandUse} {k : EscKind}
    {pre : List Prefix} {grp reg : BitVec 3} {m : MemArg} {n : Nat} {w : Bool} {body : MemRef → State → State}
    (h : s.operand i = some (r, u)) (parts : i.parts = (pre, 2, some m))
    (hu : i.operandUse (s.operandSize pre) = some ⟨n, w⟩) (hk : k.waiting = i.waits s.params)
    (runs : exec i s = s.memForm k pre grp reg m n w body) : RunsOnOperand i s r u := by
  rw [s.operand_of_parts parts, hu] at h
  cases h
  refine ⟨k, grp ++ m.modrm reg, body (effectiveAddress s.cpu pre m), hk, ?_⟩
  have hlen : i.length = pre.length + 2 + m.tail.length := by
    simp [Instr.length, Instr.prefixes, Instr.memArg?, parts, MemArg.tail_length]
  rw [runs, hlen]
  rfl

/-- An instruction with a memory operand of known size runs by the template of a memory form on that operand. -/
theorem exec_of_operand {i : Instr} {s : State} {r : MemRef} {u : OperandUse} (h : s.operand i = some (r, u)) :
    RunsOnOperand i s r u := by
  have hu := s.operandUse_of_operand h
  cases template_of i with
  | numReg pre grp b2 f _ _ tabled _ => rw [tabled.operandUse] at hu; cases hu
  | reservedReg pre grp b2 _ _ tabled _ => rw [tabled.operandUse] at hu; cases hu
  | reservedMem pre grp reg m _ _ tabled _ => rw [tabled.operandUse] at hu; cases hu
  | finit pre => cases hu
  | fclex pre => cases hu
  | fstswAx pre => cases hu
  | wait pre => cases hu
  | numLoad pre grp reg m n f _ parts tabled runs =>
    exact runsOnOperand_of_memForm h parts (tabled.operandUse _) (tabled.waits _).symm (runs s)
  | numStore pre grp reg m n f _ parts tabled runs =>
    exact runsOnOperand_of_memForm h parts (tabled.operandUse _) (tabled.waits _).symm (runs s)
  | fldcw pre m => exact runsOnOperand_of_memForm h rfl rfl rfl (exec_fldcw ..)
  | fstcw pre m => exact runsOnOperand_of_memForm h rfl rfl (fstcwKind_waiting _) (exec_fstcw ..)
  | fstsw pre m => exact runsOnOperand_of_memForm h rfl rfl rfl (exec_fstsw ..)
  | fldenv pre m => exact runsOnOperand_of_memForm h rfl (operandUse_fldenv ..) rfl (exec_fldenv ..)
  | fstenv pre m => exact runsOnOperand_of_memForm h rfl (operandUse_fstenv ..) rfl (exec_fstenv ..)
  | frstor pre m => exact runsOnOperand_of_memForm h rfl (operandUse_frstor ..) rfl (exec_frstor ..)
  | fsave pre m => exact runsOnOperand_of_memForm h rfl (operandUse_fsave ..) rfl (exec_fsave ..)

/-- A reserved encoding runs by the rule of reserved encodings, whatever its operand. -/
theorem exec_of_reserved {i : Instr} (h : i.reserved = true) :
    (∀ p, i.waits p = true) ∧ ∃ op len, ∀ s, exec i s = s.escReserved op len := by
  cases template_of i with
  | reservedReg pre grp b2 _ _ tabled runs => exact ⟨tabled.waits, _, _, runs⟩
  | reservedMem pre grp reg m _ _ tabled runs => exact ⟨tabled.waits, _, _, runs⟩
  | numReg pre grp b2 f _ _ tabled _ => rw [tabled.reserved] at h; cases h
  | numLoad pre grp reg m n f _ _ tabled _ => rw [tabled.reserved] at h; cases h
  | numStore pre grp reg m n f _ _ tabled _ => rw [tabled.reserved] at h; cases h
  | _ => cases h

end Sys2Proof.Machine
end

section
/-! Where the machine stops by name (R5, R79, R122, R427). -/

namespace Sys2Proof.Machine

/-! ### The stops of a step -/

theorem mem_fetchAddresses {base eip : BitVec 32} {n a : Nat} :
    a ∈ fetchAddresses base eip n ↔ ∃ k < n, a = (base + (eip + BitVec.ofNat 32 k)).toNat := by
  induction n generalizing eip with
  | zero => simp [fetchAddresses]
  | succ n ih =>
    have hs (k : Nat) : eip + 1 + BitVec.ofNat 32 k = eip + BitVec.ofNat 32 (k + 1) := by
      rw [BitVec.ofNat_add]; ac_rfl
    simp only [fetchAddresses, List.mem_cons, ih, hs]
    constructor
    · rintro (rfl | ⟨k, hk, rfl⟩)
      · exact ⟨0, by omega, by simp⟩
      · exact ⟨k + 1, by omega, rfl⟩
    · rintro ⟨k, hk, rfl⟩
      cases k with
      | zero => exact .inl (by simp)
      | succ k => exact .inr ⟨k, by omega, rfl⟩

/-- A fetch is refused as self-modified exactly where such code is refused and a byte of it was stored (R426). -/
theorem State.selfModified_iff {s : State} {n : Nat} :
    s.selfModified n = true ↔ s.params.selfModifyingCode = .refuse ∧
      ∃ k < n, (s.cpu.segs.cs.base + (s.cpu.eip + BitVec.ofNat 32 k)).toNat ∈ s.stored := by
  simp only [State.selfModified, Bool.and_eq_true, decide_eq_true_eq, List.any_eq_true, List.contains_iff_mem,
    mem_fetchAddresses]
  refine and_congr_right fun _ => ⟨?_, ?_⟩
  · rintro ⟨_, ⟨k, hk, rfl⟩, hm⟩
    exact ⟨k, hk, hm⟩
  · rintro ⟨k, hk, hm⟩
    exact ⟨_, ⟨k, hk, rfl⟩, hm⟩

theorem step_of_stranded {s : State} (h : s.stranded = true) : step s = .fault .interruptWithoutHandler := by
  simp [step, h]

theorem step_of_endAddress {s : State} (h : s.stranded = false) (he : s.launch.endAddress = some s.cpu.eip) :
    step s = .fault .runEnded := by
  simp [step, h, he]

theorem step_of_fetch_error {s : State} {e : DecodeError} (h : s.stranded = false)
    (he : s.launch.endAddress ≠ some s.cpu.eip) (hf : s.fetch = .error e) : step s = .refused (.undecodable e) := by
  simp [step, h, he, hf]

/-- A step whose fetch answers an instruction: refused at the code-segment limit or as self-modified, else run. -/
theorem step_of_fetch_ok {s : State} {p : Instr × Nat} (h : s.stranded = false)
    (he : s.launch.endAddress ≠ some s.cpu.eip) (hf : s.fetch = .ok p) :
    step s = if s.codeAllowed p.2 = false then .refused .codeSegmentLimit
      else if s.selfModified p.2 = true then .refused .selfModifyingCode else exec p.1 s := by
  simp [step, h, he, hf]

/-! ### The stops of an instruction -/

theorem startWidth_eq (r : MemRef) (n : Nat) : startWidth r n = if r.size = .s16 ∨ n = 2 then 2 else 4 := by
  unfold startWidth
  cases r.size <;> simp

/-- An operand that begins inside its segment and on which the host reports a fault stops a memory form (R79). -/
theorem State.escMem_hostFault {s : State} {k : EscKind} {op : BitVec 11} {len : Nat} {r : MemRef} {n : Nat} {w : Bool}
    {body : State → State} (h : s.escEntry k.waiting = .run) (ha : s.cpu.segs.allowsBytes r (startWidth r n) = true)
    (hf : s.launch.hostFaultOn r n w = true) : s.escMem k op len r n w body = .fault .hostMemoryFault := by
  simp [State.escMem, h, ha, hf]

theorem State.escReserved_refuse {s : State} {op : BitVec 11} {len : Nat} (h : s.escEntry true = .run)
    (hp : s.params.reservedEsc = .refuse) : s.escReserved op len = .refused .reservedEncoding := by
  simp [State.escReserved, h, hp]

theorem exec_hostFault {i : Instr} {s : State} {r : MemRef} {u : OperandUse} (ha : s.available i = true)
    (hp : s.proceeds i = true) (ho : s.operand i = some (r, u))
    (hs : s.cpu.segs.allowsBytes r (startWidth r u.bytes) = true)
    (hf : s.launch.hostFaultOn r u.bytes u.stores = true) : exec i s = .fault .hostMemoryFault := by
  obtain ⟨k, op, body, hk, he⟩ := exec_of_operand ho
  have hi := isWait_eq_false_of_operandUse (s.operandUse_of_operand ho)
  rw [he]
  exact State.escMem_hostFault (hk ▸ State.escEntry_run_of_proceeds hi ha hp) hs hf

theorem exec_reserved_refuse {i : Instr} {s : State} (hr : i.reserved = true) (hp : s.params.reservedEsc = .refuse)
    (ha : s.available i = true) (hgo : s.proceeds i = true) : exec i s = .refused .reservedEncoding := by
  obtain ⟨hw, op, len, he⟩ := exec_of_reserved hr
  have hrun := State.escEntry_run_of_proceeds (isWait_eq_false_of_reserved hr) ha hgo
  rw [hw] at hrun
  rw [he]
  exact State.escReserved_refuse hrun hp

/-- Settles O15: a step and an instruction stop where they are said to, each stop by its own lemma. -/
theorem stopsByName : Obligations.StopsByName := by
  unfold Obligations.StopsByName
  refine ⟨fun s => ⟨step_of_stranded, step_of_endAddress, fun h he => ⟨fun e => step_of_fetch_error h he, ?_, ?_⟩⟩,
    ?_, fun i s => exec_reserved_refuse⟩
  · intro p hf hlimit
    rw [step_of_fetch_ok h he hf, if_pos hlimit]
  · intro p hf hlimit hp hm
    rw [step_of_fetch_ok h he hf, if_neg (by simp [hlimit]), if_pos (State.selfModified_iff.mpr ⟨hp, hm⟩)]
  · intro i s r u ha hp ho hs hf
    rw [← startWidth_eq] at hs
    exact exec_hostFault ha hp ho hs hf

end Sys2Proof.Machine
end

section
/-! The mode of the 80386 and the NPX (R14, R386): a simulation between two runs that differ in the mode. -/

namespace Sys2Proof.Machine

/-! ### States that differ in the mode, and in what has a format by mode -/

/-- The state `t` in another mode, with other pointers and another memory. -/
def State.inMode (t : State) (md : CpuMode) (p : Pointers) (m : Memory) : State :=
  { t with cpu := { t.cpu with mode := md }, ptrs := p, mem := m }

/-- The outcome in mode `md` is that of the other mode but for the pointers and, unless `sameMem`, for memory. -/
inductive AgreesInMode (md : CpuMode) (sameMem : Prop) : Result → Result → Prop
  | next (t : State) (p : Pointers) (m : Memory) (hm : sameMem → m = t.mem) :
      AgreesInMode md sameMem (.next t) (.next (t.inMode md p m))
  | fault (f : Fault) : AgreesInMode md sameMem (.fault f) (.fault f)
  | refused (e : Refusal) : AgreesInMode md sameMem (.refused e) (.refused e)

/-- An instruction's rule keeps two states in agreement that differ in the mode and the pointers; only where not
`sameMem` may it store bytes by the mode. -/
def BodyAgrees (md : CpuMode) (sameMem : Prop) (body : State → State) : Prop :=
  ∀ (t : State) (p : Pointers), ∃ p' m', body (t.inMode md p t.mem) = (body t).inMode md p' m' ∧
    (sameMem → m' = (body t).mem)

theorem AgreesInMode.next_of_eq {md : CpuMode} {c : Prop} {t t' : State} {p : Pointers}
    (h : t' = t.inMode md p t.mem) : AgreesInMode md c (.next t) (.next t') :=
  h ▸ .next t p t.mem fun _ => rfl

section
variable (s : State) (md : CpuMode) (p : Pointers) (m : Memory)

@[simp] theorem State.inMode_npx : (s.inMode md p m).npx = s.npx := rfl
@[simp] theorem State.inMode_draws : (s.inMode md p m).draws = s.draws := rfl
@[simp] theorem State.inMode_launch : (s.inMode md p m).launch = s.launch := rfl
@[simp] theorem State.inMode_params : (s.inMode md p m).params = s.params := rfl
@[simp] theorem State.inMode_segs : (s.inMode md p m).cpu.segs = s.cpu.segs := rfl
@[simp] theorem State.inMode_ts : (s.inMode md p m).cpu.ts = s.cpu.ts := rfl
@[simp] theorem State.inMode_mp : (s.inMode md p m).cpu.mp = s.cpu.mp := rfl
@[simp] theorem State.inMode_here : (s.inMode md p m).here = s.here := rfl
@[simp] theorem State.inMode_waitEntry : (s.inMode md p m).waitEntry = s.waitEntry := rfl
@[simp] theorem State.inMode_escEntry (w : Bool) : (s.inMode md p m).escEntry w = s.escEntry w := rfl
@[simp] theorem State.inMode_operandSize (pre : List Prefix) :
    (s.inMode md p m).operandSize pre = s.operandSize pre := rfl

/-! ### The shared operations do not read the mode -/

theorem State.takeInterrupt_inMode (v : Interrupt) (ret : FarPtr) :
    (s.inMode md p m).takeInterrupt v ret = (s.takeInterrupt v ret).inMode md p m := by
  unfold State.takeInterrupt
  rw [State.inMode_launch]
  split <;> rfl

theorem State.finish_inMode (len : Nat) (t : State) (p' : Pointers) (m' : Memory) :
    (s.inMode md p m).finish len (t.inMode md p' m') = (s.finish len t).inMode md p' m' := rfl

/-- The pointers alone can depend on the mode when an instruction starts (R175, 92 D11). -/
theorem State.startEsc_inMode (k : EscKind) (op : BitVec 11) (r : Option MemRef) :
    ∃ p', (s.inMode md p m).startEsc k op r = (s.startEsc k op r).inMode md p' m := by
  unfold State.startEsc
  split
  · exact ⟨_, rfl⟩
  · exact ⟨p, rfl⟩

/-- What interrupt 9 draws does not depend on the mode (R381). -/
theorem State.segmentOverrun_inMode (op : BitVec 11) (r : MemRef) (n : Nat) (w : Bool) :
    (s.inMode md p s.mem).segmentOverrun op r n w =
      (s.segmentOverrun op r n w).inMode md (s.segmentOverrun op r n w).ptrs (s.segmentOverrun op r n w).mem := by
  cases w <;>
  · simp only [State.segmentOverrun, State.takeInterrupt_ptrs, State.takeInterrupt_mem]
    rw [← State.takeInterrupt_inMode]
    rfl

end

/-! ### The templates -/

section
variable {s : State} {md : CpuMode} {c : Prop} {p : Pointers}

theorem agrees_takeInterrupt (v : Interrupt) : AgreesInMode md c (.next (s.takeInterrupt v s.here))
    (.next ((s.inMode md p s.mem).takeInterrupt v (s.inMode md p s.mem).here)) := by
  apply AgreesInMode.next_of_eq (p := p)
  rw [State.takeInterrupt_inMode, State.takeInterrupt_mem, State.inMode_here]

/-- The last step of both templates: the rule of the instruction, from the pointers it starts with. -/
theorem agrees_finish {k : EscKind} {op : BitVec 11} {r : Option MemRef} {body : State → State} (len : Nat)
    (hb : BodyAgrees md c body) : AgreesInMode md c (.next (s.finish len (body (s.startEsc k op r))))
      (.next ((s.inMode md p s.mem).finish len (body ((s.inMode md p s.mem).startEsc k op r)))) := by
  obtain ⟨p₁, h₁⟩ := s.startEsc_inMode md p s.mem k op r
  obtain ⟨p₂, m₂, h₂, hm⟩ := hb (s.startEsc k op r) p₁
  rw [State.startEsc_mem] at h₂
  rw [h₁, h₂, State.finish_inMode]
  exact .next _ p₂ m₂ hm

theorem agrees_escReg {k : EscKind} {op : BitVec 11} {len : Nat} {body : State → State} (hb : BodyAgrees md c body) :
    AgreesInMode md c (s.escReg k op len body) ((s.inMode md p s.mem).escReg k op len body) := by
  unfold State.escReg
  rw [State.inMode_escEntry]
  cases s.escEntry k.waiting with
  | trap v => exact agrees_takeInterrupt v
  | hold => exact .next_of_eq rfl
  | run => exact agrees_finish len hb

theorem agrees_escMem {k : EscKind} {op : BitVec 11} {len : Nat} {r : MemRef} {n : Nat} {w : Bool}
    {body : State → State} (hb : BodyAgrees md c body) :
    AgreesInMode md c (s.escMem k op len r n w body) ((s.inMode md p s.mem).escMem k op len r n w body) := by
  unfold State.escMem
  rw [State.inMode_escEntry, State.inMode_segs, State.inMode_launch]
  cases s.escEntry k.waiting with
  | trap v => exact agrees_takeInterrupt v
  | hold => exact .next_of_eq rfl
  | run =>
    dsimp only
    split
    · exact agrees_takeInterrupt _
    · split
      · exact .fault _
      · split
        · exact .next_of_eq (s.segmentOverrun_inMode md p op r n w)
        · exact agrees_finish len hb

theorem agrees_memForm {k : EscKind} {pre : List Prefix} {grp reg : BitVec 3} {m : MemArg} {n : Nat} {w : Bool}
    {body : MemRef → State → State} (hb : ∀ r, BodyAgrees md c (body r)) :
    AgreesInMode md c (s.memForm k pre grp reg m n w body)
      ((s.inMode md p s.mem).memForm k pre grp reg m n w body) :=
  agrees_escMem (hb _)

theorem agrees_execWait (pre : List Prefix) :
    AgreesInMode md c (execWait pre s) (execWait pre (s.inMode md p s.mem)) := by
  unfold execWait
  rw [State.inMode_waitEntry, State.inMode_ts, State.inMode_mp]
  split
  · exact agrees_takeInterrupt _
  · cases s.waitEntry with
    | trap v => exact agrees_takeInterrupt v
    | hold => exact .next_of_eq rfl
    | run => exact .next_of_eq (s.finish_inMode md p s.mem _ s p s.mem)

end

/-! ### The rules of the instructions -/

section
variable {md : CpuMode} {c : Prop}

/-- A rule that commutes with a change of mode and pointers agrees. -/
theorem BodyAgrees.of_eq {body : State → State} (f : State → Pointers → Pointers)
    (h : ∀ t p, body (t.inMode md p t.mem) = (body t).inMode md (f t p) (body t).mem) : BodyAgrees md c body :=
  fun t p => ⟨f t p, (body t).mem, h t p, fun _ => rfl⟩

theorem bodyAgrees_onNpx (f : Nat → Npx → Npx) : BodyAgrees md c (onNpx f) := .of_eq (fun _ p => p) fun _ _ => rfl

theorem bodyAgrees_loadThen (n : Nat) (f : Nat → Nat → Npx → Npx) (r : MemRef) : BodyAgrees md c (loadThen n f r) :=
  .of_eq (fun _ p => p) fun _ _ => rfl

theorem bodyAgrees_storeThen (n : Nat) (f : Nat → Npx → StoreEffect) (r : MemRef) :
    BodyAgrees md c (storeThen n f r) := by
  refine .of_eq (fun _ p => p) fun t p => ?_
  simp only [storeThen, State.inMode_npx, State.inMode_draws, State.inMode_params]
  cases (f t.draws t.npx).written t.params n t.draws with
  | some v => rfl
  | none => rfl

theorem bodyAgrees_drawReserved : BodyAgrees md c drawReserved := .of_eq (fun _ p => p) fun _ _ => rfl

theorem bodyAgrees_init : BodyAgrees md c State.init := .of_eq (fun _ _ => ⟨0, 0, 0, 0, 0⟩) fun _ _ => rfl

theorem bodyAgrees_storeStatusAx : BodyAgrees md c State.storeStatusAx := .of_eq (fun _ p => p) fun _ _ => rfl

theorem bodyAgrees_clearExceptions :
    BodyAgrees md c fun t => (onNpx (fun _ => clearExceptions) t).drawCC :=
  .of_eq (fun _ p => p) fun _ _ => rfl

/-- FSTCW and FSTSW: a word of the NPX is stored. -/
theorem bodyAgrees_storeWord (v : Npx → BitVec 16) (r : MemRef) :
    BodyAgrees md c fun t => (t.writeOperand r 2 (v t.npx).toNat).drawCC :=
  .of_eq (fun _ p => p) fun _ _ => rfl

theorem bodyAgrees_loadControl (r : MemRef) : BodyAgrees md c (State.loadControl r) :=
  .of_eq (fun _ p => p) fun _ _ => rfl

/-- FLDENV reads the pointers by the mode, and nothing else (R336). -/
theorem bodyAgrees_loadEnvironment (z : Size) (r : MemRef) : BodyAgrees md c (State.loadEnvironment z r) :=
  .of_eq (fun t p => loadPointers (usesRealFormat md) z (t.readOperand r (envSize z)) p) fun _ _ => rfl

theorem bodyAgrees_restoreState (z : Size) (r : MemRef) : BodyAgrees md c (State.restoreState z r) :=
  .of_eq (fun t p => loadPointers (usesRealFormat md) z (t.readOperand r (stateSize z)) p) fun _ _ => rfl

/-- FSTENV stores an image by the mode, and what it leaves in the NPX does not depend on it (R337). -/
theorem bodyAgrees_storeEnv (hc : ¬ c) (z : Size) (r : MemRef) : BodyAgrees md c (State.storeEnv z r) :=
  fun _ p => ⟨p, _, rfl, fun h => absurd h hc⟩

theorem bodyAgrees_saveState (hc : ¬ c) (z : Size) (r : MemRef) : BodyAgrees md c (State.saveState z r) :=
  fun _ _ => ⟨_, _, rfl, fun h => absurd h hc⟩

end

theorem agrees_escReserved {s : State} {md : CpuMode} {c : Prop} {p : Pointers} (op : BitVec 11) (len : Nat) :
    AgreesInMode md c (s.escReserved op len) ((s.inMode md p s.mem).escReserved op len) := by
  unfold State.escReserved
  rw [State.inMode_params, State.inMode_escEntry]
  cases s.params.reservedEsc with
  | draw => exact agrees_escReg bodyAgrees_drawReserved
  | refuse =>
    cases s.escEntry true with
    | trap v => exact agrees_takeInterrupt v
    | hold => exact .next_of_eq rfl
    | run => exact .refused _

/-- The instructions that store an image whose format depends on the mode (R335, R338). -/
def StoresImage (i : Instr) : Prop := ∃ pre m, i = .fstenv pre m ∨ i = .fsave pre m

/-- Every instruction agrees with itself in another mode; only FSTENV and FSAVE may store other bytes. -/
theorem exec_agreesInMode (i : Instr) (s : State) (md : CpuMode) (p : Pointers) :
    AgreesInMode md (¬ StoresImage i) (exec i s) (exec i (s.inMode md p s.mem)) := by
  cases template_of i with
  | numReg pre grp b2 f _ _ _ runs => rw [runs, runs]; exact agrees_escReg (bodyAgrees_onNpx f)
  | numLoad pre grp reg m n f _ _ _ runs => rw [runs, runs]; exact agrees_memForm (bodyAgrees_loadThen n f)
  | numStore pre grp reg m n f _ _ _ runs => rw [runs, runs]; exact agrees_memForm (bodyAgrees_storeThen n f)
  | reservedReg pre grp b2 _ _ _ runs => rw [runs, runs]; exact agrees_escReserved _ _
  | reservedMem pre grp reg m _ _ _ runs => rw [runs, runs]; exact agrees_escReserved _ _
  | finit pre => rw [exec_finit, exec_finit]; exact agrees_escReg bodyAgrees_init
  | fclex pre => rw [exec_fclex, exec_fclex]; exact agrees_escReg bodyAgrees_clearExceptions
  | fstswAx pre => rw [exec_fstswAx, exec_fstswAx]; exact agrees_escReg bodyAgrees_storeStatusAx
  | wait pre => rw [exec_wait, exec_wait]; exact agrees_execWait pre
  | fldcw pre m => rw [exec_fldcw, exec_fldcw]; exact agrees_memForm bodyAgrees_loadControl
  | fstcw pre m =>
    rw [exec_fstcw, exec_fstcw, State.inMode_params]
    exact agrees_memForm (bodyAgrees_storeWord Npx.cw)
  | fstsw pre m => rw [exec_fstsw, exec_fstsw]; exact agrees_memForm (bodyAgrees_storeWord Npx.statusWord)
  | fldenv pre m =>
    rw [exec_fldenv, exec_fldenv, State.inMode_operandSize]
    exact agrees_memForm (bodyAgrees_loadEnvironment _)
  | frstor pre m =>
    rw [exec_frstor, exec_frstor, State.inMode_operandSize]
    exact agrees_memForm (bodyAgrees_restoreState _)
  | fstenv pre m =>
    have hc : ¬¬ StoresImage (.fstenv pre m) := not_not_intro ⟨pre, m, .inl rfl⟩
    rw [exec_fstenv, exec_fstenv, State.inMode_operandSize]
    exact agrees_memForm (bodyAgrees_storeEnv hc _)
  | fsave pre m =>
    have hc : ¬¬ StoresImage (.fsave pre m) := not_not_intro ⟨pre, m, .inr rfl⟩
    rw [exec_fsave, exec_fsave, State.inMode_operandSize]
    exact agrees_memForm (bodyAgrees_saveState hc _)

/-- Settles O23: the two runs agree by `exec_agreesInMode`, read off by the kind of outcome. -/
theorem modeIndependence : Obligations.ModeIndependence := by
  unfold Obligations.ModeIndependence
  intro i s md
  have hs : ({ s with cpu := { s.cpu with mode := md } } : State) = s.inMode md s.ptrs s.mem := rfl
  have h := exec_agreesInMode i s md s.ptrs
  simp only [hs]
  generalize exec i s = o at h ⊢
  generalize exec i (s.inMode md s.ptrs s.mem) = o' at h ⊢
  cases h with
  | next t p m hm =>
    refine ⟨?_, nofun, nofun⟩
    rintro _ ⟨⟩
    refine ⟨_, rfl, rfl, rfl, rfl, fun hi => hm ?_⟩
    rintro ⟨pre, a, h | h⟩
    · exact (hi pre a).1 h
    · exact (hi pre a).2 h
  | fault f => exact ⟨fun _ h => (nomatch h), fun _ h => h, nofun⟩
  | refused e => exact ⟨fun _ h => (nomatch h), nofun, fun _ h => h⟩

end Sys2Proof.Machine
end

section
/-! The ways an instruction ends (R361), and what reaches memory in each of them (R72, R75, R78, R381). -/

namespace Sys2Proof.Machine

/-! ### The ways an instruction ends -/

/-- The states an instruction can leave: an interrupt taken in its place, a hold, interrupt 9 in its transfer, or
completion from the state its rule left. `P` holds where the instruction was executed, in whole or in part. -/
inductive Ends (s : State) (P : State → Prop) : State → Prop
  | trap (v : Interrupt) : Ends s P (s.takeInterrupt v s.here)
  | hold : Ends s P s
  | overrun (op : BitVec 11) (r : MemRef) (n : Nat) (w : Bool) (h : P (s.segmentOverrun op r n w)) :
      Ends s P (s.segmentOverrun op r n w)
  | finish (len : Nat) (t : State) (h : P t) : Ends s P (s.finish len t)

section
variable {s t : State} {P : State → Prop} {k : EscKind} {op : BitVec 11} {len : Nat} {body : State → State}

theorem State.escReg_ends (h : s.escReg k op len body = .next t) (hb : P (body (s.startEsc k op none))) :
    Ends s P t := by
  obtain ⟨v, -, ht⟩ | ⟨-, ht⟩ | ⟨-, ht⟩ := State.escReg_cases h <;> cases ht
  · exact .trap v
  · exact .hold
  · exact .finish len _ hb

theorem State.escMem_ends {r : MemRef} {n : Nat} {w : Bool} (h : s.escMem k op len r n w body = .next t)
    (ho : P (s.segmentOverrun op r n w)) (hb : P (body (s.startEsc k op (some r)))) : Ends s P t := by
  obtain ⟨v, -, ht⟩ | ⟨-, ht⟩ | ⟨-, ⟨-, ht⟩ | ⟨-, -, ht⟩ | ⟨-, -, -, ht⟩ | ⟨-, -, ht⟩⟩ := State.escMem_cases h <;>
    cases ht
  · exact .trap v
  · exact .hold
  · exact .trap _
  · exact .overrun op r n w ho
  · exact .finish len _ hb

theorem State.escReserved_ends (h : s.escReserved op len = .next t)
    (hb : P (drawReserved (s.startEsc numericKind op none))) : Ends s P t := by
  unfold State.escReserved at h
  split at h
  · exact State.escReg_ends h hb
  · split at h <;> cases h
    · exact .trap _
    · exact .hold

theorem execWait_ends {pre : List Prefix} (h : execWait pre s = .next t) (hs : P s) : Ends s P t := by
  unfold execWait at h
  split at h
  · cases h
    exact .trap _
  · split at h <;> cases h
    · exact .trap _
    · exact .hold
    · exact .finish _ _ hs

end

/-! ### What reaches memory -/

/-- Memory and the record of stored bytes are those of `s` after a store to some of the addresses `as`, or to none. -/
def State.StoresWithin (as : List Nat) (s t : State) : Prop :=
  ∃ bs v, bs ⊆ as ∧ t.mem = (s.storeAt bs v).mem ∧ t.stored = (s.storeAt bs v).stored

section
variable {as bs : List Nat} {s s' t t' : State}

theorem State.StoresWithin.of_eq (hm : t.mem = s.mem) (hs : t.stored = s.stored) : State.StoresWithin as s t := by
  refine ⟨[], 0, List.nil_subset _, hm, hs.trans ?_⟩
  unfold State.storeAt
  cases s.params.selfModifyingCode <;> rfl

theorem State.storesWithin_storeAt (h : bs ⊆ as) (v : Nat) : State.StoresWithin as s (s.storeAt bs v) :=
  ⟨bs, v, h, rfl, rfl⟩

theorem State.StoresWithin.mono (h : State.StoresWithin bs s t) (hb : bs ⊆ as) : State.StoresWithin as s t := by
  obtain ⟨cs, v, hc, hm, hs⟩ := h
  exact ⟨cs, v, List.Subset.trans hc hb, hm, hs⟩

/-- Only memory, the record of stored bytes and the parameters matter. -/
theorem State.StoresWithin.congr (h : State.StoresWithin as s t) (hp : s'.params = s.params) (hm : s'.mem = s.mem)
    (hs : s'.stored = s.stored) (hm' : t'.mem = t.mem) (hs' : t'.stored = t.stored) : State.StoresWithin as s' t' := by
  obtain ⟨bs, v, hb, htm, hts⟩ := h
  refine ⟨bs, v, hb, ?_, ?_⟩
  · rw [hm', htm, State.storeAt_mem, State.storeAt_mem, hm]
  · rw [hs', hts]
    simp only [State.storeAt, hp, hs]

theorem State.StoresWithin.read_eq (h : State.StoresWithin as s t) {a : Nat} (ha : a ∉ as) :
    t.mem.read a = s.mem.read a := by
  obtain ⟨bs, v, hb, hm, -⟩ := h
  rw [hm]
  exact Memory.read_writeList_of_notMem bs s.mem v a fun hab => ha (hb hab)

theorem State.StoresWithin.wf (h : State.StoresWithin as s t) (ha : ∀ a ∈ as, a < addressSpace)
    (hs : s.mem.wf = true) : t.mem.wf = true := by
  obtain ⟨bs, v, hb, hm, -⟩ := h
  rw [hm]
  exact Memory.wf_writeList hs bs v fun a hab => ha a (hb hab)

theorem State.StoresWithin.stored_coherent (h : State.StoresWithin as s t)
    (hp : s.params.selfModifyingCode = .coherent) : t.stored = s.stored := by
  obtain ⟨bs, v, -, -, hs⟩ := h
  simp [hs, State.storeAt, hp]

/-- Under `SelfModifyingCode.refuse` the record keeps what it had and takes every changed byte (R426). -/
theorem State.StoresWithin.mem_stored (h : State.StoresWithin as s t) (hp : s.params.selfModifyingCode = .refuse)
    {a : Nat} (ha : a ∈ s.stored ∨ t.mem.read a ≠ s.mem.read a) : a ∈ t.stored := by
  obtain ⟨bs, v, -, hm, hs⟩ := h
  rw [hs, State.mem_storeAt_stored]
  refine ha.symm.imp_left fun hr => ⟨hp, ?_⟩
  by_contra hab
  exact hr (hm ▸ Memory.read_writeList_of_notMem bs s.mem v a hab)

theorem State.StoresWithin.of_mem_stored (h : State.StoresWithin as s t) {a : Nat} (ha : a ∈ t.stored) :
    a ∈ s.stored ∨ a ∈ as := by
  obtain ⟨bs, v, hb, -, hs⟩ := h
  rw [hs, State.mem_storeAt_stored] at ha
  exact ha.symm.imp_right fun ⟨_, hab⟩ => hb hab

theorem Ends.storesWithin (h : Ends s (State.StoresWithin as s) t) : State.StoresWithin as s t := by
  cases h with
  | trap v => exact .of_eq (s.takeInterrupt_mem v _) (s.takeInterrupt_stored v _)
  | hold => exact .of_eq rfl rfl
  | overrun op r n w h => exact h
  | finish len t h => exact h.congr rfl rfl rfl rfl rfl

end

/-! ### Interrupt 9 (R381) -/

/-- The addresses of the accessible bytes of an operand. -/
def Segments.accessible (g : Segments) (r : MemRef) (n : Nat) : List Nat :=
  ((List.range n).filter (g.allowsByte r)).map (g.address r)

theorem Segments.mem_accessible {g : Segments} {r : MemRef} {n a : Nat} :
    a ∈ g.accessible r n ↔ ∃ k < n, g.allowsByte r k = true ∧ g.address r k = a := by
  simp [Segments.accessible, and_assoc]

theorem Segments.accessible_subset (g : Segments) (r : MemRef) (n : Nat) : g.accessible r n ⊆ g.addresses r n :=
  List.map_subset _ (List.filter_subset_self _)

/-- The addresses an operand of direction `w` gives to a store: none when it is read. -/
def Segments.target (g : Segments) (r : MemRef) (n : Nat) (w : Bool) : List Nat := if w then g.addresses r n else []

theorem State.segmentOverrun_storesWithin (s : State) (op : BitVec 11) (r : MemRef) (n : Nat) (w : Bool) :
    State.StoresWithin (if w then s.cpu.segs.accessible r n else []) s (s.segmentOverrun op r n w) := by
  cases w with
  | true =>
    exact (State.storesWithin_storeAt (List.Subset.refl _) _).congr rfl rfl rfl (State.takeInterrupt_mem ..)
      (State.takeInterrupt_stored ..)
  | false => exact .of_eq (State.takeInterrupt_mem ..) (State.takeInterrupt_stored ..)

@[simp] theorem State.segmentOverrun_gprs (s : State) (op : BitVec 11) (r : MemRef) (n : Nat) (w : Bool) :
    (s.segmentOverrun op r n w).cpu.gprs = s.cpu.gprs := by
  cases w <;> simp [State.segmentOverrun]

theorem State.took_segmentOverrun (s : State) (op : BitVec 11) (r : MemRef) (n : Nat) (w : Bool) :
    s.Took (s.segmentOverrun op r n w) .segmentOverrun := by
  cases w <;> exact ⟨_, rfl, State.takeInterrupt_taken ..⟩

/-- An interrupt taken in place of the instruction changes nothing of the NPX, the pointers, memory and the general
registers. -/
theorem State.tookHere_takeInterrupt (s : State) (v : Interrupt) : s.TookHere (s.takeInterrupt v s.here) v := by
  simp [State.TookHere, State.here]

/-! ### Storing rules -/

section
variable {r : MemRef} {n : Nat} {t : State}

theorem State.storesWithin_writeOperand (v : Nat) :
    State.StoresWithin (t.cpu.segs.addresses r n) t (t.writeOperand r n v) :=
  State.storesWithin_storeAt (List.Subset.refl _) v

theorem storesWithin_storeThen (f : Nat → Npx → StoreEffect) :
    State.StoresWithin (t.cpu.segs.addresses r n) t (storeThen n f r t) := by
  obtain ⟨v, h⟩ | h := storeThen_cases n f r t
  · rw [h]
    exact (State.storesWithin_writeOperand v).congr rfl rfl rfl rfl rfl
  · rw [h]
    exact .of_eq rfl rfl

end

/-! ### Every instruction -/

theorem State.storedAddresses_of_parts {i : Instr} {pre : List Prefix} {k n : Nat} {m : MemArg} {w : Bool} (s : State)
    (parts : i.parts = (pre, k, some m)) (hu : i.operandUse (s.operandSize pre) = some ⟨n, w⟩) :
    s.storedAddresses i = s.cpu.segs.target (effectiveAddress s.cpu pre m) n w := by
  simp [State.storedAddresses, s.operand_of_parts parts, hu, Segments.target]

theorem State.mem_storedAddresses {s : State} {i : Instr} {a : Nat} :
    a ∈ s.storedAddresses i ↔
      ∃ r u, s.operand i = some (r, u) ∧ u.stores = true ∧ a ∈ s.cpu.segs.addresses r u.bytes := by
  unfold State.storedAddresses
  cases s.operand i with
  | none => simp
  | some p =>
    obtain ⟨r, u⟩ := p
    cases hu : u.stores <;> simp [hu, and_assoc]

theorem State.storedAddresses_lt (s : State) (i : Instr) : ∀ a ∈ s.storedAddresses i, a < addressSpace := by
  intro a ha
  obtain ⟨r, u, -, -, ha⟩ := State.mem_storedAddresses.mp ha
  exact s.cpu.segs.addresses_lt r u.bytes a ha

section
variable {i : Instr} {s t : State}

/-- A register form stores nothing if its rule stores nothing. -/
theorem stores_of_regForm {k : EscKind} {pre : List Prefix} {grp : BitVec 3} {b2 : Byte} {body : State → State}
    (h : exec i s = .next t) (runs : exec i s = s.regForm k pre grp b2 body)
    (hm : ∀ t, (body t).mem = t.mem) (hs : ∀ t, (body t).stored = t.stored) :
    Ends s (State.StoresWithin (s.storedAddresses i) s) t :=
  State.escReg_ends (runs.symm.trans h) (.of_eq (by rw [hm, State.startEsc_mem]) (by rw [hs, State.startEsc_stored]))

/-- A memory form stores to its operand at most, if its rule does; so does interrupt 9 in its transfer. -/
theorem stores_of_memForm {k : EscKind} {pre : List Prefix} {grp reg : BitVec 3} {m : MemArg} {n : Nat} {w : Bool}
    {body : MemRef → State → State} (h : exec i s = .next t) (parts : i.parts = (pre, 2, some m))
    (hu : i.operandUse (s.operandSize pre) = some ⟨n, w⟩) (runs : exec i s = s.memForm k pre grp reg m n w body)
    (hb : ∀ r t, State.StoresWithin (t.cpu.segs.target r n w) t (body r t)) :
    Ends s (State.StoresWithin (s.storedAddresses i) s) t := by
  rw [s.storedAddresses_of_parts parts hu]
  refine State.escMem_ends (runs.symm.trans h) ((s.segmentOverrun_storesWithin _ _ n w).mono ?_) ?_
  · unfold Segments.target
    split
    · exact Segments.accessible_subset ..
    · exact List.Subset.refl _
  · have hr := hb (effectiveAddress s.cpu pre m)
      (s.startEsc k (grp ++ m.modrm reg) (some (effectiveAddress s.cpu pre m)))
    rw [State.startEsc_cpu] at hr
    exact hr.congr (State.startEsc_params ..).symm (State.startEsc_mem ..).symm (State.startEsc_stored ..).symm rfl rfl

/-- However an instruction ends, it has stored to its operand at most. -/
theorem exec_ends_stores (h : exec i s = .next t) : Ends s (State.StoresWithin (s.storedAddresses i) s) t := by
  cases template_of i with
  | numReg pre grp b2 f _ _ _ runs => exact stores_of_regForm h (runs s) (fun _ => rfl) fun _ => rfl
  | numLoad pre grp reg m n f _ parts tabled runs =>
    exact stores_of_memForm h parts (tabled.operandUse _) (runs s) fun _ _ => .of_eq rfl rfl
  | numStore pre grp reg m n f _ parts tabled runs =>
    exact stores_of_memForm h parts (tabled.operandUse _) (runs s) fun _ _ => storesWithin_storeThen f
  | reservedReg pre grp b2 _ _ _ runs => exact State.escReserved_ends ((runs s).symm.trans h) (.of_eq rfl rfl)
  | reservedMem pre grp reg m _ _ _ runs => exact State.escReserved_ends ((runs s).symm.trans h) (.of_eq rfl rfl)
  | finit pre => exact stores_of_regForm h (exec_finit ..) (fun _ => rfl) fun _ => rfl
  | fclex pre => exact stores_of_regForm h (exec_fclex ..) (fun _ => rfl) fun _ => rfl
  | fstswAx pre => exact stores_of_regForm h (exec_fstswAx ..) (fun _ => rfl) fun _ => rfl
  | wait pre => exact execWait_ends h (.of_eq rfl rfl)
  | fldcw pre m => exact stores_of_memForm h rfl rfl (exec_fldcw ..) fun _ _ => .of_eq rfl rfl
  | fstcw pre m =>
    exact stores_of_memForm h rfl rfl (exec_fstcw ..) fun _ _ => State.storesWithin_writeOperand _
  | fstsw pre m =>
    exact stores_of_memForm h rfl rfl (exec_fstsw ..) fun _ _ => State.storesWithin_writeOperand _
  | fldenv pre m =>
    exact stores_of_memForm h rfl (operandUse_fldenv ..) (exec_fldenv ..) fun _ _ => .of_eq rfl rfl
  | fstenv pre m =>
    exact stores_of_memForm h rfl (operandUse_fstenv ..) (exec_fstenv ..) fun _ _ => State.storesWithin_writeOperand _
  | frstor pre m =>
    exact stores_of_memForm h rfl (operandUse_frstor ..) (exec_frstor ..) fun _ _ => .of_eq rfl rfl
  | fsave pre m =>
    exact stores_of_memForm h rfl (operandUse_fsave ..) (exec_fsave ..) fun _ _ => State.storesWithin_writeOperand _

theorem exec_storesWithin (h : exec i s = .next t) : State.StoresWithin (s.storedAddresses i) s t :=
  (exec_ends_stores h).storesWithin

end

/-- Settles O19: an instruction stores to its operand at most (`exec_storesWithin`), read off for the bytes of memory and
for the record of stored bytes. -/
theorem memoryFrame : Obligations.MemoryFrame := by
  unfold Obligations.MemoryFrame
  intro i s t h
  have hw := exec_storesWithin h
  refine ⟨fun a ha => hw.read_eq fun hm => ?_, hw.stored_coherent, fun hp a => ⟨hw.mem_stored hp, fun hat => ?_⟩⟩
  · obtain ⟨r, u, ho, hu, hm⟩ := State.mem_storedAddresses.mp hm
    exact ha r u ho hu hm
  · exact (hw.of_mem_stored hat).imp_right State.mem_storedAddresses.mp

/-! ### The limit checks (R78, R381, R382) -/

section
variable {i : Instr} {s : State} {r : MemRef} {u : OperandUse}

/-- An instruction that no interrupt 7, BUSY# or ERROR# stops goes on to the checks of its operand. -/
theorem exec_operandChecks (ha : s.available i = true) (hp : s.proceeds i = true) (ho : s.operand i = some (r, u)) :
    ∃ k op body, s.escEntry k.waiting = .run ∧ exec i s = s.escMem k op i.length r u.bytes u.stores body := by
  obtain ⟨k, op, body, hk, he⟩ := exec_of_operand ho
  have hi := isWait_eq_false_of_operandUse (s.operandUse_of_operand ho)
  exact ⟨k, op, body, hk ▸ State.escEntry_run_of_proceeds hi ha hp, he⟩

/-- Interrupt 13: the operand does not begin inside its segment. -/
theorem exec_generalProtection (ha : s.available i = true) (hp : s.proceeds i = true) (ho : s.operand i = some (r, u))
    (hs : s.cpu.segs.allowsBytes r (startWidth r u.bytes) = false) :
    exec i s = .next (s.takeInterrupt .generalProtection s.here) := by
  obtain ⟨k, op, body, hrun, he⟩ := exec_operandChecks ha hp ho
  simp [he, State.escMem, hrun, hs]

/-- Interrupt 9: the operand begins inside its segment and runs out of it. -/
theorem exec_segmentOverrun (ha : s.available i = true) (hp : s.proceeds i = true) (ho : s.operand i = some (r, u))
    (hs : s.cpu.segs.allowsBytes r (startWidth r u.bytes) = true)
    (hf : s.launch.hostFaultOn r u.bytes u.stores = false) (hn : s.cpu.segs.allowsBytes r u.bytes = false) :
    ∃ op, exec i s = .next (s.segmentOverrun op r u.bytes u.stores) := by
  obtain ⟨k, op, body, hrun, he⟩ := exec_operandChecks ha hp ho
  exact ⟨op, by simp [he, State.escMem, hrun, hs, hf, hn]⟩

end

/-- Settles O12: each limit check ends in its interrupt, and interrupt 9 stores to accessible bytes of the operand at
most. -/
theorem limitChecks : Obligations.LimitChecks := by
  unfold Obligations.LimitChecks
  simp only [← startWidth_eq]
  constructor
  · intro i s r u ha hp ho hs
    exact ⟨_, exec_generalProtection ha hp ho hs, s.tookHere_takeInterrupt _⟩
  · intro i s r u ha hp ho hs hf hn
    obtain ⟨op, he⟩ := exec_segmentOverrun ha hp ho hs hf hn
    refine ⟨_, he, s.took_segmentOverrun op r _ _, s.segmentOverrun_gprs op r _ _, fun a hout => ?_⟩
    refine (s.segmentOverrun_storesWithin op r u.bytes u.stores).read_eq fun hmem => ?_
    split at hmem
    · next hu =>
      obtain ⟨k, hk, hal, hka⟩ := Segments.mem_accessible.mp hmem
      exact hout hu k hk hal hka
    · cases hmem

end Sys2Proof.Machine
end

section
/-! The control word under the numeric instructions: the rule of each leaves it as it was (R42, R330). -/

namespace Sys2Proof.Machine

/-! ### Shared operations -/

section
variable (n : Npx) (d : Nat)

theorem Npx.checked_cw {a b : Opnd} {invalid : Bool} {dst : BitVec 3} {p : Nat} {k : Npx → Npx}
    (hk : ∀ m, (k m).cw = m.cw) : (n.checked a b invalid dst p k).cw = n.cw := by
  obtain ⟨-, h⟩ | ⟨-, -, h⟩ | ⟨-, -, h⟩ | ⟨-, -, h⟩ | ⟨-, -, h⟩ | ⟨-, h⟩ := n.checked_cases a b invalid dst p k <;>
    simp [h, hk]

@[simp] theorem Npx.pairInto_cw (x y : Ext) : (n.pairInto x y).cw = n.cw := rfl

@[simp] theorem Npx.pairFault_cw : (n.pairFault d).cw = n.cw := by
  unfold Npx.pairFault
  split
  · rfl
  · split <;> rfl

@[simp] theorem Npx.fillEmpty_cw (k : BitVec 3) : (n.fillEmpty k).cw = n.cw := by
  unfold Npx.fillEmpty
  split <;> rfl

@[simp] theorem Npx.remInto_cw (dst : BitVec 3) (neg : Bool) (r : RemStep) : (n.remInto dst neg r).cw = n.cw := by
  unfold Npx.remInto
  split
  · rfl
  · dsimp only
    split <;> rfl

/-! ### Arithmetic -/

@[simp] theorem arithFinite_cw (op : ArithOp) (a b : Opnd) (dst : BitVec 3) (p : Nat) :
    (arithFinite op a b dst p d n).cw = n.cw := by
  unfold arithFinite
  dsimp only
  split
  · split <;> simp
  · split
    · simp
    · split <;> simp

@[simp] theorem arith_cw (op : ArithOp) (a b : Option Opnd) (dst : BitVec 3) (p : Nat) :
    (arith op a b dst p d n).cw = n.cw := by
  unfold arith
  rw [Npx.drawC320_cw]
  split
  · exact n.checked_cw fun _ => arithFinite_cw ..
  · simp

theorem fsqrt_cw : (fsqrt d n).cw = n.cw := by
  unfold fsqrt
  rw [Npx.drawC320_cw]
  split
  · simp
  · refine n.checked_cw fun m => ?_
    split <;> simp

theorem fscale_cw : (fscale d n).cw = n.cw := by
  unfold fscale
  rw [Npx.drawC320_cw]
  split
  · refine n.checked_cw fun m => ?_
    split
    · simp
    · split <;> simp
  · simp

theorem fpremStep_cw (nearest : Bool) : (fpremStep nearest d n).cw = n.cw := by
  unfold fpremStep
  dsimp only
  repeat' split
  all_goals simp

theorem frndint_cw : (frndint d n).cw = n.cw := by
  unfold frndint
  rw [Npx.drawC320_cw]
  split
  · simp
  · refine n.checked_cw fun m => ?_
    split <;> simp

@[simp] theorem fxtractRule_cw (a : Opnd) : (fxtractRule a n).cw = n.cw := by
  unfold fxtractRule
  dsimp only
  repeat' split
  all_goals simp

theorem fxtract_cw : (fxtract d n).cw = n.cw := by
  unfold fxtract
  rw [Npx.drawC320_cw]
  split
  · simp
  · split <;> simp

theorem mapTop_cw (f : Ext → Ext) : (mapTop f d n).cw = n.cw := by
  unfold mapTop
  rw [Npx.drawC320_cw]
  split <;> simp

/-! ### Comparison and constants -/

theorem compareOperands_cw (quietNan : Bool) (p : Nat) (a b : Option Opnd) :
    (compareOperands quietNan p a b n).cw = n.cw := by
  unfold compareOperands
  dsimp only
  repeat' split
  all_goals simp

theorem examine_cw : (examine d n).cw = n.cw := by
  unfold examine
  dsimp only
  split <;> simp

theorem pushConstant_cw (k : RC → Ext) : (pushConstant k d n).cw = n.cw := by
  simp [pushConstant]

/-! ### Data transfer -/

theorem fldReal_cw (f : Fmt) (v : Nat) : (fldReal f d v n).cw = n.cw := by
  unfold fldReal
  dsimp only
  rw [Npx.drawC320_cw]
  repeat' split
  all_goals simp

theorem pushImage_cw (x : Ext) : (pushImage x d n).cw = n.cw := by
  simp [pushImage]

theorem fldStack_cw (i : StIndex) : (fldStack i d n).cw = n.cw := by
  unfold fldStack
  rw [Npx.drawC320_cw]
  repeat' split
  all_goals simp

theorem storeTop_cw (conv : Npx → Ext → Stored) (ind p : Nat) : (storeTop conv ind p d n).npx.cw = n.cw := by
  unfold storeTop
  dsimp only
  repeat' split
  all_goals simp

theorem fstStack_cw (i : StIndex) (p : Nat) : (fstStack i p d n).cw = n.cw := by
  unfold fstStack
  rw [Npx.drawC320_cw]
  split <;> simp

theorem fxchStack_cw (i : StIndex) : (fxchStack i d n).cw = n.cw := by
  unfold fxchStack
  dsimp only
  rw [Npx.drawC320_cw]
  repeat' split
  all_goals simp

/-! ### Transcendental instructions -/

theorem trigRule_cw {put : Npx → Ext → Npx} {k : Npx → Npx} {a : Opnd} (hput : ∀ m x, (put m x).cw = m.cw)
    (hk : ∀ m, (k m).cw = m.cw) : (trigRule put k d a n).cw = n.cw := by
  unfold trigRule
  dsimp only
  repeat' split
  all_goals simp [hput, hk]

theorem trigTop_cw (f : Transc1) (atZero : Ext → Ext) : (trigTop f atZero d n).cw = n.cw := by
  unfold trigTop
  rw [Npx.drawC30_cw]
  split
  · split <;> simp
  · refine trigRule_cw n d (fun _ _ => rfl) fun m => ?_
    split <;> simp

@[simp] theorem trigPairFault_cw (y : Ext) : (trigPairFault y d n).cw = n.cw := by
  unfold trigPairFault
  split <;> simp

theorem fsincos_cw : (fsincos d n).cw = n.cw := by
  unfold fsincos
  rw [Npx.drawC30_cw]
  split
  · refine trigRule_cw n d (fun _ _ => rfl) fun m => ?_
    split <;> simp
  · simp

theorem fptan_cw : (fptan d n).cw = n.cw := by
  unfold fptan
  rw [Npx.drawC30_cw]
  split
  · refine trigRule_cw n d (fun _ _ => rfl) fun m => ?_
    split <;> simp
  · simp

theorem fpatan_cw : (fpatan d n).cw = n.cw := by
  unfold fpatan
  rw [Npx.drawC320_cw]
  split
  · refine n.checked_cw fun m => ?_
    split <;> simp
  · simp

theorem f2xm1_cw : (f2xm1 d n).cw = n.cw := by
  unfold f2xm1
  rw [Npx.drawC320_cw]
  split
  · simp
  · refine n.checked_cw fun m => ?_
    repeat' split
    all_goals simp

@[simp] theorem fyl2xRule_cw (y x : Opnd) : (fyl2xRule y x d n).cw = n.cw := by
  unfold fyl2xRule
  dsimp only
  repeat' split
  all_goals simp

theorem fyl2x_cw : (fyl2x d n).cw = n.cw := by
  unfold fyl2x
  rw [Npx.drawC320_cw]
  split
  · exact n.checked_cw fun _ => fyl2xRule_cw ..
  · simp

@[simp] theorem fyl2xp1Rule_cw (y x : Opnd) : (fyl2xp1Rule y x d n).cw = n.cw := by
  unfold fyl2xp1Rule
  dsimp only
  repeat' split
  all_goals simp

theorem fyl2xp1_cw : (fyl2xp1 d n).cw = n.cw := by
  unfold fyl2xp1
  rw [Npx.drawC320_cw]
  split
  · exact n.checked_cw fun _ => fyl2xp1Rule_cw ..
  · simp

end

end Sys2Proof.Machine
end

section
/-! The invariant between steps (R427): the reserved bits of the control word (R44), the signals, and memory. -/

namespace Sys2Proof.Machine

/-! ### The reserved bits of the control word (R44) -/

/-- The control word's reserved bits are as they read back. -/
def State.ControlReadsBack (s : State) : Prop := readbackCw s.params.cwReadback s.npx.cw = s.npx.cw

/-- From `s` to `t` the parameters stay, and the reserved bits of the control word stay as they read back. -/
def State.KeepsControl (s t : State) : Prop := t.params = s.params ∧ (s.ControlReadsBack → t.ControlReadsBack)

/-- A control word that was loaded reads back as it is. -/
theorem readbackCw_readbackCw (p : CwReadback) (v : BitVec 16) : readbackCw p (readbackCw p v) = readbackCw p v := by
  cases p with
  | fixed =>
    ext i hi
    simp only [readbackCw, BitVec.getElem_or, BitVec.getElem_and]
    grind
  | asWritten => simp [readbackCw, BitVec.or_assoc]

/-- The six masks are no reserved bits (R42). -/
theorem readbackCw_maskAll {p : CwReadback} {v : BitVec 16} (h : readbackCw p v = v) :
    readbackCw p (v ||| 0x003F) = v ||| 0x003F := by
  have hm : (0x003F : BitVec 16) &&& 0x1F7F = 0x003F := by decide
  cases p with
  | fixed =>
    calc ((v ||| 0x003F) &&& 0x1F7F) ||| 0x0040
        = ((v &&& 0x1F7F) ||| 0x0040) ||| 0x003F := by rw [BitVec.and_or_distrib_right, hm]; ac_rfl
      _ = v ||| 0x003F := congrArg (· ||| 0x003F) h
  | asWritten =>
    calc (v ||| 0x003F) ||| 0x0040
        = (v ||| 0x0040) ||| 0x003F := by ac_rfl
      _ = v ||| 0x003F := congrArg (· ||| 0x003F) h

theorem readbackCw_initControl (p : CwReadback) : readbackCw p initControl = initControl := by
  cases p <;> decide

section
variable {s t : State}

/-- What leaves the control word keeps its reserved bits. -/
theorem State.KeepsControl.of_eq (hp : t.params = s.params) (hc : t.npx.cw = s.npx.cw) : s.KeepsControl t :=
  ⟨hp, fun h => by rwa [State.ControlReadsBack, hp, hc]⟩

/-- What loads the control word leaves its reserved bits as they read back. -/
theorem State.KeepsControl.of_load {v : BitVec 16} (hp : t.params = s.params)
    (hc : t.npx.cw = readbackCw s.params.cwReadback v) : s.KeepsControl t :=
  ⟨hp, fun _ => by rw [State.ControlReadsBack, hp, hc, readbackCw_readbackCw]⟩

/-- An instruction starts with the parameters and the control word of the state before it. -/
theorem State.KeepsControl.of_startEsc {k : EscKind} {op : BitVec 11} {r : Option MemRef}
    (h : (s.startEsc k op r).KeepsControl t) : s.KeepsControl t := by
  simpa only [State.KeepsControl, State.ControlReadsBack, State.startEsc_params, State.startEsc_npx] using h

theorem State.keepsControl_takeInterrupt (v : Interrupt) (ret : FarPtr) : s.KeepsControl (s.takeInterrupt v ret) :=
  .of_eq (State.takeInterrupt_params ..) (by rw [State.takeInterrupt_npx])

@[simp] theorem State.segmentOverrun_params (op : BitVec 11) (r : MemRef) (n : Nat) (w : Bool) :
    (s.segmentOverrun op r n w).params = s.params := by
  cases w <;> simp [State.segmentOverrun]

@[simp] theorem State.segmentOverrun_npx (op : BitVec 11) (r : MemRef) (n : Nat) (w : Bool) :
    (s.segmentOverrun op r n w).npx = s.npx.overrun s.params op s.draws := by
  cases w <;> simp [State.segmentOverrun]

theorem State.keepsControl_segmentOverrun (op : BitVec 11) (r : MemRef) (n : Nat) (w : Bool) :
    s.KeepsControl (s.segmentOverrun op r n w) := by
  have hc : (s.segmentOverrun op r n w).npx.cw = if (formWrites op).control
      then readbackCw s.params.cwReadback (Config.draw 16 .overrunControl s.draws) else s.npx.cw := by
    rw [State.segmentOverrun_npx]
    rfl
  split at hc
  · exact .of_load (State.segmentOverrun_params ..) hc
  · exact .of_eq (State.segmentOverrun_params ..) hc

theorem Ends.keepsControl (h : Ends s s.KeepsControl t) : s.KeepsControl t := by
  cases h with
  | trap v => exact State.keepsControl_takeInterrupt ..
  | hold => exact .of_eq rfl rfl
  | overrun op r n w h => exact h
  | finish len t h => exact h

end

/-! ### Every instruction keeps them -/

section
variable {k : EscKind} {pre : List Prefix} {grp reg : BitVec 3} {b2 : Byte} {m : MemArg} {n : Nat} {w : Bool}

/-- However the instruction ends, the reserved bits of the control word stay as they read back. -/
def InstrKeepsControl (i : Instr) : Prop := ∀ s t, exec i s = .next t → Ends s s.KeepsControl t

theorem keepsControl_regForm {i : Instr} {body : State → State}
    (runs : ∀ s, exec i s = s.regForm k pre grp b2 body) (hb : ∀ t : State, t.KeepsControl (body t)) :
    InstrKeepsControl i :=
  fun s _ h => State.escReg_ends ((runs s).symm.trans h) (hb _).of_startEsc

theorem keepsControl_memForm {i : Instr} {s t : State} {body : MemRef → State → State} (h : exec i s = .next t)
    (runs : exec i s = s.memForm k pre grp reg m n w body) (hb : ∀ r (t : State), t.KeepsControl (body r t)) :
    Ends s s.KeepsControl t :=
  State.escMem_ends (runs.symm.trans h) (State.keepsControl_segmentOverrun ..) (hb _ _).of_startEsc

theorem keepsControl_numReg {i : Instr} {f : Nat → Npx → Npx} (runs : ∀ s, exec i s = s.numReg pre grp b2 f)
    (hf : ∀ d n, (f d n).cw = n.cw) : InstrKeepsControl i :=
  keepsControl_regForm runs fun _ => .of_eq rfl (hf ..)

theorem keepsControl_numLoad {i : Instr} {f : Nat → Nat → Npx → Npx}
    (runs : ∀ s, exec i s = s.numLoad pre grp reg m n f) (hf : ∀ d v n, (f d v n).cw = n.cw) : InstrKeepsControl i :=
  fun s _ h => keepsControl_memForm h (runs s) fun _ _ => .of_eq rfl (hf ..)

theorem keepsControl_numStore {i : Instr} {f : Nat → Npx → StoreEffect}
    (runs : ∀ s, exec i s = s.numStore pre grp reg m n f) (hf : ∀ d n, (f d n).npx.cw = n.cw) :
    InstrKeepsControl i := by
  refine fun s _ h => keepsControl_memForm h (runs s) fun r t => ?_
  obtain ⟨-, -, -, -, hp, -⟩ := storeThen_rest n f r t
  exact .of_eq hp (by rw [storeThen_npx, hf])

theorem keepsControl_reserved {i : Instr} {op : BitVec 11} {len : Nat} (runs : ∀ s, exec i s = s.escReserved op len) :
    InstrKeepsControl i :=
  fun s _ h => State.escReserved_ends ((runs s).symm.trans h) (.of_load rfl rfl)

end

/-- A numeric instruction leaves the control word, by the lemma of its rule. -/
theorem keepsControl_of_numeric {i : Instr} {u : Option OperandUse} (tabled : TabledAs i false u) :
    InstrKeepsControl i := by
  have h : (i.administrative || i.reserved) = false := by rw [tabled.administrative, tabled.reserved, Bool.or_false]
  cases i with
  | faddStSti | fmulStSti | fsubStSti | fsubrStSti | fdivStSti | fdivrStSti | faddStiSt | fmulStiSt | fsubrStiSt
  | fsubStiSt | fdivrStiSt | fdivStiSt | faddpStiSt | fmulpStiSt | fsubrpStiSt | fsubpStiSt | fdivrpStiSt
  | fdivpStiSt => exact keepsControl_numReg (fun _ => rfl) fun d n => arith_cw n d ..
  | faddSingleReal | fmulSingleReal | fsubSingleReal | fsubrSingleReal | fdivSingleReal | fdivrSingleReal
  | faddDoubleReal | fmulDoubleReal | fsubDoubleReal | fsubrDoubleReal | fdivDoubleReal | fdivrDoubleReal
  | fiaddShortInteger | fimulShortInteger | fisubShortInteger | fisubrShortInteger | fidivShortInteger
  | fidivrShortInteger | fiaddWordInteger | fimulWordInteger | fisubWordInteger | fisubrWordInteger
  | fidivWordInteger | fidivrWordInteger =>
    exact keepsControl_numLoad (fun _ => rfl) fun d _ n => arith_cw n d ..
  | fcomSti | fcompSti | fcompp | fucomSti | fucompSti | fucompp | ftst =>
    exact keepsControl_numReg (fun _ => rfl) fun _ n => compareOperands_cw n ..
  | fcomSingleReal | fcompSingleReal | fcomDoubleReal | fcompDoubleReal | ficomShortInteger | ficompShortInteger
  | ficomWordInteger | ficompWordInteger =>
    exact keepsControl_numLoad (fun _ => rfl) fun _ _ n => compareOperands_cw n ..
  | fld1 | fldl2t | fldl2e | fldpi | fldlg2 | fldln2 | fldz =>
    exact keepsControl_numReg (fun _ => rfl) fun d n => pushConstant_cw n d _
  | fldSingleReal | fldDoubleReal => exact keepsControl_numLoad (fun _ => rfl) fun d v n => fldReal_cw n d _ v
  | fldExtendedReal | fildShortInteger | fildWordInteger | fildLongInteger | fbldPackedDecimal =>
    exact keepsControl_numLoad (fun _ => rfl) fun d _ n => pushImage_cw n d _
  | fstSingleReal | fstpSingleReal | fistShortInteger | fistpShortInteger | fstpExtendedReal | fstDoubleReal
  | fstpDoubleReal | fistWordInteger | fistpWordInteger | fbstpPackedDecimal | fistpLongInteger =>
    exact keepsControl_numStore (fun _ => rfl) fun d n => storeTop_cw n d ..
  | fldSti => exact keepsControl_numReg (fun _ => rfl) fun d n => fldStack_cw n d _
  | fstSti | fstpSti => exact keepsControl_numReg (fun _ => rfl) fun d n => fstStack_cw n d ..
  | fxchSti => exact keepsControl_numReg (fun _ => rfl) fun d n => fxchStack_cw n d _
  | fxam => exact keepsControl_numReg (fun _ => rfl) fun d n => examine_cw n d
  | fchs | fabs => exact keepsControl_numReg (fun _ => rfl) fun d n => mapTop_cw n d _
  | fsqrt => exact keepsControl_numReg (fun _ => rfl) fun d n => fsqrt_cw n d
  | fscale => exact keepsControl_numReg (fun _ => rfl) fun d n => fscale_cw n d
  | fprem | fprem1 => exact keepsControl_numReg (fun _ => rfl) fun d n => fpremStep_cw n d _
  | frndint => exact keepsControl_numReg (fun _ => rfl) fun d n => frndint_cw n d
  | fxtract => exact keepsControl_numReg (fun _ => rfl) fun d n => fxtract_cw n d
  | fsin | fcos => exact keepsControl_numReg (fun _ => rfl) fun d n => trigTop_cw n d ..
  | fsincos => exact keepsControl_numReg (fun _ => rfl) fun d n => fsincos_cw n d
  | fptan => exact keepsControl_numReg (fun _ => rfl) fun d n => fptan_cw n d
  | fpatan => exact keepsControl_numReg (fun _ => rfl) fun d n => fpatan_cw n d
  | f2xm1 => exact keepsControl_numReg (fun _ => rfl) fun d n => f2xm1_cw n d
  | fyl2x => exact keepsControl_numReg (fun _ => rfl) fun d n => fyl2x_cw n d
  | fyl2xp1 => exact keepsControl_numReg (fun _ => rfl) fun d n => fyl2xp1_cw n d
  | fincstp | fdecstp | ffreeSti | fnop | feni | fdisi | fsetpm =>
    exact keepsControl_numReg (fun _ => rfl) fun _ _ => rfl
  | _ => cases h

/-- Every instruction keeps the reserved bits: FINIT and FSAVE set the control word, FLDCW, FLDENV, FRSTOR and reserved
encodings load it, FSTENV sets its masks, and the others leave it. -/
theorem exec_ends_control (i : Instr) : InstrKeepsControl i := by
  cases template_of i with
  | numReg pre grp b2 f _ _ tabled _ => exact keepsControl_of_numeric tabled
  | numLoad pre grp reg m n f _ _ tabled _ => exact keepsControl_of_numeric tabled
  | numStore pre grp reg m n f _ _ tabled _ => exact keepsControl_of_numeric tabled
  | reservedReg pre grp b2 _ _ _ runs => exact keepsControl_reserved runs
  | reservedMem pre grp reg m _ _ _ runs => exact keepsControl_reserved runs
  | finit pre =>
    exact keepsControl_regForm (exec_finit pre) fun t => ⟨rfl, fun _ => readbackCw_initControl _⟩
  | fclex pre => exact keepsControl_regForm (exec_fclex pre) fun _ => .of_eq rfl rfl
  | fstswAx pre => exact keepsControl_regForm (exec_fstswAx pre) fun _ => .of_eq rfl rfl
  | wait pre => exact fun s t h => execWait_ends h (.of_eq rfl rfl)
  | fldcw pre m => exact fun s t h => keepsControl_memForm h (exec_fldcw ..) fun _ _ => .of_load rfl rfl
  | fstcw pre m => exact fun s t h => keepsControl_memForm h (exec_fstcw ..) fun _ _ => .of_eq rfl rfl
  | fstsw pre m => exact fun s t h => keepsControl_memForm h (exec_fstsw ..) fun _ _ => .of_eq rfl rfl
  | fldenv pre m => exact fun s t h => keepsControl_memForm h (exec_fldenv ..) fun _ _ => .of_load rfl rfl
  | fstenv pre m =>
    exact fun s t h => keepsControl_memForm h (exec_fstenv ..) fun _ _ => ⟨rfl, readbackCw_maskAll⟩
  | frstor pre m => exact fun s t h => keepsControl_memForm h (exec_frstor ..) fun _ _ => .of_load rfl rfl
  | fsave pre m =>
    exact fun s t h => keepsControl_memForm h (exec_fsave ..) fun _ _ => ⟨rfl, fun _ => readbackCw_initControl _⟩

/-! ### The signals between steps (R427) -/

/-- BUSY# and PEREQ are inactive and the bus logic is idle. -/
structure State.Quiet (s : State) : Prop where
  busy : s.busy = false
  pereq : s.pereq = false
  bus : s.bus = .ti

section
variable {s t : State} {P : State → Prop}

theorem State.Quiet.takeInterrupt (h : s.Quiet) (v : Interrupt) (ret : FarPtr) : (s.takeInterrupt v ret).Quiet :=
  ⟨(State.takeInterrupt_busy ..).trans h.busy, (State.takeInterrupt_pereq ..).trans h.pereq,
    (State.takeInterrupt_bus ..).trans h.bus⟩

theorem State.quiet_segmentOverrun (s : State) (op : BitVec 11) (r : MemRef) (n : Nat) (w : Bool) :
    (s.segmentOverrun op r n w).Quiet := by
  cases w <;> exact State.Quiet.takeInterrupt ⟨rfl, rfl, rfl⟩ ..

theorem Ends.quiet (h : Ends s P t) (hs : s.Quiet) : t.Quiet := by
  cases h with
  | trap v => exact hs.takeInterrupt v _
  | hold => exact hs
  | overrun op r n w _ => exact s.quiet_segmentOverrun op r n w
  | finish len t _ => exact ⟨rfl, rfl, rfl⟩

end

/-! ### The invariant -/

/-- An instruction keeps the invariant. -/
theorem exec_inv {i : Instr} {s t : State} (hs : s.Inv) (h : exec i s = .next t) : t.Inv := by
  have hc := exec_ends_control i s t h
  have hq : t.Quiet := hc.quiet ⟨hs.busy, hs.pereq, hs.bus⟩
  exact {
    mem := (exec_storesWithin h).wf (s.storedAddresses_lt i) hs.mem
    busy := hq.busy
    pereq := hq.pereq
    bus := hq.bus
    control := hc.keepsControl.2 hs.control }

/-- A step that has a next state is an instruction's effect. -/
theorem exec_of_step {s t : State} (h : step s = .next t) : ∃ i, exec i s = .next t := by
  cases hs : s.stranded with
  | true => rw [step_of_stranded hs] at h; cases h
  | false =>
    by_cases he : s.launch.endAddress = some s.cpu.eip
    · rw [step_of_endAddress hs he] at h
      cases h
    · cases hf : s.fetch with
      | error e => rw [step_of_fetch_error hs he hf] at h; cases h
      | ok p =>
        rw [step_of_fetch_ok hs he hf] at h
        split_ifs at h
        exact ⟨p.1, h⟩

/-- Settles O6: a step is an instruction's effect, which keeps the invariant. -/
theorem stepKeepsInvariant : Obligations.StepKeepsInvariant := by
  unfold Obligations.StepKeepsInvariant
  intro s t hs h
  obtain ⟨i, hi⟩ := exec_of_step h
  exact exec_inv hs hi

end Sys2Proof.Machine
end

section
/-! The fields of an encoded instruction (R100, R103 to R110): what the decoder reads from a field, and the field the
encoder writes, are inverse to each other. -/

namespace Sys2Proof

/-! ### Bytes and their fields (R100, R103) -/

theorem packByte_bits : ∀ b : Byte, packByte (bits76 b) (bits53 b) (bits20 b) = b := by decide

@[simp] theorem bits76_packByte : ∀ (a : BitVec 2) (b c : BitVec 3), bits76 (packByte a b c) = a := by decide

@[simp] theorem bits53_packByte : ∀ (a : BitVec 2) (b c : BitVec 3), bits53 (packByte a b c) = b := by decide

@[simp] theorem bits20_packByte : ∀ (a : BitVec 2) (b c : BitVec 3), bits20 (packByte a b c) = c := by decide

theorem packByte_eq_iff {a : BitVec 2} {b c : BitVec 3} {s : Byte} :
    packByte a b c = s ↔ a = bits76 s ∧ b = bits53 s ∧ c = bits20 s := by
  constructor
  · rintro rfl
    simp
  · rintro ⟨rfl, rfl, rfl⟩
    exact packByte_bits s

@[simp] theorem escByte_ne_wait : ∀ grp : BitVec 3, escByte grp ≠ 0x9B := by decide

@[simp] theorem extractLsb'_escByte : ∀ grp : BitVec 3, (escByte grp).extractLsb' 3 5 = 27 := by decide

@[simp] theorem bits20_escByte : ∀ grp : BitVec 3, bits20 (escByte grp) = grp := by decide

theorem escByte_bits20 : ∀ b : Byte, b.extractLsb' 3 5 = 27 → escByte (bits20 b) = b := by decide

/-! ### Prefixes (R106) -/

@[simp] theorem prefixOf?_prefixByte (p : Prefix) : prefixOf? (prefixByte p) = some p := by
  cases p with
  | opSize => rfl
  | addrSize => rfl
  | seg r => cases r <;> rfl

@[simp] theorem prefixOf?_escByte (grp : BitVec 3) : prefixOf? (escByte grp) = none := by
  revert grp
  decide

theorem prefixByte_of_prefixOf? {b : Byte} {p : Prefix} (h : prefixOf? b = some p) : prefixByte p = b := by
  unfold prefixOf? at h
  split at h <;> cases h <;> exact BitVec.eq_of_toNat_eq (by simp [*, prefixByte])

/-- Splitting off the prefixes loses no byte. -/
theorem splitPrefixes_append (bs : List Byte) : (splitPrefixes bs).1.map prefixByte ++ (splitPrefixes bs).2 = bs := by
  induction bs with
  | nil => rfl
  | cons b bs ih =>
    unfold splitPrefixes
    split
    · next p hp => simp [prefixByte_of_prefixOf? hp, ih]
    · rfl

/-- Prefix bytes before a byte that is none are read as these prefixes. -/
theorem splitPrefixes_prefixes (pre : List Prefix) {b : Byte} (bs : List Byte) (hb : prefixOf? b = none) :
    splitPrefixes (pre.map prefixByte ++ b :: bs) = (pre, b :: bs) := by
  induction pre with
  | nil => simp [splitPrefixes, hb]
  | cons p pre ih => simp [splitPrefixes, ih]

/-! ### Registers and scales (R109, R110) -/

theorem base16Of_eq_iff {n : BitVec 3} {b : Base16} : base16Of n = b ↔ base16Code b = n := by
  revert n
  cases b <;> decide

theorem reg32Of_eq_iff {n : BitVec 3} {r : Reg32} : reg32Of n = r ↔ reg32Code r = n := by
  revert n
  cases r <;> decide

theorem scaleOf_eq_iff {n : BitVec 2} {s : Scale} : scaleOf n = s ↔ scaleCode s = n := by
  revert n
  cases s <;> decide

/-- ESP is no index: its number stands for no index (R109). -/
theorem indexOf_eq_iff {n : BitVec 3} {r : Option Reg32} : indexOf n = r ↔ r ≠ some .esp ∧ indexCode r = n := by
  revert n
  rcases r with _ | r
  · decide
  · cases r <;> decide

/-! ### Displacements (R73, R108, R110) -/

theorem bitVec_eq_append_iff {m n : Nat} {a : BitVec m} {b : BitVec n} {d : BitVec (m + n)} :
    d = a ++ b ↔ d.extractLsb' n m = a ∧ d.extractLsb' 0 n = b := by
  constructor
  · rintro rfl
    constructor
    · ext i hi
      simp [BitVec.getLsbD_append, BitVec.getLsbD_eq_getElem hi]
    · ext i hi
      simp [BitVec.getLsbD_append, hi]
  · rintro ⟨rfl, rfl⟩
    ext i hi
    simp

theorem eq_append_iff_bytes16 {b0 b1 : Byte} {d : BitVec 16} : d = b1 ++ b0 ↔ bytes16 d = [b0, b1] := by
  rw [bitVec_eq_append_iff (m := 8) (n := 8)]
  simp [bytes16, and_comm]

theorem extractLsb'_extractLsb'_of_le {n i j v w : Nat} (d : BitVec n) (h : j + v ≤ w) :
    (d.extractLsb' i w).extractLsb' j v = d.extractLsb' (i + j) v := by
  ext k hk
  simp [Nat.add_assoc, show j + k < w by omega]

theorem eq_append_iff_bytes32 {b0 b1 b2 b3 : Byte} {d : BitVec 32} :
    d = b3 ++ b2 ++ b1 ++ b0 ↔ bytes32 d = [b0, b1, b2, b3] := by
  rw [bitVec_eq_append_iff (m := 24) (n := 8), bitVec_eq_append_iff (m := 16) (n := 8),
    bitVec_eq_append_iff (m := 8) (n := 8)]
  simp only [bytes32, extractLsb'_extractLsb'_of_le, Nat.reduceAdd, Nat.reduceLeDiff, List.cons.injEq, and_true]
  tauto

theorem take16_eq_some {bs rest : List Byte} {d : BitVec 16} :
    take16 bs = some (d, rest) ↔ bs = bytes16 d ++ rest := by
  rcases bs with _ | ⟨b0, _ | ⟨b1, bs⟩⟩
  · simp [take16, bytes16]
  · simp [take16, bytes16]
  · rw [take16, Option.some_inj, Prod.mk.injEq, eq_comm, eq_append_iff_bytes16]
    simp [bytes16, and_assoc, eq_comm]

theorem take32_eq_some {bs rest : List Byte} {d : BitVec 32} :
    take32 bs = some (d, rest) ↔ bs = bytes32 d ++ rest := by
  rcases bs with _ | ⟨b0, _ | ⟨b1, _ | ⟨b2, _ | ⟨b3, bs⟩⟩⟩⟩
  · simp [take32, bytes32]
  · simp [take32, bytes32]
  · simp [take32, bytes32]
  · simp [take32, bytes32]
  · rw [take32, Option.some_inj, Prod.mk.injEq, eq_comm, eq_append_iff_bytes32]
    simp [bytes32, and_assoc, eq_comm]

/-- The displacement a MOD field calls for, for both addressing sizes. -/
def takeDisp {n : Nat} (take : List Byte → Option (BitVec n × List Byte)) (mod : BitVec 2) (bs : List Byte) :
    Option (Disp n × List Byte) :=
  match mod.toNat, bs with
  | 0, bs => some (.none, bs)
  | 1, b :: bs => some (.byte b, bs)
  | 1, [] => none
  | _, bs => (take bs).map fun p => (.full p.1, p.2)

theorem takeDisp16_eq : takeDisp16 = takeDisp take16 := rfl
theorem takeDisp32_eq : takeDisp32 = takeDisp take32 := rfl

theorem takeDisp_eq_some {n : Nat} {take : List Byte → Option (BitVec n × List Byte)} {w : BitVec n → List Byte}
    (hw : ∀ {bs rest d}, take bs = some (d, rest) ↔ bs = w d ++ rest) {mod : BitVec 2} (h : mod ≠ 3)
    {bs rest : List Byte} {d : Disp n} :
    takeDisp take mod bs = some (d, rest) ↔ dispMod d = mod ∧ bs = dispBytes w d ++ rest := by
  have hmod : mod = 0 ∨ mod = 1 ∨ mod = 2 := by
    revert mod
    decide
  rcases hmod with rfl | rfl | rfl
  · cases d <;> simp [takeDisp, dispMod, dispBytes]
  · cases d <;> rcases bs <;> simp [takeDisp, dispMod, dispBytes]
  · cases d <;> simp [takeDisp, dispMod, dispBytes, hw]

theorem dispMod_eq_zero_iff {n : Nat} {d : Disp n} : dispMod d = 0 ↔ d = .none := by
  cases d <;> simp [dispMod]

theorem dispMod_ne_three {n : Nat} (d : Disp n) : dispMod d ≠ 3 := by
  cases d <;> simp [dispMod]

/-! ### Memory operands (R107 to R110) -/

theorem MemArg.modField_ne_three (m : MemArg) : m.modField ≠ 3 := by
  cases m with
  | a16 b d => exact dispMod_ne_three d
  | a32 b d => exact dispMod_ne_three d
  | sib s i b d => exact dispMod_ne_three d
  | _ => simp [modField]

/-- `m` is what MOD `mod` and R/M `rm` stand for at address size `asz`, as far as the ModRM byte tells. -/
structure MemArg.ReadAs (m : MemArg) (asz : Size) (mod : BitVec 2) (rm : BitVec 3) : Prop where
  wf : m.wf = true
  size : m.size = asz
  mod : m.modField = mod
  rm : m.rmField = rm

theorem MemArg.wf_a16 {b : Base16} {d : Disp 16} :
    (MemArg.a16 b d).wf = true ↔ ¬(dispMod d = 0 ∧ base16Code b = 6) := by
  rw [dispMod_eq_zero_iff]
  cases d <;> cases b <;> simp [wf, bpHasDisp, ebpHasDisp, espUsesSib, indexNotEsp, base16Code]

theorem MemArg.wf_a32 {b : Reg32} {d : Disp 32} :
    (MemArg.a32 b d).wf = true ↔ reg32Code b ≠ 4 ∧ ¬(dispMod d = 0 ∧ reg32Code b = 5) := by
  rw [dispMod_eq_zero_iff]
  cases d <;> cases b <;> simp [wf, bpHasDisp, ebpHasDisp, espUsesSib, indexNotEsp, reg32Code]

theorem MemArg.wf_sib {s : Scale} {i : Option Reg32} {b : Reg32} {d : Disp 32} :
    (MemArg.sib s i b d).wf = true ↔ i ≠ some .esp ∧ ¬(dispMod d = 0 ∧ reg32Code b = 5) := by
  rw [dispMod_eq_zero_iff]
  have hi : indexNotEsp (.sib s i b d) = true ↔ i ≠ some .esp := by
    rcases i with _ | i
    · simp [indexNotEsp]
    · cases i <;> simp [indexNotEsp]
  rw [← hi]
  cases d <;> cases b <;> simp [wf, bpHasDisp, ebpHasDisp, espUsesSib, reg32Code]

theorem MemArg.wf_sibNoBase {s : Scale} {i : Option Reg32} {d : BitVec 32} :
    (MemArg.sibNoBase s i d).wf = true ↔ i ≠ some .esp := by
  rcases i with _ | i
  · simp [wf, bpHasDisp, ebpHasDisp, espUsesSib, indexNotEsp]
  · cases i <;> simp [wf, bpHasDisp, ebpHasDisp, espUsesSib, indexNotEsp]

section
variable {asz : Size} {mod : BitVec 2} {rm : BitVec 3} {m : MemArg} {bs rest : List Byte}

theorem MemArg.readAs_iff :
    m.ReadAs asz mod rm ↔ m.wf = true ∧ m.size = asz ∧ m.modField = mod ∧ m.rmField = rm :=
  ⟨fun ⟨wf, size, mod, rm⟩ => ⟨wf, size, mod, rm⟩, fun ⟨wf, size, mod, rm⟩ => ⟨wf, size, mod, rm⟩⟩

@[simp] theorem MemArg.readAs_a16 {b : Base16} {d : Disp 16} : (MemArg.a16 b d).ReadAs asz mod rm ↔
    asz = .s16 ∧ dispMod d = mod ∧ base16Code b = rm ∧ ¬(mod = 0 ∧ rm = 6) := by
  simp only [readAs_iff, wf_a16, size, modField, rmField]
  grind

@[simp] theorem MemArg.readAs_direct16 {d : BitVec 16} : (MemArg.direct16 d).ReadAs asz mod rm ↔
    asz = .s16 ∧ mod = 0 ∧ rm = 6 := by
  simp only [readAs_iff, show (MemArg.direct16 d).wf = true from rfl, size, modField, rmField]
  grind

@[simp] theorem MemArg.readAs_a32 {b : Reg32} {d : Disp 32} : (MemArg.a32 b d).ReadAs asz mod rm ↔
    asz = .s32 ∧ dispMod d = mod ∧ reg32Code b = rm ∧ rm ≠ 4 ∧ ¬(mod = 0 ∧ rm = 5) := by
  simp only [readAs_iff, wf_a32, size, modField, rmField]
  grind

@[simp] theorem MemArg.readAs_direct32 {d : BitVec 32} : (MemArg.direct32 d).ReadAs asz mod rm ↔
    asz = .s32 ∧ mod = 0 ∧ rm = 5 := by
  simp only [readAs_iff, show (MemArg.direct32 d).wf = true from rfl, size, modField, rmField]
  grind

@[simp] theorem MemArg.readAs_sib {s : Scale} {i : Option Reg32} {b : Reg32} {d : Disp 32} :
    (MemArg.sib s i b d).ReadAs asz mod rm ↔
      asz = .s32 ∧ dispMod d = mod ∧ rm = 4 ∧ i ≠ some .esp ∧ ¬(mod = 0 ∧ reg32Code b = 5) := by
  simp only [readAs_iff, wf_sib, size, modField, rmField]
  grind

@[simp] theorem MemArg.readAs_sibNoBase {s : Scale} {i : Option Reg32} {d : BitVec 32} :
    (MemArg.sibNoBase s i d).ReadAs asz mod rm ↔ asz = .s32 ∧ mod = 0 ∧ rm = 4 ∧ i ≠ some .esp := by
  simp only [readAs_iff, wf_sibNoBase, size, modField, rmField]
  grind

theorem map_fst_eq_some {α β : Type} {x : Option (α × List Byte)} {f : α → β} {b : β} :
    (x.map fun p => (f p.1, p.2)) = some (b, rest) ↔ ∃ a, f a = b ∧ x = some (a, rest) := by
  simp [and_comm]

/-- 16-bit addressing (R110). -/
theorem decodeMem16_eq_some (h : mod ≠ 3) :
    decodeMem16 mod rm bs = some (m, rest) ↔ m.ReadAs .s16 mod rm ∧ bs = m.tail ++ rest := by
  rw [decodeMem16, takeDisp16_eq]
  split
  · next hd =>
    simp only [map_fst_eq_some, take16_eq_some]
    cases m with
    | direct16 d => simp [MemArg.tail, hd]
    | _ => simp [hd]
  · next hd =>
    simp only [map_fst_eq_some, takeDisp_eq_some take16_eq_some h]
    cases m with
    | a16 b d =>
      simp only [MemArg.a16.injEq, base16Of_eq_iff, MemArg.readAs_a16, MemArg.tail]
      grind
    | direct16 d => exact iff_of_false (by simp) fun ⟨hr, _⟩ => hd (MemArg.readAs_direct16.mp hr).2
    | _ => simp

theorem cons_eq_tail_sib {s : Scale} {i : Option Reg32} {b : Reg32} {d : Disp 32} {sib : Byte} :
    sib :: bs = (MemArg.sib s i b d).tail ++ rest ↔ (scaleCode s = bits76 sib ∧ indexCode i = bits53 sib ∧
      reg32Code b = bits20 sib) ∧ bs = dispBytes bytes32 d ++ rest := by
  rw [MemArg.tail, List.cons_append, List.cons.injEq, eq_comm (a := sib), packByte_eq_iff]

theorem cons_eq_tail_sibNoBase {s : Scale} {i : Option Reg32} {d : BitVec 32} {sib : Byte} :
    sib :: bs = (MemArg.sibNoBase s i d).tail ++ rest ↔ (scaleCode s = bits76 sib ∧ indexCode i = bits53 sib ∧
      5 = bits20 sib) ∧ bs = bytes32 d ++ rest := by
  rw [MemArg.tail, List.cons_append, List.cons.injEq, eq_comm (a := sib), packByte_eq_iff]

/-- The SIB byte, where R/M 100 calls for one (R109). -/
theorem decodeSib_eq_some {sib : Byte} (h : mod ≠ 3) :
    decodeSib mod sib bs = some (m, rest) ↔ m.ReadAs .s32 mod 4 ∧ sib :: bs = m.tail ++ rest := by
  rw [decodeSib, takeDisp32_eq]
  split
  · next hd =>
    simp only [map_fst_eq_some, take32_eq_some]
    cases m with
    | sibNoBase s i d =>
      simp only [MemArg.sibNoBase.injEq, scaleOf_eq_iff, indexOf_eq_iff, MemArg.readAs_sibNoBase,
        cons_eq_tail_sibNoBase]
      grind
    | sib s i b d =>
      rw [MemArg.readAs_sib, cons_eq_tail_sib]
      exact iff_of_false (by simp) fun ⟨⟨_, _, _, _, hbase⟩, ⟨_, _, hb⟩, _⟩ => hbase ⟨hd.1, hb.trans hd.2⟩
    | _ => simp
  · next hd =>
    simp only [map_fst_eq_some, takeDisp_eq_some take32_eq_some h]
    cases m with
    | sib s i b d =>
      simp only [MemArg.sib.injEq, scaleOf_eq_iff, indexOf_eq_iff, reg32Of_eq_iff, MemArg.readAs_sib, cons_eq_tail_sib]
      grind
    | sibNoBase s i d =>
      rw [MemArg.readAs_sibNoBase, cons_eq_tail_sibNoBase]
      exact iff_of_false (by simp) fun ⟨⟨_, hmod, _⟩, ⟨_, _, hb⟩, _⟩ => hd ⟨hmod, hb.symm⟩
    | _ => simp

/-- 32-bit addressing (R108, R109). -/
theorem decodeMem32_eq_some (h : mod ≠ 3) :
    decodeMem32 mod rm bs = some (m, rest) ↔ m.ReadAs .s32 mod rm ∧ bs = m.tail ++ rest := by
  unfold decodeMem32
  split
  · next hrm =>
    subst hrm
    cases bs with
    | cons sib bs => exact decodeSib_eq_some h
    | nil => cases m <;> simp [MemArg.tail]
  · next hrm =>
    rw [takeDisp32_eq]
    split
    · next hd =>
      simp only [map_fst_eq_some, take32_eq_some]
      cases m with
      | direct32 d => simp [MemArg.tail, hd]
      | _ => simp [hd]
    · next hd =>
      simp only [map_fst_eq_some, takeDisp_eq_some take32_eq_some h]
      cases m with
      | a32 b d =>
        simp only [MemArg.a32.injEq, reg32Of_eq_iff, MemArg.readAs_a32, MemArg.tail]
        grind
      | direct32 d => exact iff_of_false (by simp) fun ⟨hr, _⟩ => hd (MemArg.readAs_direct32.mp hr).2
      | sib s i b d => exact iff_of_false (by simp) fun ⟨hr, _⟩ => hrm hr.rm.symm
      | sibNoBase s i d => exact iff_of_false (by simp) fun ⟨hr, _⟩ => hrm hr.rm.symm
      | _ => simp

/-- What follows MOD and R/M is read as an operand exactly when it is the bytes of that operand (R107). -/
theorem decodeMemArg_eq_some (h : mod ≠ 3) :
    decodeMemArg asz mod rm bs = some (m, rest) ↔ m.ReadAs asz mod rm ∧ bs = m.tail ++ rest := by
  cases asz with
  | s16 => exact decodeMem16_eq_some h
  | s32 => exact decodeMem32_eq_some h

end

end Sys2Proof
end

section
/-! The opcode map (R102, R114 to R121) read in both directions, and the decoder by cases (R100, R104). -/

namespace Sys2Proof

/-! ### The opcode map (R102, R114 to R121) -/

/-- A memory form has the opcode it was decoded from. -/
theorem decodeMemForm_spec (grp reg : BitVec 3) (pre : List Prefix) (m : MemArg) :
    (decodeMemForm grp reg pre m).opcode = .mem grp reg ∧ (decodeMemForm grp reg pre m).parts = (pre, 2, some m) := by
  obtain ⟨g⟩ := grp
  obtain ⟨r⟩ := reg
  fin_cases g <;> fin_cases r <;> exact ⟨rfl, rfl⟩

/-- A register form has the opcode it was decoded from. -/
theorem decodeRegForm_spec (grp : BitVec 3) {b2 : Byte} (pre : List Prefix) (h : bits76 b2 = 3) :
    (decodeRegForm grp b2 pre).opcode = .reg grp b2 ∧ (decodeRegForm grp b2 pre).parts = (pre, 2, none) := by
  rw [← packByte_bits b2, h]
  generalize bits53 b2 = r, bits20 b2 = s
  obtain ⟨g⟩ := grp
  obtain ⟨r⟩ := r
  obtain ⟨s⟩ := s
  fin_cases g <;> fin_cases r <;> fin_cases s <;> exact ⟨rfl, rfl⟩

/-- The form of an instruction in the opcode map, which decodes its opcode back to it. -/
inductive OpcodeRow : Instr → Prop
  | mem {i : Instr} (grp reg : BitVec 3) (pre : List Prefix) (m : MemArg) (opcode : i.opcode = .mem grp reg)
      (parts : i.parts = (pre, 2, some m)) (decodes : decodeMemForm grp reg pre m = i) : OpcodeRow i
  | reg {i : Instr} (grp : BitVec 3) (b2 : Byte) (pre : List Prefix) (opcode : i.opcode = .reg grp b2)
      (parts : i.parts = (pre, 2, none)) (bits : bits76 b2 = 3) (decodes : decodeRegForm grp b2 pre = i) : OpcodeRow i
  | wait (pre : List Prefix) : OpcodeRow (.wait pre)

/-- Every instruction has its row of the opcode map. -/
theorem opcodeRow_of : (i : Instr) → OpcodeRow i
  | .faddSingleReal .. | .fmulSingleReal .. | .fcomSingleReal .. | .fcompSingleReal .. | .fsubSingleReal ..
  | .fsubrSingleReal .. | .fdivSingleReal .. | .fdivrSingleReal .. | .fldSingleReal .. | .reservedD9mem1 ..
  | .fstSingleReal .. | .fstpSingleReal .. | .fldenv .. | .fldcw .. | .fstenv .. | .fstcw ..
  | .fiaddShortInteger .. | .fimulShortInteger .. | .ficomShortInteger .. | .ficompShortInteger ..
  | .fisubShortInteger .. | .fisubrShortInteger .. | .fidivShortInteger .. | .fidivrShortInteger ..
  | .fildShortInteger .. | .reservedDBmem1 .. | .fistShortInteger .. | .fistpShortInteger .. | .reservedDBmem4 ..
  | .fldExtendedReal .. | .reservedDBmem6 .. | .fstpExtendedReal .. | .faddDoubleReal .. | .fmulDoubleReal ..
  | .fcomDoubleReal .. | .fcompDoubleReal .. | .fsubDoubleReal .. | .fsubrDoubleReal .. | .fdivDoubleReal ..
  | .fdivrDoubleReal .. | .fldDoubleReal .. | .reservedDDmem1 .. | .fstDoubleReal .. | .fstpDoubleReal ..
  | .frstor .. | .reservedDDmem5 .. | .fsave .. | .fstsw .. | .fiaddWordInteger .. | .fimulWordInteger ..
  | .ficomWordInteger .. | .ficompWordInteger .. | .fisubWordInteger .. | .fisubrWordInteger ..
  | .fidivWordInteger .. | .fidivrWordInteger .. | .fildWordInteger .. | .reservedDFmem1 .. | .fistWordInteger ..
  | .fistpWordInteger .. | .fbldPackedDecimal .. | .fildLongInteger .. | .fbstpPackedDecimal ..
  | .fistpLongInteger .. =>
    .mem _ _ _ _ rfl rfl rfl
  | .fnop .. | .reservedD9rD1 .. | .fchs .. | .fabs .. | .reservedD9rE2 .. | .reservedD9rE3 .. | .ftst ..
  | .fxam .. | .reservedD9rE6 .. | .reservedD9rE7 .. | .fld1 .. | .fldl2t .. | .fldl2e .. | .fldpi .. | .fldlg2 ..
  | .fldln2 .. | .fldz .. | .reservedD9rEF .. | .f2xm1 .. | .fyl2x .. | .fptan .. | .fpatan .. | .fxtract ..
  | .fprem1 .. | .fdecstp .. | .fincstp .. | .fprem .. | .fyl2xp1 .. | .fsqrt .. | .fsincos .. | .frndint ..
  | .fscale .. | .fsin .. | .fcos .. | .reservedDArE8 .. | .fucompp .. | .feni .. | .fdisi .. | .fclex ..
  | .finit .. | .fsetpm .. | .reservedDBrE5 .. | .reservedDErD8 .. | .fcompp .. | .fstswAx .. | .reservedDFrE1 .. =>
    .reg _ _ _ rfl rfl rfl rfl
  | .faddStSti _ k | .fmulStSti _ k | .fcomSti _ k | .fcompSti _ k | .fsubStSti _ k | .fsubrStSti _ k
  | .fdivStSti _ k | .fdivrStSti _ k | .fldSti _ k | .fxchSti _ k | .reservedD9rD2toD3 _ k | .reservedD9rD4toD7 _ k
  | .reservedD9rD8toDF _ k | .reservedDArC0toDF _ k | .reservedDArE0toE7 _ k | .reservedDArEAtoEB _ k
  | .reservedDArECtoEF _ k | .reservedDArF0toFF _ k | .reservedDBrC0toDF _ k | .reservedDBrE6toE7 _ k
  | .reservedDBrE8toEF _ k | .reservedDBrF0toFF _ k | .faddStiSt _ k | .fmulStiSt _ k | .reservedDCrD0toDF _ k
  | .fsubrStiSt _ k | .fsubStiSt _ k | .fdivrStiSt _ k | .fdivStiSt _ k | .ffreeSti _ k | .reservedDDrC8toCF _ k
  | .fstSti _ k | .fstpSti _ k | .fucomSti _ k | .fucompSti _ k | .reservedDDrF0toFF _ k | .faddpStiSt _ k
  | .fmulpStiSt _ k | .reservedDErD0toD7 _ k | .reservedDErDAtoDB _ k | .reservedDErDCtoDF _ k | .fsubrpStiSt _ k
  | .fsubpStiSt _ k | .fdivrpStiSt _ k | .fdivpStiSt _ k | .reservedDFrC0toDF _ k | .reservedDFrE2toE3 _ k
  | .reservedDFrE4toE7 _ k | .reservedDFrE8toEF _ k | .reservedDFrF0toFF _ k => by
    obtain ⟨k⟩ := k
    fin_cases k <;> exact .reg _ _ _ rfl rfl rfl rfl
  | .wait pre => .wait pre

/-! ### The decoder by cases (R100, R104) -/

section
variable (dflt : Size) (pre : List Prefix)

theorem decode_prefixes {b : Byte} (bs : List Byte) (hb : prefixOf? b = none) :
    decode dflt (pre.map prefixByte ++ b :: bs) = decodeOpcode dflt pre (b :: bs) := by
  rw [decode, splitPrefixes_prefixes pre bs hb]

theorem decode_wait (bs : List Byte) : decode dflt (pre.map prefixByte ++ 0x9B :: bs) = .ok (.wait pre, bs) :=
  decode_prefixes dflt pre bs rfl

theorem decode_esc (grp : BitVec 3) (bs : List Byte) :
    decode dflt (pre.map prefixByte ++ escByte grp :: bs) = decodeEsc (addressSizeOf dflt pre) pre grp bs := by
  rw [decode_prefixes dflt pre bs (prefixOf?_escByte grp), decodeOpcode, if_neg (escByte_ne_wait grp),
    if_pos (extractLsb'_escByte grp), bits20_escByte]

variable (asz : Size) (grp : BitVec 3)

theorem decodeEsc_reg {b2 : Byte} (bs : List Byte) (h : bits76 b2 = 3) :
    decodeEsc asz pre grp (b2 :: bs) = .ok (decodeRegForm grp b2 pre, bs) := by
  rw [decodeEsc, if_pos h]

theorem decodeEsc_mem {b2 : Byte} {bs rest : List Byte} {m : MemArg} (h : bits76 b2 ≠ 3)
    (hm : decodeMemArg asz (bits76 b2) (bits20 b2) bs = some (m, rest)) :
    decodeEsc asz pre grp (b2 :: bs) = .ok (decodeMemForm grp (bits53 b2) pre m, rest) := by
  rw [decodeEsc, if_neg h, hm]

/-- An expressible memory operand is read back from its ModRM byte and the bytes after it. -/
theorem decodeEsc_modrm {m : MemArg} (reg : BitVec 3) (rest : List Byte) (h : m.wf = true) :
    decodeEsc m.size pre grp (m.modrm reg :: (m.tail ++ rest)) = .ok (decodeMemForm grp reg pre m, rest) := by
  have hmod : bits76 (m.modrm reg) ≠ 3 := by
    rw [MemArg.modrm, bits76_packByte]
    exact m.modField_ne_three
  rw [decodeEsc_mem pre m.size grp hmod ((decodeMemArg_eq_some hmod).mpr ⟨⟨h, rfl, ?_, ?_⟩, rfl⟩), MemArg.modrm,
    bits53_packByte]
  · rw [MemArg.modrm, bits76_packByte]
  · rw [MemArg.modrm, bits20_packByte]

end

/-- The bytes after an ESC opcode are read as a register form, or as a memory form with an expressible operand. -/
theorem decodeEsc_ok {asz : Size} {pre : List Prefix} {grp : BitVec 3} {bs rest : List Byte} {i : Instr}
    (h : decodeEsc asz pre grp bs = .ok (i, rest)) :
    (∃ b2, bits76 b2 = 3 ∧ bs = b2 :: rest ∧ i = decodeRegForm grp b2 pre) ∨
    ∃ reg m, m.wf = true ∧ m.size = asz ∧ bs = m.modrm reg :: (m.tail ++ rest) ∧ i = decodeMemForm grp reg pre m := by
  cases bs with
  | nil => cases h
  | cons b2 bs =>
    by_cases hr : bits76 b2 = 3
    · rw [decodeEsc_reg pre asz grp bs hr] at h
      cases h
      exact .inl ⟨b2, hr, rfl, rfl⟩
    · cases hm : decodeMemArg asz (bits76 b2) (bits20 b2) bs with
      | none =>
        rw [decodeEsc, if_neg hr, hm] at h
        cases h
      | some p =>
        rw [decodeEsc_mem pre asz grp hr hm] at h
        cases h
        obtain ⟨⟨wf, size, mod, rm⟩, rfl⟩ := (decodeMemArg_eq_some hr).mp hm
        exact .inr ⟨bits53 b2, p.1, wf, size, by rw [MemArg.modrm, mod, rm, packByte_bits], rfl⟩

/-- The bytes after the prefixes are read as WAIT or as an ESC instruction. -/
theorem decodeOpcode_ok {dflt : Size} {pre : List Prefix} {bs rest : List Byte} {i : Instr}
    (h : decodeOpcode dflt pre bs = .ok (i, rest)) :
    (bs = 0x9B :: rest ∧ i = .wait pre) ∨
    ∃ grp bs', bs = escByte grp :: bs' ∧ decodeEsc (addressSizeOf dflt pre) pre grp bs' = .ok (i, rest) := by
  cases bs with
  | nil => cases h
  | cons b1 bs =>
    rw [decodeOpcode] at h
    split_ifs at h with hw he
    · cases h
      exact .inl ⟨by rw [hw], rfl⟩
    · exact .inr ⟨bits20 b1, bs, by rw [escByte_bits20 b1 he], h⟩

end Sys2Proof
end

section
/-! Encoding and decoding are inverse to each other (R101, R104 to R110), and every ESC byte pair decodes (R100 to R104,
R122). -/

namespace Sys2Proof

/-! ### Encoding and decoding (R101) -/

theorem encode_of_mem {i : Instr} {grp reg : BitVec 3} {pre : List Prefix} {m : MemArg}
    (opcode : i.opcode = .mem grp reg) (parts : i.parts = (pre, 2, some m)) :
    encode i = pre.map prefixByte ++ escByte grp :: m.modrm reg :: m.tail := by
  rw [encode, Instr.prefixes, Instr.memArg?, parts, opcode, opcodeBytes]

theorem encode_of_reg {i : Instr} {grp : BitVec 3} {b2 : Byte} {pre : List Prefix}
    (opcode : i.opcode = .reg grp b2) (parts : i.parts = (pre, 2, none)) :
    encode i = pre.map prefixByte ++ [escByte grp, b2] := by
  rw [encode, Instr.prefixes, parts, opcode, opcodeBytes]

/-- Well-formedness is the length limit and an expressible operand of the address size in effect. -/
theorem Instr.wf_iff {dflt : Size} {i : Instr} :
    i.wf dflt = true ↔ i.length ≤ maxLength ∧
      ∀ m, i.memArg? = some m → m.wf = true ∧ m.size = addressSizeOf dflt i.prefixes := by
  unfold wf lengthOk memArgOk addressSizeOk
  cases i.memArg? <;> simp [and_assoc]

/-- Settles O1: the row of the opcode map that wrote an instruction's bytes reads them. -/
theorem decodeEncode : Obligations.DecodeEncode := by
  unfold Obligations.DecodeEncode
  intro dflt i rest hwf
  obtain ⟨-, operand⟩ := Instr.wf_iff.mp hwf
  cases opcodeRow_of i with
  | wait pre =>
    rw [show encode (.wait pre) = pre.map prefixByte ++ [0x9B] from rfl, List.append_assoc]
    exact decode_wait dflt pre rest
  | reg grp b2 pre opcode parts bits decodes =>
    rw [encode_of_reg opcode parts, List.append_assoc]
    exact (decode_esc ..).trans (decodes ▸ decodeEsc_reg _ _ _ _ bits)
  | mem grp reg pre m opcode parts decodes =>
    obtain ⟨wf, size⟩ := operand m (by rw [Instr.memArg?, parts])
    rw [Instr.prefixes, parts] at size
    rw [encode_of_mem opcode parts, List.append_assoc, List.cons_append, List.cons_append, decode_esc, ← size,
      decodeEsc_modrm pre grp reg rest wf, decodes]

/-- What was decoded has the bytes it was decoded from, and an operand the ModRM and SIB bytes can express. -/
theorem decode_ok {dflt : Size} {bs rest : List Byte} {i : Instr} (h : decode dflt bs = .ok (i, rest)) :
    encode i ++ rest = bs ∧ ∀ m, i.memArg? = some m → m.wf = true ∧ m.size = addressSizeOf dflt i.prefixes := by
  rw [← splitPrefixes_append bs]
  rw [decode] at h
  generalize (splitPrefixes bs).1 = pre, (splitPrefixes bs).2 = bs at h ⊢
  obtain ⟨rfl, rfl⟩ | ⟨grp, bs, rfl, hesc⟩ := decodeOpcode_ok h
  · simp [encode, Instr.prefixes, Instr.memArg?, Instr.parts, Instr.opcode, opcodeBytes]
  · obtain ⟨b2, bits, rfl, rfl⟩ | ⟨reg, m, wf, size, rfl, rfl⟩ := decodeEsc_ok hesc
    · obtain ⟨opcode, parts⟩ := decodeRegForm_spec grp pre bits
      simp [encode_of_reg opcode parts, Instr.memArg?, parts]
    · obtain ⟨opcode, parts⟩ := decodeMemForm_spec grp reg pre m
      simp [encode_of_mem opcode parts, Instr.memArg?, Instr.prefixes, parts, wf, size]

/-- Settles O2: what `decode_ok` says, with the length limit. -/
theorem encodeDecode : Obligations.EncodeDecode := by
  unfold Obligations.EncodeDecode
  intro dflt bs rest i h
  obtain ⟨bytes, operand⟩ := decode_ok h
  exact ⟨bytes, fun length => Instr.wf_iff.mpr ⟨length, operand⟩⟩

/-! ### Every ESC byte pair (R100, R102, R104) -/

theorem MemArg.extraBytes_le (m : MemArg) : m.extraBytes ≤ 5 := by
  cases m with
  | a16 b d => cases d <;> simp [extraBytes, Disp.bytes]
  | a32 b d => cases d <;> simp [extraBytes, Disp.bytes]
  | sib s i b d => cases d <;> simp [extraBytes, Disp.bytes]
  | _ => simp [extraBytes]

theorem takeDisp_isSome {n : Nat} {take : List Byte → Option (BitVec n × List Byte)} (mod : BitVec 2) {b : Byte}
    {bs : List Byte} (h : (take (b :: bs)).isSome) : (takeDisp take mod (b :: bs)).isSome := by
  unfold takeDisp
  split
  · rfl
  · rfl
  · contradiction
  · rwa [Option.isSome_map]

/-- Five bytes are enough for SIB and displacement. -/
theorem decodeMemArg_isSome (asz : Size) (mod : BitVec 2) (rm : BitVec 3) {bs : List Byte} (h : 5 ≤ bs.length) :
    (decodeMemArg asz mod rm bs).isSome := by
  obtain ⟨b0, b1, b2, b3, b4, bs, rfl⟩ : ∃ b0 b1 b2 b3 b4 bs', bs = b0 :: b1 :: b2 :: b3 :: b4 :: bs' := by
    match bs, h with
    | b0 :: b1 :: b2 :: b3 :: b4 :: bs', _ => exact ⟨b0, b1, b2, b3, b4, bs', rfl⟩
  cases asz with
  | s16 =>
    rw [decodeMemArg, decodeMem16, takeDisp16_eq]
    split
    · rfl
    · rw [Option.isSome_map]
      exact takeDisp_isSome mod rfl
  | s32 =>
    simp only [decodeMemArg, decodeMem32, decodeSib, takeDisp32_eq]
    split_ifs
    · rfl
    · rw [Option.isSome_map]
      exact takeDisp_isSome mod rfl
    · rfl
    · rw [Option.isSome_map]
      exact takeDisp_isSome mod rfl

theorem escForm_of_mem {b1 b2 : Byte} (h1 : b1.extractLsb' 3 5 = 27) (h : bits76 b2 ≠ 3) :
    escForm b1 b2 = some .one ∨ escForm b1 b2 = some .two := by
  rw [escForm, if_neg (by simpa using h1), if_pos h]
  split
  · exact .inl rfl
  · exact .inr rfl

theorem escForm_of_reg {b1 b2 : Byte} (h : bits76 b2 = 3) :
    ¬(escForm b1 b2 = some .one ∨ escForm b1 b2 = some .two) := by
  rw [escForm, if_neg (not_not.mpr h)]
  split_ifs <;> simp

theorem Instr.length_of_parts {i : Instr} {pre : List Prefix} {m : Option MemArg} (parts : i.parts = (pre, 2, m)) :
    i.length = pre.length + 2 + m.elim 0 MemArg.extraBytes := by
  rw [length, prefixes, memArg?, parts]
  cases m <;> rfl

/-- Settles O3: a register form needs no byte after the pair, and a memory operand at most five. -/
theorem escBytesDecode : Obligations.EscBytesDecode := by
  unfold Obligations.EscBytesDecode
  intro dflt pre b1 b2 tail hb hlen
  have hdecode := decode_esc dflt pre (bits20 b1) (b2 :: tail)
  rw [escByte_bits20 b1 hb] at hdecode
  by_cases hr : bits76 b2 = 3
  · obtain ⟨-, parts⟩ := decodeRegForm_spec (bits20 b1) pre hr
    have length : (decodeRegForm (bits20 b1) b2 pre).length = pre.length + 2 := Instr.length_of_parts parts
    refine ⟨_, _, hdecode.trans (decodeEsc_reg _ _ _ _ hr), ?_, by omega, by omega, ?_, fun _ => length⟩
    · rw [Instr.prefixes, parts]
    · simp [Instr.memArg?, parts, escForm_of_reg hr]
  · obtain ⟨⟨m, rest⟩, hm⟩ := Option.isSome_iff_exists.mp
      (decodeMemArg_isSome (addressSizeOf dflt pre) (bits76 b2) (bits20 b2) hlen)
    obtain ⟨-, parts⟩ := decodeMemForm_spec (bits20 b1) (bits53 b2) pre m
    have length : (decodeMemForm (bits20 b1) (bits53 b2) pre m).length = pre.length + 2 + m.extraBytes :=
      Instr.length_of_parts parts
    have := m.extraBytes_le
    refine ⟨_, _, hdecode.trans (decodeEsc_mem _ _ _ hr hm), ?_, by omega, by omega, ?_, ?_⟩
    · rw [Instr.prefixes, parts]
    · simp [Instr.memArg?, parts, escForm_of_mem hb hr]
    · simp [Instr.memArg?, parts]

/-- Settles O4: each word is decoded by evaluation. -/
theorem decodedWords : Obligations.DecodedWords := by
  unfold Obligations.DecodedWords
  decide

end Sys2Proof
end

section
/-! Rounding an exact magnitude (R150): what the integer arithmetic of `floorAt`, `log2` and `roundAt` says of the real
number that the magnitude stands for. -/

namespace Sys2Proof.Machine

/-! ### The binary exponent of a real number -/

theorem floorLog2_eq_iff {x : ℝ} (hx : 0 < x) {e : ℤ} : floorLog2 x = e ↔ 2 ^ e ≤ x ∧ x < 2 ^ (e + 1) := by
  rw [floorLog2, Int.floor_eq_iff, Real.le_logb_iff_rpow_le one_lt_two hx, ← Int.cast_one, ← Int.cast_add,
    Real.logb_lt_iff_lt_rpow one_lt_two hx, Real.rpow_intCast, Real.rpow_intCast]

theorem two_zpow_log2_le_natCast_mul {q : ℕ} (hq : q ≠ 0) (t : ℤ) : (2 : ℝ) ^ (q.log2 + t) ≤ q * 2 ^ t := by
  rw [zpow_add₀ two_ne_zero]
  gcongr
  exact_mod_cast Nat.log2_self_le hq

theorem natCast_mul_lt_two_zpow_log2 (q : ℕ) (t : ℤ) : (q : ℝ) * 2 ^ t < 2 ^ (q.log2 + t + 1) := by
  rw [add_right_comm, zpow_add₀ two_ne_zero]
  gcongr
  exact_mod_cast Nat.lt_log2_self (n := q)

theorem floorLog2_natCast_mul {q : ℕ} (hq : q ≠ 0) (t : ℤ) : floorLog2 (q * 2 ^ t) = q.log2 + t :=
  (floorLog2_eq_iff (by positivity)).mpr ⟨two_zpow_log2_le_natCast_mul hq t, natCast_mul_lt_two_zpow_log2 q t⟩

/-- A number of at most `c + 1` bits. -/
theorem log2_le_of_lt {q c : ℕ} (h : q < 2 ^ (c + 1)) : q.log2 ≤ c := by
  rcases eq_or_ne q 0 with rfl | hq
  · simp
  · exact Nat.le_of_lt_succ ((Nat.log2_lt hq).mpr h)

/-! ### Floors with an exactness flag -/

/-- `f.1` is `⌊y⌋`, and `f.2` says whether `y` is that integer: what `Mag.floorAt` computes. -/
def IsFloor (f : ℕ × Bool) (y : ℝ) : Prop := (f.1 : ℝ) ≤ y ∧ y < f.1 + 1 ∧ (f.2 = true ↔ y = f.1)

theorem IsFloor.fst_eq_zero_iff {f : ℕ × Bool} {y : ℝ} (h : IsFloor f y) : f.1 = 0 ↔ y < 1 := by
  obtain ⟨hlo, hhi, -⟩ := h
  constructor
  · intro h0
    simpa [h0] using hhi
  · intro h1
    exact Nat.lt_one_iff.mp (by exact_mod_cast hlo.trans_lt h1)

theorem isFloor_div (n : ℕ) {d : ℕ} (hd : 0 < d) : IsFloor (n / d, n % d == 0) (n / d) := by
  have hd' : (0 : ℝ) < d := by exact_mod_cast hd
  refine ⟨Nat.cast_div_le, ?_, ?_⟩
  · rw [div_lt_iff₀ hd']
    exact_mod_cast (Nat.div_lt_iff_lt_mul hd).mp (Nat.lt_succ_self (n / d))
  · rw [beq_iff_eq, div_eq_iff hd'.ne', ← Nat.dvd_iff_mod_eq_zero]
    norm_cast
    exact ⟨fun h => (Nat.div_mul_cancel h).symm, fun h => ⟨n / d, by rw [mul_comm]; exact h⟩⟩

theorem isFloor_divShift (n : ℕ) {d : ℕ} (hd : 0 < d) (j : ℤ) : IsFloor (divShift n d j) (n / d / 2 ^ j) := by
  unfold divShift
  split
  · next hj =>
    obtain ⟨s, rfl⟩ : ∃ s : ℕ, j = -s := ⟨(-j).toNat, by omega⟩
    convert isFloor_div (n <<< s) hd using 1
    · simp
    · simp [Nat.shiftLeft_eq, div_eq_mul_inv, mul_right_comm]
  · obtain ⟨s, rfl⟩ : ∃ s : ℕ, j = s := ⟨j.toNat, by omega⟩
    have hp : (n : ℝ) / d / 2 ^ (s : ℤ) = (n : ℝ) / (d <<< s : ℕ) := by simp [Nat.shiftLeft_eq, div_div]
    rw [hp]
    split
    · next hlog =>
      have hn : n < d <<< s := by
        calc n < 2 ^ (n.log2 + 1) := Nat.lt_log2_self
          _ ≤ 2 ^ s := Nat.pow_le_pow_right two_pos (by omega)
          _ ≤ d <<< s := by rw [Nat.shiftLeft_eq]; exact Nat.le_mul_of_pos_left _ hd
      have h := isFloor_div n (Nat.zero_lt_of_lt hn)
      rwa [Nat.div_eq_of_lt hn, Nat.mod_eq_of_lt hn] at h
    · exact isFloor_div n (by rw [Nat.shiftLeft_eq]; positivity)

/-- Adding powers of two from the top keeps the square root between `r` and `r + 2^b`. -/
theorem sqrtBits_spec {n : ℕ} (b : ℕ) {r : ℕ} (hlo : r * r ≤ n) (hhi : n < (r + 2 ^ b) * (r + 2 ^ b)) :
    sqrtBits n b r * sqrtBits n b r ≤ n ∧ n < (sqrtBits n b r + 1) * (sqrtBits n b r + 1) := by
  induction b generalizing r with
  | zero => exact ⟨hlo, hhi⟩
  | succ b ih =>
    rw [sqrtBits]
    split
    · next h => exact ih h (by rwa [add_assoc, ← two_mul, ← pow_succ'])
    · next h => exact ih hlo (not_le.mp h)

theorem isqrt_eq_sqrt (n : ℕ) : isqrt n = Nat.sqrt n := by
  have hn : n < (0 + 2 ^ (n.log2 / 2 + 1)) * (0 + 2 ^ (n.log2 / 2 + 1)) := by
    rw [zero_add, ← pow_add]
    exact Nat.lt_log2_self.trans_le (Nat.pow_le_pow_right two_pos (by omega))
  exact Nat.eq_sqrt.mpr (sqrtBits_spec _ (Nat.zero_le n) hn)

theorem isFloor_sqrt_div (n s : ℕ) :
    IsFloor (Nat.sqrt (n / 2 ^ s), Nat.sqrt (n / 2 ^ s) * Nat.sqrt (n / 2 ^ s) * 2 ^ s == n)
      (Real.sqrt (n / 2 ^ s)) := by
  generalize hr : Nat.sqrt (n / 2 ^ s) = r
  obtain ⟨hlo, hhi⟩ := Nat.eq_sqrt.mp hr.symm
  rw [Nat.le_div_iff_mul_le (by positivity)] at hlo
  rw [Nat.div_lt_iff_lt_mul (by positivity)] at hhi
  have hr0 : (0 : ℝ) ≤ r := Nat.cast_nonneg r
  refine ⟨?_, ?_, ?_⟩
  · refine Real.le_sqrt_of_sq_le ?_
    rw [sq, le_div_iff₀ (by positivity)]
    exact_mod_cast hlo
  · rw [Real.sqrt_lt' (by positivity), sq, div_lt_iff₀ (by positivity)]
    exact_mod_cast hhi
  · rw [beq_iff_eq, Real.sqrt_eq_iff_mul_self_eq (by positivity) hr0, div_eq_iff (by positivity), eq_comm]
    norm_cast

theorem isFloor_sqrtShift (n : ℕ) (j : ℤ) : IsFloor (sqrtShift n j) (Real.sqrt (n * 2 ^ j)) := by
  unfold sqrtShift
  split
  · obtain ⟨s, rfl⟩ : ∃ s : ℕ, j = s := ⟨j.toNat, by omega⟩
    have h := isFloor_sqrt_div (n * 2 ^ s) 0
    simpa [isqrt_eq_sqrt, Nat.shiftLeft_eq] using h
  · obtain ⟨s, rfl⟩ : ∃ s : ℕ, j = -s := ⟨(-j).toNat, by omega⟩
    have h := isFloor_sqrt_div n s
    simpa [isqrt_eq_sqrt, Nat.shiftLeft_eq, Nat.shiftRight_eq_div_pow, div_eq_mul_inv] using h

/-! ### Magnitudes -/

theorem Mag.real_ratio (n d : ℕ) (k : ℤ) : (Mag.ratio n d k).real = n / d * 2 ^ k := rfl

theorem Mag.real_root (n : ℕ) (k : ℤ) : (Mag.root n k).real = Real.sqrt (n * 2 ^ k) := rfl

theorem Mag.ratio_pos {n d : ℕ} {k : ℤ} (h : 0 < (Mag.ratio n d k).real) : 0 < n ∧ 0 < d := by
  rw [Mag.real_ratio] at h
  constructor <;> refine Nat.pos_of_ne_zero fun h0 => ?_ <;> simp [h0] at h

theorem Mag.root_pos {n : ℕ} {k : ℤ} (h : 0 < (Mag.root n k).real) : 0 < n := by
  rw [Mag.real_root] at h
  exact Nat.pos_of_ne_zero fun h0 => by simp [h0] at h

theorem Mag.isFloor_floorAt {x : Mag} (hx : 0 < x.real) (t : ℤ) : IsFloor (x.floorAt t) (x.real / 2 ^ t) := by
  cases x with
  | ratio n d k =>
    have h := isFloor_divShift n (Mag.ratio_pos hx).2 (t - k)
    rwa [zpow_sub₀ two_ne_zero, div_div_eq_mul_div, ← Mag.real_ratio] at h
  | root n k =>
    have h := isFloor_sqrtShift n (k - 2 * t)
    have hsq : (n : ℝ) * 2 ^ (k - 2 * t) = n * 2 ^ k / (2 ^ t) ^ 2 := by
      rw [zpow_sub₀ two_ne_zero, mul_comm 2 t, zpow_mul, zpow_ofNat, mul_div_assoc]
    rwa [hsq, Real.sqrt_div' _ (by positivity), Real.sqrt_sq (by positivity)] at h

/-- The exponents of numerator and denominator determine that of a fraction up to one. -/
theorem Mag.ratio_bounds {n d : ℕ} (hn : 0 < n) (hd : 0 < d) (k : ℤ) :
    2 ^ ((n.log2 : ℤ) - d.log2 + k - 1) ≤ (Mag.ratio n d k).real ∧
      (Mag.ratio n d k).real < 2 ^ ((n.log2 : ℤ) - d.log2 + k + 1) := by
  have hd' : (0 : ℝ) < d := by exact_mod_cast hd
  have hn1 := two_zpow_log2_le_natCast_mul hn.ne' k
  have hn2 := natCast_mul_lt_two_zpow_log2 n k
  have hd1 := two_zpow_log2_le_natCast_mul hd.ne' 0
  have hd2 := natCast_mul_lt_two_zpow_log2 d 0
  rw [zpow_zero, mul_one, add_zero] at hd1 hd2
  rw [Mag.real_ratio, ← mul_div_right_comm, le_div_iff₀ hd', div_lt_iff₀ hd',
    show (n.log2 : ℤ) - d.log2 + k - 1 = n.log2 + k - (d.log2 + 1) by omega,
    show (n.log2 : ℤ) - d.log2 + k + 1 = n.log2 + k + 1 - d.log2 by omega, zpow_sub₀ two_ne_zero, zpow_sub₀ two_ne_zero]
  constructor
  · refine (mul_le_mul_of_nonneg_left hd2.le (by positivity)).trans ?_
    rwa [div_mul_cancel₀ _ (by positivity)]
  · refine lt_of_lt_of_le ?_ (mul_le_mul_of_nonneg_left hd1 (by positivity))
    rwa [div_mul_cancel₀ _ (by positivity)]

theorem Mag.log2_eq {x : Mag} (hx : 0 < x.real) : x.log2 = floorLog2 x.real := by
  symm
  rw [floorLog2_eq_iff hx]
  cases x with
  | ratio n d k =>
    obtain ⟨hn, hd⟩ := Mag.ratio_pos hx
    obtain ⟨hlow, hhigh⟩ := Mag.ratio_bounds hn hd k
    have hzero := (Mag.isFloor_floorAt hx (n.log2 - d.log2 + k)).fst_eq_zero_iff
    rw [div_lt_one (by positivity)] at hzero
    rw [Mag.log2]
    split
    · next h => exact ⟨hlow, by simpa using hzero.mp h⟩
    · next h => exact ⟨not_lt.mp (hzero.not.mp h), hhigh⟩
  | root n k =>
    have h1 := two_zpow_log2_le_natCast_mul (Mag.root_pos hx).ne' k
    have h2 := natCast_mul_lt_two_zpow_log2 n k
    rw [Mag.log2, Mag.real_root, Real.le_sqrt' (by positivity), Real.sqrt_lt' (by positivity), ← zpow_natCast,
      ← zpow_natCast, ← zpow_mul, ← zpow_mul]
    constructor
    · refine le_trans (zpow_le_zpow_right₀ one_le_two ?_) h1
      push_cast; omega
    · refine h2.trans_le (zpow_le_zpow_right₀ one_le_two ?_)
      push_cast; omega

/-! ### `round(v, p, rc)` (R150) -/

/-- Where a value lies between its neighbours `m` and `m + 1`, from twice the value rounded down. -/
inductive Position (y : ℝ) (m : ℕ) : (half exact : Bool) → Prop
  | below : y = m → Position y m false true
  | lower : m < y → y < m + 1 / 2 → Position y m false false
  | middle : y = m + 1 / 2 → Position y m true true
  | upper : m + 1 / 2 < y → y < m + 1 → Position y m true false

theorem IsFloor.position {f : ℕ × Bool} {y : ℝ} (hf : IsFloor f (2 * y)) :
    Position y (f.1 / 2) (f.1 % 2 == 1) f.2 := by
  obtain ⟨n, exact⟩ := f
  obtain ⟨hlo, hhi, he⟩ := hf
  obtain ⟨m, rfl | rfl⟩ := Nat.even_or_odd' n
  · have hhalf : (2 * m % 2 == 1) = false := by simp
    rw [hhalf, Nat.mul_div_cancel_left m two_pos]
    push_cast at hlo hhi he
    cases exact with
    | true => exact .below (by linarith [he.mp rfl])
    | false =>
      have hne : (m : ℝ) ≠ y := fun h => absurd (he.mpr (by rw [h])) Bool.false_ne_true
      exact .lower (lt_of_le_of_ne (by linarith) hne) (by linarith)
  · have hhalf : ((2 * m + 1) % 2 == 1) = true := by simp [Nat.add_mod]
    rw [hhalf, show (2 * m + 1) / 2 = m by omega]
    push_cast at hlo hhi he
    cases exact with
    | true => exact .middle (by linarith [he.mp rfl])
    | false =>
      have hne : (m : ℝ) + 1 / 2 ≠ y := fun h => absurd (he.mpr (by rw [← h]; ring)) Bool.false_ne_true
      exact .upper (lt_of_le_of_ne (by linarith) hne) (by linarith)

section Positions

variable {y : ℝ} {m : ℕ} {half exact : Bool}

theorem Position.floor_eq (h : Position y m half exact) : ⌊y⌋ = m := by
  rw [Int.floor_eq_iff, Int.cast_natCast]
  cases h <;> constructor <;> linarith

theorem Position.nearer_lo_iff (h : Position y m half exact) : y - m < m + 1 - y ↔ half = false := by
  cases h <;> simp <;> linarith

theorem Position.nearer_hi_iff (h : Position y m half exact) :
    m + 1 - y < y - m ↔ half = true ∧ exact = false := by
  cases h <;> simp <;> linarith

theorem Position.tie_iff (h : Position y m half exact) : y - m = m + 1 - y ↔ half = true ∧ exact = true := by
  cases h <;> simp <;> linarith

theorem Position.eq_lo_iff (h : Position y m half exact) : (m : ℝ) = y ↔ half = false ∧ exact = true := by
  cases h <;> simp <;> linarith

/-- The multiple that `roundsUp` selects. -/
def nearMultiple (rc : RC) (neg : Bool) (m : ℕ) (half exact : Bool) : ℕ :=
  if roundsUp rc neg (m % 2 == 1) half exact then m + 1 else m

/-- `roundsUp` selects the multiple that R150 asks for, in the unit 1. -/
theorem Position.isRounded (rc : RC) (neg : Bool) (h : Position y m half exact) :
    IsRounded rc neg y 1 (nearMultiple rc neg m half exact) := by
  have hodd : Odd (m : ℤ) ↔ (m % 2 == 1) = true := by rw [Int.odd_coe_nat, Nat.odd_iff, beq_iff_eq]
  have heven : Even (m : ℤ) ↔ (m % 2 == 1) = false := by
    rw [← Int.not_odd_iff_even, hodd, Bool.not_eq_true]
  simp only [IsRounded, div_one, mul_one, h.floor_eq, Int.cast_natCast, hodd, heven, nearMultiple, h.nearer_lo_iff,
    h.nearer_hi_iff, h.tie_iff, h.eq_lo_iff, ne_eq]
  cases rc with
  | nearest => cases half <;> simp +contextual [roundsUp]
  | down => cases neg <;> cases half <;> simp +contextual [roundsUp]
  | up => cases neg <;> cases half <;> simp [roundsUp]
  | chop => simp [roundsUp]

/-- The value goes up only from above its lower neighbour. -/
theorem Position.lt_of_roundsUp (h : Position y m half exact) {rc : RC} {neg odd : Bool}
    (hup : roundsUp rc neg odd half exact = true) : m < y := by
  cases h with
  | below hy => cases rc <;> simp [roundsUp] at hup
  | lower h1 h2 => exact h1
  | middle hy => linarith
  | upper h1 h2 => linarith

theorem Position.lt_succ (h : Position y m half exact) : y < m + 1 := by
  cases h <;> linarith

theorem Position.le (h : Position y m half exact) : m ≤ y := by
  cases h <;> linarith

theorem Position.lt_nearMultiple_iff (h : Position y m half exact) (rc : RC) (neg : Bool) :
    y < nearMultiple rc neg m half exact ↔ roundsUp rc neg (m % 2 == 1) half exact = true := by
  unfold nearMultiple
  split
  · next hup => simpa [hup] using h.lt_succ
  · next hup => simpa [hup] using h.le

theorem Position.nearMultiple_eq_iff (h : Position y m half exact) (rc : RC) (neg : Bool) :
    (nearMultiple rc neg m half exact : ℝ) = y ↔ half = false ∧ exact = true := by
  unfold nearMultiple
  split
  · next hup =>
    rw [← h.eq_lo_iff]
    push_cast
    exact iff_of_false h.lt_succ.ne' (h.lt_of_roundsUp hup).ne
  · exact h.eq_lo_iff

theorem Position.nearMultiple_lt (h : Position y m half exact) (rc : RC) (neg : Bool) :
    nearMultiple rc neg m half exact < y + 1 := by
  unfold nearMultiple
  split
  · next hup => push_cast; linarith [h.lt_of_roundsUp hup]
  · linarith [h.le]

theorem Position.lt_nearMultiple_add_one (h : Position y m half exact) (rc : RC) (neg : Bool) :
    y < nearMultiple rc neg m half exact + 1 := by
  unfold nearMultiple
  split
  · push_cast; linarith [h.lt_succ]
  · exact h.lt_succ

end Positions

/-- Rounding in the unit `u` is rounding in the unit 1, scaled. -/
theorem IsRounded.mul {rc : RC} {neg : Bool} {y q u : ℝ} (hu : 0 < u) (h : IsRounded rc neg y 1 q) :
    IsRounded rc neg (y * u) u (q * u) := by
  simp only [IsRounded, div_one, mul_one] at h
  simpa only [IsRounded, mul_div_cancel_right₀ _ hu.ne', ← add_one_mul, ← sub_mul, mul_lt_mul_iff_left₀ hu,
    mul_left_inj' hu.ne', ne_eq] using h

section RoundAt

variable {x : Mag} (hx : 0 < x.real) (rc : RC) (neg : Bool) (t : ℤ)

include hx

theorem Mag.position : Position (x.real / 2 ^ t) ((x.floorAt (t - 1)).1 / 2) ((x.floorAt (t - 1)).1 % 2 == 1)
    (x.floorAt (t - 1)).2 := by
  apply IsFloor.position
  have h := Mag.isFloor_floorAt hx (t - 1)
  rwa [zpow_sub_one₀ two_ne_zero, ← div_div, div_inv_eq_mul, mul_comm] at h

theorem isRounded_roundAt : IsRounded rc neg x.real (2 ^ t) (roundAt rc neg x t).real := by
  have hu : (0 : ℝ) < 2 ^ t := by positivity
  have h := ((Mag.position hx t).isRounded rc neg).mul hu
  rwa [div_mul_cancel₀ _ hu.ne'] at h

theorem roundAt_inexact_iff : (roundAt rc neg x t).inexact = true ↔ (roundAt rc neg x t).real ≠ x.real := by
  have hu : (0 : ℝ) < 2 ^ t := by positivity
  have h := (Mag.position hx t).nearMultiple_eq_iff rc neg
  rw [eq_div_iff hu.ne'] at h
  rw [ne_eq, Rounded.real, ← not_iff_not, not_not]
  exact Iff.trans (by simp [roundAt]) h.symm

theorem roundAt_roundup_iff : (roundAt rc neg x t).roundup = true ↔ x.real < (roundAt rc neg x t).real := by
  have hu : (0 : ℝ) < 2 ^ t := by positivity
  have h := (Mag.position hx t).lt_nearMultiple_iff rc neg
  rw [div_lt_iff₀ hu] at h
  exact h.symm

/-- A bound of the value in units is a bound of the rounded value in units. -/
theorem roundAt_q_le {n : ℕ} (h : x.real ≤ n * 2 ^ t) : (roundAt rc neg x t).q ≤ n := by
  have hlt := (Mag.position hx t).nearMultiple_lt rc neg
  have hn : x.real / 2 ^ t ≤ n := by rwa [div_le_iff₀ (by positivity)]
  exact Nat.le_of_lt_succ (by exact_mod_cast hlt.trans_le (add_le_add_left hn 1))

theorem le_roundAt_q {n : ℕ} (h : n * 2 ^ t ≤ x.real) : n ≤ (roundAt rc neg x t).q := by
  have hlt := (Mag.position hx t).lt_nearMultiple_add_one rc neg
  have hn : (n : ℝ) ≤ x.real / 2 ^ t := by rwa [le_div_iff₀ (by positivity)]
  exact Nat.le_of_lt_succ (by exact_mod_cast hn.trans_lt hlt)

/-- A value that is a multiple of the unit is rounded to itself. -/
theorem roundAt_of_eq {n : ℕ} (h : x.real = n * 2 ^ t) : roundAt rc neg x t = ⟨n, t, false, false⟩ := by
  have hq : (roundAt rc neg x t).q = n := le_antisymm (roundAt_q_le hx rc neg t h.le) (le_roundAt_q hx rc neg t h.ge)
  have hreal : (roundAt rc neg x t).real = x.real := by rw [Rounded.real, hq, h]; rfl
  have hi : (roundAt rc neg x t).inexact = false := by
    rw [← Bool.not_eq_true, roundAt_inexact_iff hx, not_not, hreal]
  have hr : (roundAt rc neg x t).roundup = false := by
    rw [← Bool.not_eq_true, roundAt_roundup_iff hx, hreal, not_lt]
  have heta : roundAt rc neg x t =
      ⟨(roundAt rc neg x t).q, t, (roundAt rc neg x t).inexact, (roundAt rc neg x t).roundup⟩ := rfl
  rw [heta, hq, hi, hr]

end RoundAt

section RoundTo

variable {x : Mag} (hx : 0 < x.real) (rc : RC) (neg : Bool) {p : ℕ}

include hx

theorem two_zpow_log2_le : (2 : ℝ) ^ x.log2 ≤ x.real := ((floorLog2_eq_iff hx).mp (Mag.log2_eq hx).symm).1

theorem lt_two_zpow_log2 : x.real < 2 ^ (x.log2 + 1) := ((floorLog2_eq_iff hx).mp (Mag.log2_eq hx).symm).2

theorem roundTo_unit : (2 : ℝ) ^ (roundTo rc neg x p).t = ulpOf x.real p := by
  rw [ulpOf, ← Mag.log2_eq hx]; rfl

theorem roundTo_q_le : (roundTo rc neg x p).q ≤ 2 ^ p := by
  refine roundAt_q_le hx rc neg _ ((lt_two_zpow_log2 hx).le.trans_eq ?_)
  push_cast
  rw [← zpow_natCast, ← zpow_add₀ two_ne_zero]
  congr 1; omega

theorem le_roundTo_q (hp : 0 < p) : 2 ^ (p - 1) ≤ (roundTo rc neg x p).q := by
  refine le_roundAt_q hx rc neg _ (Eq.trans_le ?_ (two_zpow_log2_le hx))
  push_cast
  rw [← zpow_natCast, ← zpow_add₀ two_ne_zero]
  congr 1; omega

theorem roundTo_q_ne_zero (hp : 0 < p) : (roundTo rc neg x p).q ≠ 0 :=
  (Nat.two_pow_pos _).trans_le (le_roundTo_q hx rc neg hp) |>.ne'

end RoundTo

theorem Rounded.log2_eq {r : Rounded} (h : r.q ≠ 0) : r.log2 = floorLog2 r.real := (floorLog2_natCast_mul h r.t).symm

/-- Rounding does not lower the exponent. -/
theorem log2_le_log2_roundTo {x : Mag} (hx : 0 < x.real) (rc : RC) (neg : Bool) {p : ℕ} (hp : 0 < p) :
    x.log2 ≤ (roundTo rc neg x p).log2 := by
  have h : p - 1 ≤ (roundTo rc neg x p).q.log2 :=
    (Nat.le_log2 (roundTo_q_ne_zero hx rc neg hp)).mpr (le_roundTo_q hx rc neg hp)
  have ht : (roundTo rc neg x p).t = x.log2 - p + 1 := rfl
  rw [Rounded.log2, ht]
  omega

/-- Settles O38: the position of the value between its neighbours, found by `floorAt`, decides the rounding. -/
theorem roundingIsR150 : Obligations.RoundingIsR150 := by
  unfold Obligations.RoundingIsR150
  intro rc neg x p _ hx
  refine ⟨?_, roundAt_inexact_iff hx rc neg _, roundAt_roundup_iff hx rc neg _⟩
  rw [← roundTo_unit hx rc neg]
  exact isRounded_roundAt hx rc neg _

end Sys2Proof.Machine
end

section
/-! Images of the extended format (R142) and delivery to a register (R153, R166, R167): the value and the class of an
encoded number, and what `deliver` answers in each range of the exponent. -/

namespace Sys2Proof.Machine

/-! ### The fields, the class and the value of an image (R20, R142) -/

@[simp] theorem extSign_mkExt (s : Bool) (e : BitVec 15) (m : BitVec 64) : extSign (mkExt s e m) = s := by
  simp only [extSign, mkExt, BitVec.getLsbD_append]
  cases s <;> simp

theorem extReal_mkExt (s : Bool) (e : BitVec 15) (m : BitVec 64) :
    extReal (mkExt s e m) =
      signOf s * m.toNat * 2 ^ ((if e.toNat = 0 then 1 else (e.toNat : ℤ)) - 16383 - 63) := by
  simp [extReal, valOf, Val.real]

theorem extReal_mkExt_zero (s : Bool) (m : BitVec 64) :
    extReal (mkExt s 0 m) = signOf s * m.toNat * 2 ^ (-16445 : ℤ) := by
  simp [extReal_mkExt]

theorem classOf_mkExt_zero (s : Bool) {m : BitVec 64} :
    classOf (mkExt s 0 m) = if m = 0 then .zero else .denormal := by
  simp [classOf]

theorem getLsbD_63_iff {m : BitVec 64} : m.getLsbD 63 = true ↔ 2 ^ 63 ≤ m.toNat := by
  rw [← BitVec.msb_eq_getLsbD_last, BitVec.msb_eq_decide, decide_eq_true_iff]

theorem classOf_mkExt_normal (s : Bool) {e : BitVec 15} {m : BitVec 64} (h0 : e.toNat ≠ 0) (he : e.toNat < 0x7FFF)
    (hm : 2 ^ 63 ≤ m.toNat) : classOf (mkExt s e m) = .normal := by
  simp [classOf, h0, he, getLsbD_63_iff.mpr hm]

@[simp] theorem signOf_abs (neg : Bool) : |signOf neg| = 1 := by
  cases neg <;> simp [signOf]

/-- The magnitude of a finite image is that of its value. -/
theorem mag_valOf_real (x : Ext) : (valOf x).mag.real = |extReal x| := by
  simp [Val.mag, Mag.real_ratio, extReal, Val.real, abs_mul]

theorem extSig_ne_zero {x : Ext} (h : classOf x = .normal ∨ classOf x = .denormal) : extSig x ≠ 0 := by
  intro h0
  simp only [classOf, h0] at h
  split at h <;> simp at h

theorem abs_extReal_pos {x : Ext} (h : classOf x = .normal ∨ classOf x = .denormal) : 0 < |extReal x| := by
  have hm : 0 < (extSig x).toNat := Nat.pos_of_ne_zero fun h0 => extSig_ne_zero h (BitVec.eq_of_toNat_eq h0)
  rw [← mag_valOf_real, Val.mag, Mag.real_ratio, valOf]
  positivity

/-! ### Shifts of a significand -/

theorem shiftBy_real {q : ℕ} {j : ℤ} (h : 2 ^ (-j).toNat ∣ q) : (shiftBy q j : ℝ) = q * 2 ^ j := by
  unfold shiftBy
  split
  · obtain ⟨s, rfl⟩ : ∃ s : ℕ, j = s := ⟨j.toNat, by omega⟩
    simp [Nat.shiftLeft_eq]
  · obtain ⟨s, rfl⟩ : ∃ s : ℕ, j = -s := ⟨(-j).toNat, by omega⟩
    rw [neg_neg, Int.toNat_natCast] at h ⊢
    rw [Nat.shiftRight_eq_div_pow, Nat.cast_div h (by positivity)]
    simp [div_eq_mul_inv]

/-- A significand shifted to `c + 1` bits has `c + 1` bits. -/
theorem shiftBy_bounds {q : ℕ} (hq : q ≠ 0) (c : ℕ) :
    2 ^ c ≤ shiftBy q (c - q.log2) ∧ shiftBy q (c - q.log2) < 2 ^ (c + 1) := by
  obtain ⟨h1, h2⟩ := (Nat.log2_eq_iff hq (k := q.log2)).mp rfl
  unfold shiftBy
  split
  · obtain ⟨s, rfl⟩ : ∃ s : ℕ, c = q.log2 + s := ⟨c - q.log2, by omega⟩
    rw [Nat.shiftLeft_eq, show ((q.log2 + s : ℕ) - q.log2 : ℤ).toNat = s by omega, pow_add, pow_succ, pow_add,
      mul_right_comm, ← pow_succ]
    exact ⟨Nat.mul_le_mul_right _ h1, Nat.mul_lt_mul_of_pos_right h2 (by positivity)⟩
  · obtain ⟨s, hs⟩ : ∃ s : ℕ, q.log2 = c + s := ⟨q.log2 - c, by omega⟩
    rw [hs, pow_add] at h1
    rw [hs, add_right_comm, pow_add] at h2
    rw [Nat.shiftRight_eq_div_pow, show (-(c - q.log2 : ℤ)).toNat = s by omega,
      Nat.le_div_iff_mul_le (by positivity), Nat.div_lt_iff_lt_mul (by positivity)]
    exact ⟨h1, h2⟩

/-! ### Encoding a number (R142) -/

/-- `q·2^t` is a number of a format whose significands have `c + 1` bits and whose exponents run from `emin` to
`emax`. -/
structure Representable (c : ℕ) (emin emax : ℤ) (q : ℕ) (t : ℤ) : Prop where
  exponent_le : q ≠ 0 → q.log2 + t ≤ emax
  dvd : q ≠ 0 → emin ≤ q.log2 + t → 2 ^ (q.log2 - c) ∣ q
  le_unit : q ≠ 0 → q.log2 + t < emin → emin - c ≤ t

theorem shiftBy_normal_real {c q : ℕ} (h : 2 ^ (q.log2 - c) ∣ q) :
    (shiftBy q (c - q.log2) : ℝ) = q * 2 ^ (c - q.log2 : ℤ) :=
  shiftBy_real (by rwa [show (-(c - q.log2 : ℤ)).toNat = q.log2 - c by omega])

theorem shiftBy_nonneg_real {q : ℕ} {j : ℤ} (h : 0 ≤ j) : (shiftBy q j : ℝ) = q * 2 ^ j :=
  shiftBy_real (by simp [Int.toNat_of_nonpos (neg_nonpos.mpr h)])

/-- A significand of a tiny number in units of the least denormal is short. -/
theorem shiftBy_lt {q c : ℕ} {j : ℤ} (hj : 0 ≤ j) (h : q.log2 + j < c) : shiftBy q j < 2 ^ c := by
  have hlt := natCast_mul_lt_two_zpow_log2 q j
  rw [← shiftBy_nonneg_real hj] at hlt
  have hc : (2 : ℝ) ^ (q.log2 + j + 1) ≤ 2 ^ (c : ℤ) := zpow_le_zpow_right₀ one_le_two (by omega)
  rw [zpow_natCast] at hc
  exact_mod_cast hlt.trans_le hc

theorem encodeExt_zero (neg : Bool) (t : ℤ) : encodeExt neg 0 t = extZero neg := rfl

theorem encodeExt_normal (neg : Bool) {q : ℕ} {t : ℤ} (hq : q ≠ 0) (h : -16382 ≤ q.log2 + t) :
    encodeExt neg q t =
      mkExt neg (BitVec.ofNat 15 (q.log2 + t + 16383).toNat) (BitVec.ofNat 64 (shiftBy q (63 - q.log2))) := by
  simp only [encodeExt, if_neg hq, if_pos h]

theorem encodeExt_tiny (neg : Bool) {q : ℕ} {t : ℤ} (hq : q ≠ 0) (h : q.log2 + t < -16382) :
    encodeExt neg q t = mkExt neg 0 (BitVec.ofNat 64 (shiftBy q (t + 16445))) := by
  simp only [encodeExt, if_neg hq, if_neg (not_le.mpr h)]

theorem isImage_extZero (neg : Bool) : IsImage (extZero neg) neg 0 := by
  refine ⟨extSign_mkExt .., ?_, fun _ => classOf_mkExt_zero neg, fun h => absurd h (lt_irrefl _), fun h => ?_⟩
  · simp [extZero, extReal_mkExt]
  · exact absurd h (not_le.mpr (by positivity))

theorem isImage_encodeExt_normal {q : ℕ} {t : ℤ} (neg : Bool) (hq : q ≠ 0) (hmin : -16382 ≤ q.log2 + t)
    (hmax : q.log2 + t ≤ 16383) (hd : 2 ^ (q.log2 - 63) ∣ q) : IsImage (encodeExt neg q t) neg (q * 2 ^ t) := by
  have hlo := two_zpow_log2_le_natCast_mul hq t
  obtain ⟨hm1, hm2⟩ := shiftBy_bounds hq 63
  have he : (BitVec.ofNat 15 (q.log2 + t + 16383).toNat).toNat = (q.log2 + t + 16383).toNat :=
    Nat.mod_eq_of_lt (by omega)
  have hm : (BitVec.ofNat 64 (shiftBy q (63 - q.log2))).toNat = shiftBy q (63 - q.log2) := Nat.mod_eq_of_lt hm2
  have hreal : (shiftBy q (63 - q.log2) : ℝ) = q * 2 ^ (63 - q.log2 : ℤ) := shiftBy_normal_real hd
  rw [encodeExt_normal neg hq hmin]
  refine ⟨extSign_mkExt .., ?_, fun h0 => absurd h0 (by positivity), fun _ h1 => ?_, fun _ => ?_⟩
  · rw [extReal_mkExt, he, hm, if_neg (by omega), hreal, mul_assoc, mul_assoc, ← zpow_add₀ two_ne_zero]
    congr 3; omega
  · exact absurd (h1.trans_le (zpow_le_zpow_right₀ one_le_two hmin)) (not_lt.mpr hlo)
  · exact classOf_mkExt_normal neg (by omega) (by omega) (by rwa [hm])

theorem isImage_encodeExt_tiny {q : ℕ} {t : ℤ} (neg : Bool) (hq : q ≠ 0) (hmin : q.log2 + t < -16382)
    (ht : -16445 ≤ t) : IsImage (encodeExt neg q t) neg (q * 2 ^ t) := by
  have hhi := natCast_mul_lt_two_zpow_log2 q t
  have hlt := shiftBy_lt (q := q) (c := 63) (show 0 ≤ t + 16445 by omega) (by omega)
  have hm : (BitVec.ofNat 64 (shiftBy q (t + 16445))).toNat = shiftBy q (t + 16445) := Nat.mod_eq_of_lt (by omega)
  have hreal : (shiftBy q (t + 16445) : ℝ) = q * 2 ^ (t + 16445) := shiftBy_nonneg_real (by omega)
  have hm0 : BitVec.ofNat 64 (shiftBy q (t + 16445)) ≠ 0 := by
    intro h0
    rw [h0] at hm
    have hs : shiftBy q (t + 16445) = 0 := hm.symm
    have hpos : (q : ℝ) * 2 ^ (t + 16445) ≠ 0 := by positivity
    rw [hs, Nat.cast_zero] at hreal
    exact hpos hreal.symm
  rw [encodeExt_tiny neg hq hmin]
  refine ⟨extSign_mkExt .., ?_, fun h0 => absurd h0 (by positivity), fun _ _ => ?_, fun h1 => ?_⟩
  · rw [extReal_mkExt_zero, hm, hreal, mul_assoc, mul_assoc, ← zpow_add₀ two_ne_zero]
    congr 3; omega
  · rw [classOf_mkExt_zero, if_neg hm0]
  · exact absurd (h1.trans_lt hhi) (not_lt.mpr (zpow_le_zpow_right₀ one_le_two (by omega)))

/-- The image of a number of the extended format is that number's. -/
theorem isImage_encodeExt {q : ℕ} {t : ℤ} (neg : Bool) (h : Representable 63 (-16382) 16383 q t) :
    IsImage (encodeExt neg q t) neg (q * 2 ^ t) := by
  obtain ⟨hmax, hd, ht⟩ := h
  rcases eq_or_ne q 0 with rfl | hq
  · simpa [encodeExt_zero] using isImage_extZero neg
  rcases le_or_gt (-16382) (q.log2 + t) with hmin | hmin
  · exact isImage_encodeExt_normal neg hq hmin (hmax hq) (hd hq hmin)
  · exact isImage_encodeExt_tiny neg hq hmin (ht hq hmin)

/-! ### What rounding answers is a number of the format -/

/-- At most `2^(c+1)` is either a significand of `c + 1` bits or a power of two. -/
theorem dvd_of_le_two_pow {q c : ℕ} (h : q ≤ 2 ^ (c + 1)) : 2 ^ (q.log2 - c) ∣ q := by
  rcases h.lt_or_eq with hlt | rfl
  · simp [Nat.sub_eq_zero_of_le (log2_le_of_lt hlt)]
  · rw [Nat.log2_two_pow]
    exact pow_dvd_pow 2 (by omega)

/-- A number of precision at most `c + 1` in the range of the exponents of a format is a number of the format. -/
theorem representable_roundTo {x : Mag} (hx : 0 < x.real) (rc : RC) (neg : Bool) {p c : ℕ} (hp : p ≤ c + 1)
    {emin emax : ℤ} (k : ℤ) (hmin : emin ≤ (roundTo rc neg x p).log2 + k)
    (hmax : (roundTo rc neg x p).log2 + k ≤ emax) :
    Representable c emin emax (roundTo rc neg x p).q ((roundTo rc neg x p).t + k) := by
  rw [Rounded.log2, add_assoc] at hmin hmax
  refine ⟨fun _ => hmax, fun _ _ => dvd_of_le_two_pow ?_, fun _ h => absurd hmin (not_le.mpr h)⟩
  exact (roundTo_q_le hx rc neg).trans (Nat.pow_le_pow_right two_pos hp)

/-- A tiny number rounded to precision `p` at the least exponent of a format is a number of the format. -/
theorem representable_roundAt_tiny {x : Mag} (hx : 0 < x.real) (rc : RC) (neg : Bool) {p c : ℕ} (hp : p ≤ c + 1)
    (hp0 : 0 < p) {emin emax : ℤ} (he : emin ≤ emax) (htiny : x.log2 < emin) :
    Representable c emin emax (roundAt rc neg x (emin - p + 1)).q (emin - p + 1) := by
  have hq : (roundAt rc neg x (emin - p + 1)).q ≤ 2 ^ (p - 1) := by
    refine roundAt_q_le hx rc neg _ ((lt_two_zpow_log2 hx).le.trans ?_)
    push_cast
    rw [← zpow_natCast, ← zpow_add₀ two_ne_zero]
    exact zpow_le_zpow_right₀ one_le_two (by omega)
  have hlog (h0 : (roundAt rc neg x (emin - p + 1)).q ≠ 0) : (roundAt rc neg x (emin - p + 1)).q.log2 ≤ p - 1 := by
    have h2 := Nat.log2_self_le h0
    exact (Nat.pow_le_pow_iff_right one_lt_two).mp (h2.trans hq)
  refine ⟨fun h0 => ?_, fun _ _ => ?_, fun _ _ => by omega⟩
  · have := hlog h0
    omega
  · exact dvd_of_le_two_pow (hq.trans (Nat.pow_le_pow_right two_pos (by omega)))

/-! ### Delivery (R153, R166, R167) -/

/-- A tiny number that is exact at the least exponent is exact at its own. -/
theorem roundTo_of_exact_tiny {x : Mag} (hx : 0 < x.real) (rc : RC) (neg : Bool) {p : ℕ} {emin : ℤ}
    (htiny : x.log2 < emin) (h : (roundAt rc neg x (emin - p + 1)).real = x.real) :
    (roundTo rc neg x p).inexact = false ∧ (roundTo rc neg x p).roundup = false := by
  obtain ⟨s, hs⟩ : ∃ s : ℕ, emin = x.log2 + s := ⟨(emin - x.log2).toNat, by omega⟩
  have ht : (roundAt rc neg x (emin - p + 1)).t = s + (x.log2 - p + 1) := by
    change emin - p + 1 = _
    omega
  have hmul : x.real = ((roundAt rc neg x (emin - p + 1)).q * 2 ^ s : ℕ) * 2 ^ (x.log2 - p + 1) := by
    rw [← h, Rounded.real, ht, zpow_add₀ two_ne_zero]
    push_cast
    rw [mul_assoc, zpow_natCast]
  rw [roundTo, roundAt_of_eq hx rc neg _ hmul]
  exact ⟨rfl, rfl⟩

section Deliver

variable {x : Mag} (hx : 0 < x.real) (rc : RC) (om um neg : Bool) {p : ℕ} (d : ℕ)

theorem deliver_inRange (hmin : -16382 ≤ (roundTo rc neg x p).log2) (hmax : (roundTo rc neg x p).log2 ≤ 16383) :
    deliver rc om um neg x p d =
      ⟨encodeExt neg (roundTo rc neg x p).q (roundTo rc neg x p).t, false, false, (roundTo rc neg x p).inexact,
        (roundTo rc neg x p).roundup⟩ := by
  simp [deliver, deliverRounded, not_lt.mpr hmin, not_lt.mpr hmax]

theorem deliver_overflow (h : 16383 < (roundTo rc neg x p).log2) :
    deliver rc om um neg x p d =
      if om then
        ⟨if overflowToInf rc neg then extInf neg else maxFinite neg p, true, false, true, overflowToInf rc neg⟩
      else
        ⟨adjusted neg (roundTo rc neg x p) (-24576) d, true, false, (roundTo rc neg x p).inexact,
          (roundTo rc neg x p).roundup⟩ := by
  simp only [deliver, deliverRounded, if_pos h]

theorem deliver_tiny (h : (roundTo rc neg x p).log2 < -16382) :
    deliver rc om um neg x p d =
      if um then
        let t := roundAt rc neg x (-16382 - p + 1)
        ⟨encodeExt neg t.q t.t, false, t.inexact, t.inexact || (roundTo rc neg x p).inexact,
          if t.inexact then t.roundup else (roundTo rc neg x p).roundup⟩
      else
        ⟨adjusted neg (roundTo rc neg x p) 24576 d, false, true, (roundTo rc neg x p).inexact,
          (roundTo rc neg x p).roundup⟩ := by
  simp only [deliver, deliverRounded, if_neg (show ¬16383 < (roundTo rc neg x p).log2 by omega), if_pos h]
  cases (roundAt rc neg x (-16382 - p + 1)).inexact <;> rfl

include hx

/-- A result in the range of the format, its exponent moved by `k`. -/
theorem isImage_roundTo (hp : p ≤ 64) (k : ℤ) (hmin : -16382 ≤ (roundTo rc neg x p).log2 + k)
    (hmax : (roundTo rc neg x p).log2 + k ≤ 16383) :
    IsImage (encodeExt neg (roundTo rc neg x p).q ((roundTo rc neg x p).t + k)) neg
      ((roundTo rc neg x p).real * 2 ^ k) := by
  have h := isImage_encodeExt neg (representable_roundTo hx rc neg hp k hmin hmax)
  rwa [zpow_add₀ two_ne_zero, ← mul_assoc] at h

theorem isImage_adjusted (hp : p ≤ 64) (k : ℤ) (hmin : -16382 ≤ (roundTo rc neg x p).log2 + k)
    (hmax : (roundTo rc neg x p).log2 + k ≤ 16383) :
    IsImage (adjusted neg (roundTo rc neg x p) k d) neg ((roundTo rc neg x p).real * 2 ^ k) := by
  rw [adjusted, if_pos ⟨hmin, hmax⟩]
  exact isImage_roundTo hx rc neg hp k hmin hmax

theorem signals_roundTo (oe ue : Bool) (img : Ext) :
    (Delivered.mk img oe ue (roundTo rc neg x p).inexact (roundTo rc neg x p).roundup).Signals (oe = true)
      (ue = true) ((roundTo rc neg x p).real ≠ x.real) (x.real < (roundTo rc neg x p).real) :=
  ⟨Iff.rfl, Iff.rfl, roundAt_inexact_iff hx rc neg _, roundAt_roundup_iff hx rc neg _⟩

/-- A masked tiny result is the value rounded at the least exponent, and its flags are those of that rounding (R167). -/
theorem deliver_tiny_masked (hp0 : 0 < p) (hp : p ≤ 64) (h : (roundTo rc neg x p).log2 < -16382) :
    let den := (roundAt rc neg x (-16382 - p + 1)).real
    (deliver rc om true neg x p d).Signals False (den ≠ x.real) (den ≠ x.real) (x.real < den) ∧
      IsImage (deliver rc om true neg x p d).img neg den := by
  have htiny : x.log2 < -16382 := (log2_le_log2_roundTo hx rc neg hp0).trans_lt h
  have hi := roundAt_inexact_iff hx rc neg (-16382 - p + 1)
  have hr := roundAt_roundup_iff hx rc neg (-16382 - p + 1)
  rw [deliver_tiny rc om true neg d h, if_pos rfl]
  refine ⟨⟨by simp, hi, ?_, ?_⟩, isImage_encodeExt neg (representable_roundAt_tiny hx rc neg hp hp0 (by omega) htiny)⟩
  all_goals
    cases hcase : (roundAt rc neg x (-16382 - p + 1)).inexact with
    | true => simp [← hi, ← hr, hcase]
    | false =>
      have heq : (roundAt rc neg x (-16382 - p + 1)).real = x.real := by simpa [hcase] using hi
      obtain ⟨hpe, hc1⟩ := roundTo_of_exact_tiny hx rc neg htiny heq
      simp [hcase, heq, hpe, hc1]

end Deliver

/-- Settles O39: the value is rounded once to `p` bits, and the exponent of the rounded value selects the response. -/
theorem deliveryIsR153 : Obligations.DeliveryIsR153 := by
  unfold Obligations.DeliveryIsR153
  intro rc om um neg x p d hp hx
  have hp0 : 0 < p := by omega
  have hp64 : p ≤ 64 := by omega
  have he := Rounded.log2_eq (roundTo_q_ne_zero hx rc neg hp0)
  have hround := isRounded_roundAt hx rc neg (x.log2 - p + 1)
  refine ⟨(roundTo rc neg x p).real, roundTo_unit hx rc neg (p := p) ▸ hround, ?_⟩
  rw [← he]
  refine ⟨?_, ?_, ?_, ?_, ?_⟩
  · rintro hov rfl
    rw [deliver_overflow rc true um neg d hov]
    exact ⟨⟨by simp, by simp, by simp, Iff.rfl⟩, rfl⟩
  · rintro hov rfl
    rw [deliver_overflow rc false um neg d hov]
    refine ⟨?_, fun hmax => isImage_adjusted hx rc neg d hp64 _ (by omega) hmax⟩
    simpa using signals_roundTo hx rc neg true false _
  · rintro htiny rfl
    exact ⟨_, isRounded_roundAt hx rc neg _, deliver_tiny_masked hx rc om neg d hp0 hp64 htiny⟩
  · rintro htiny rfl
    rw [deliver_tiny rc om false neg d htiny]
    refine ⟨?_, fun hmin => isImage_adjusted hx rc neg d hp64 _ hmin (by omega)⟩
    simpa using signals_roundTo hx rc neg false true _
  · intro hmin hmax
    rw [deliver_inRange rc om um neg d hmin hmax]
    refine ⟨by simpa using signals_roundTo hx rc neg false false _, ?_⟩
    simpa using isImage_roundTo hx rc neg hp64 0 (by simpa using hmin) (by simpa using hmax)

end Sys2Proof.Machine
end

section
/-! The memory real formats (R143, R180): the fields of a packed image, and widening to the extended format. -/

namespace Sys2Proof.Machine

/-! ### The fields of a memory real (R92, R143) -/

/-- The proportions that the single and the double format share. -/
structure Fmt.Binary (f : Fmt) : Prop where
  fracBits_pos : 0 < f.fracBits
  fracBits_lt : f.fracBits < 63
  two_pow_expBits : 2 ^ f.expBits = 2 * f.bias + 2
  bias_pos : 0 < f.bias
  bias_le : f.bias + f.fracBits ≤ 16382

theorem Fmt.binary_of_real {f : Fmt} (h : f = single ∨ f = double) : f.Binary := by
  rcases h with rfl | rfl <;> constructor <;> decide

section Fields

variable {f : Fmt} {neg : Bool} {e frac : ℕ}

theorem Fmt.pack_eq (f : Fmt) (neg : Bool) (e frac : ℕ) :
    f.pack neg e frac = frac + 2 ^ f.fracBits * (e + 2 ^ f.expBits * neg.toNat) := by
  cases neg <;> simp [Fmt.pack, Nat.shiftLeft_eq, pow_add] <;> ring

variable (he : e < 2 ^ f.expBits) (hf : frac < 2 ^ f.fracBits)

include hf

theorem Fmt.frac_pack : f.frac (f.pack neg e frac) = frac := by
  rw [Fmt.frac, Fmt.pack_eq, Nat.add_mul_mod_self_left, Nat.mod_eq_of_lt hf]

theorem Fmt.pack_div : f.pack neg e frac / 2 ^ f.fracBits = e + 2 ^ f.expBits * neg.toNat := by
  rw [Fmt.pack_eq, Nat.add_mul_div_left _ _ (by positivity), Nat.div_eq_of_lt hf, zero_add]

include he

theorem Fmt.exp_pack : f.exp (f.pack neg e frac) = e := by
  rw [Fmt.exp, Nat.shiftRight_eq_div_pow, Fmt.pack_div hf, Nat.add_mul_mod_self_left, Nat.mod_eq_of_lt he]

theorem Fmt.sign_pack : f.sign (f.pack neg e frac) = neg := by
  rw [Fmt.sign, Nat.testBit_eq_decide_div_mod_eq, pow_add, ← Nat.div_div_eq_div_mul, Fmt.pack_div hf,
    Nat.add_mul_div_left _ _ (by positivity), Nat.div_eq_of_lt he]
  cases neg <;> rfl

theorem Fmt.pack_lt : f.pack neg e frac < 2 ^ (1 + f.expBits + f.fracBits) := by
  rw [pow_add]
  refine Nat.lt_mul_of_div_lt ?_ (by positivity)
  rw [Fmt.pack_div hf, add_comm 1, pow_succ]
  have := Nat.mul_le_mul_left (2 ^ f.expBits) neg.toNat_le
  omega

theorem Fmt.memClass_pack : f.memClass (f.pack neg e frac) =
    if e = 0 then (if frac = 0 then .zero else .denormal)
    else if e < f.maxExp then .normal
    else if frac = 0 then .infinity
    else if frac.testBit (f.fracBits - 1) then .qnan
    else .snan := by
  simp only [Fmt.memClass, Fmt.exp_pack he hf, Fmt.frac_pack hf]

theorem Fmt.abs_real_pack : |f.real (f.pack neg e frac)| =
    if e = 0 then (frac : ℝ) * 2 ^ (1 - (f.bias : ℤ) - f.fracBits)
    else (2 ^ f.fracBits + frac : ℝ) * 2 ^ ((e : ℤ) - f.bias - f.fracBits) := by
  rw [Fmt.real, abs_mul, signOf_abs, one_mul, Fmt.exp_pack he hf, Fmt.frac_pack hf, abs_of_nonneg]
  split <;> positivity

end Fields

/-! ### Widening (R180) -/

/-- A NaN is signaling or quiet by bit 62 of its significand (R142). -/
theorem classOf_mkExt_nan (s : Bool) {m : ℕ} (hm : m < 2 ^ 63) (h0 : m ≠ 0) :
    classOf (mkExt s 0x7FFF (BitVec.ofNat 64 (2 ^ 63 + m))) = if m.testBit 62 then .qnan else .snan := by
  have hsig : (BitVec.ofNat 64 (2 ^ 63 + m)).toNat = 2 ^ 63 + m := Nat.mod_eq_of_lt (by omega)
  have h63 : (BitVec.ofNat 64 (2 ^ 63 + m)).getLsbD 63 = true := getLsbD_63_iff.mpr (by omega)
  have h62 : (BitVec.ofNat 64 (2 ^ 63 + m)).getLsbD 62 = m.testBit 62 := by
    rw [BitVec.getLsbD, hsig, Nat.testBit_two_pow_add_gt (by omega)]
  have hlow : (BitVec.ofNat 64 (2 ^ 63 + m)).extractLsb' 0 63 ≠ 0 := by
    intro h
    have := congrArg BitVec.toNat h
    rw [BitVec.extractLsb'_toNat, hsig] at this
    simp at this
    omega
  simp only [classOf, extExp_mkExt, extSig_mkExt, h63, h62, if_neg hlow]
  simp

theorem Fmt.frac_lt (f : Fmt) (v : ℕ) : f.frac v < 2 ^ f.fracBits := Nat.mod_lt _ (by positivity)

/-- A nonzero number of a memory format is a Normal of the extended format. -/
theorem encodeExt_of_memory {f : Fmt} (hf : f.Binary) (neg : Bool) {q : ℕ} {t : ℤ} (hq0 : q ≠ 0)
    (hq : q < 2 ^ (f.fracBits + 1)) (hmin : 1 - (f.bias : ℤ) - f.fracBits ≤ t) (hmax : t ≤ f.bias - f.fracBits) :
    classOf (encodeExt neg q t) = .normal ∧ extSign (encodeExt neg q t) = neg ∧
      extReal (encodeExt neg q t) = signOf neg * (q * 2 ^ t) := by
  obtain ⟨-, hfrac, -, -, hbias⟩ := hf
  have hlog := log2_le_of_lt hq
  have hrep : Representable 63 (-16382) 16383 q t :=
    ⟨fun _ => by omega, fun _ _ => by simp [show q.log2 - 63 = 0 by omega], fun _ _ => by omega⟩
  have hlo := two_zpow_log2_le_natCast_mul hq0 t
  obtain ⟨hsign, hreal, -, -, hnormal⟩ := isImage_encodeExt neg hrep
  exact ⟨hnormal ((zpow_le_zpow_right₀ one_le_two (by omega)).trans hlo), hsign, hreal⟩

section Widen

variable {f : Fmt} {v : ℕ}

theorem Fmt.fields_of_denormal (h : f.memClass v = .denormal) : f.exp v = 0 ∧ f.frac v ≠ 0 := by
  grind [Fmt.memClass]

theorem Fmt.fields_of_normal (h : f.memClass v = .normal) : f.exp v ≠ 0 ∧ f.exp v < f.maxExp := by
  grind [Fmt.memClass]

theorem Fmt.fields_of_nan (h : f.memClass v = .qnan ∨ f.memClass v = .snan) :
    f.frac v ≠ 0 ∧ f.memClass v = if (f.frac v).testBit (f.fracBits - 1) then .qnan else .snan := by
  grind [Fmt.memClass]

theorem Fmt.widen_denormal (hf : f.Binary) (h : f.memClass v = .denormal) :
    classOf (f.widen v) = .normal ∧ extSign (f.widen v) = f.sign v ∧ extReal (f.widen v) = f.real v := by
  obtain ⟨he, h0⟩ := Fmt.fields_of_denormal h
  have hq : f.frac v < 2 ^ (f.fracBits + 1) := (f.frac_lt v).trans (Nat.pow_lt_pow_succ one_lt_two)
  rw [show f.widen v = encodeExt (f.sign v) (f.frac v) (1 - f.bias - f.fracBits) by rw [Fmt.widen, h], Fmt.real,
    if_pos he]
  exact encodeExt_of_memory hf _ h0 hq le_rfl (by have := hf.bias_pos; omega)

theorem Fmt.widen_normal (hf : f.Binary) (h : f.memClass v = .normal) :
    classOf (f.widen v) = .normal ∧ extSign (f.widen v) = f.sign v ∧ extReal (f.widen v) = f.real v := by
  obtain ⟨he, hmax⟩ := Fmt.fields_of_normal h
  have hq : 2 ^ f.fracBits + f.frac v < 2 ^ (f.fracBits + 1) := by
    have := f.frac_lt v
    rw [pow_succ]; omega
  rw [Fmt.maxExp, hf.two_pow_expBits] at hmax
  rw [show f.widen v = encodeExt (f.sign v) (2 ^ f.fracBits + f.frac v) (f.exp v - f.bias - f.fracBits) by
    rw [Fmt.widen, h], Fmt.real, if_neg he]
  have h := encodeExt_of_memory hf (f.sign v) (by positivity) hq (t := f.exp v - f.bias - f.fracBits) (by omega)
    (by omega)
  rwa [Nat.cast_add, Nat.cast_pow, Nat.cast_ofNat] at h

theorem Fmt.widen_nan (hf : f.Binary) (h : f.memClass v = .qnan ∨ f.memClass v = .snan) :
    classOf (f.widen v) = f.memClass v ∧ extSign (f.widen v) = f.sign v ∧
      (extSig (f.widen v)).toNat = 2 ^ 63 + f.frac v * 2 ^ (63 - f.fracBits) := by
  obtain ⟨h0, hcls⟩ := Fmt.fields_of_nan h
  have hfrac := hf.fracBits_lt
  have hpos := hf.fracBits_pos
  have hm : f.frac v <<< (63 - f.fracBits) < 2 ^ 63 := by
    rw [Nat.shiftLeft_eq]
    calc f.frac v * 2 ^ (63 - f.fracBits) < 2 ^ f.fracBits * 2 ^ (63 - f.fracBits) :=
          Nat.mul_lt_mul_of_pos_right (f.frac_lt v) (by positivity)
      _ = 2 ^ 63 := by rw [← pow_add]; congr 1; omega
  have hm0 : f.frac v <<< (63 - f.fracBits) ≠ 0 := by
    rw [Nat.shiftLeft_eq]; positivity
  have hbit : (f.frac v <<< (63 - f.fracBits)).testBit 62 = (f.frac v).testBit (f.fracBits - 1) := by
    rw [Nat.testBit_shiftLeft, show 62 - (63 - f.fracBits) = f.fracBits - 1 by omega]
    simp; omega
  have hwiden : f.widen v = mkExt (f.sign v) 0x7FFF (BitVec.ofNat 64 (2 ^ 63 + f.frac v <<< (63 - f.fracBits))) := by
    rcases h with h | h <;> rw [Fmt.widen, h]
  rw [hwiden, classOf_mkExt_nan _ hm hm0, hbit, extSign_mkExt, extSig_mkExt, ← Nat.shiftLeft_eq]
  exact ⟨hcls.symm, rfl, Nat.mod_eq_of_lt (by omega)⟩

end Widen

/-- Settles O30: each class widens by its own rule, and a number keeps its fraction and exponent. -/
theorem wideningIsExact : Obligations.WideningIsExact := by
  unfold Obligations.WideningIsExact
  intro f v hreal _
  have hf := Fmt.binary_of_real hreal
  refine ⟨fun h => by rw [Fmt.widen, h], fun h => by rw [Fmt.widen, h], ?_, Fmt.widen_nan hf⟩
  rintro (h | h)
  · exact Fmt.widen_denormal hf h
  · exact Fmt.widen_normal hf h

end Sys2Proof.Machine
end

section
/-! Storing a register to a memory real (R183, R166, R167): the image of a number of the format, the response in each
range of the exponent, and the NaNs. -/

namespace Sys2Proof.Machine

/-! ### Encoding a number (R143) -/

/-- `v` is an image of the format with the sign `neg` and the magnitude `y`. -/
structure Fmt.Holds (f : Fmt) (v : ℕ) (neg : Bool) (y : ℝ) : Prop where
  lt : v < 2 ^ (1 + f.expBits + f.fracBits)
  sign_eq : f.sign v = neg
  abs_real : |f.real v| = y

section Encode

theorem Fmt.holds_pack_zero (f : Fmt) (neg : Bool) {frac : ℕ} (h : frac < 2 ^ f.fracBits) :
    f.Holds (f.pack neg 0 frac) neg (frac * 2 ^ (1 - (f.bias : ℤ) - f.fracBits)) :=
  ⟨Fmt.pack_lt (by positivity) h, Fmt.sign_pack (by positivity) h,
    by rw [Fmt.abs_real_pack (by positivity) h, if_pos rfl]⟩

theorem Fmt.holds_pack_normal (f : Fmt) (neg : Bool) {e frac : ℕ} (h0 : e ≠ 0) (he : e < f.maxExp)
    (h : frac < 2 ^ f.fracBits) :
    f.Holds (f.pack neg e frac) neg ((2 ^ f.fracBits + frac : ℝ) * 2 ^ ((e : ℤ) - f.bias - f.fracBits)) ∧
      f.memClass (f.pack neg e frac) = .normal := by
  have he' : e < 2 ^ f.expBits := he.trans_le (Nat.sub_le _ _)
  refine ⟨⟨Fmt.pack_lt he' h, Fmt.sign_pack he' h, ?_⟩, ?_⟩
  · rw [Fmt.abs_real_pack he' h, if_neg h0]
  · rw [Fmt.memClass_pack he' h, if_neg h0, if_pos he]

variable {f : Fmt} {q : ℕ} {t : ℤ} (neg : Bool)

theorem Fmt.encode_tiny (hq : q ≠ 0) (hmin : q.log2 + t < 1 - (f.bias : ℤ))
    (ht : 1 - (f.bias : ℤ) - f.fracBits ≤ t) : f.Holds (f.encode neg q t) neg (q * 2 ^ t) := by
  have hj : 0 ≤ t - (1 - (f.bias : ℤ) - f.fracBits) := by omega
  have hencode : f.encode neg q t = f.pack neg 0 (shiftBy q (t - (1 - (f.bias : ℤ) - f.fracBits))) := by
    simp only [Fmt.encode, if_neg hq, if_neg (not_le.mpr hmin)]
  rw [hencode]
  convert Fmt.holds_pack_zero f neg (shiftBy_lt (q := q) hj (by omega)) using 1
  rw [shiftBy_nonneg_real hj, mul_assoc, ← zpow_add₀ two_ne_zero]
  congr 2; omega

variable (hf : f.Binary)

include hf

theorem Fmt.Binary.maxExp_eq : f.maxExp = 2 * f.bias + 1 := by
  rw [Fmt.maxExp, hf.two_pow_expBits]; rfl

theorem Fmt.encode_normal (hq : q ≠ 0) (hmin : 1 - (f.bias : ℤ) ≤ q.log2 + t) (hmax : q.log2 + t ≤ f.bias)
    (hd : 2 ^ (q.log2 - f.fracBits) ∣ q) :
    f.Holds (f.encode neg q t) neg (q * 2 ^ t) ∧ f.memClass (f.encode neg q t) = .normal := by
  obtain ⟨hm1, hm2⟩ := shiftBy_bounds hq f.fracBits
  have hencode : f.encode neg q t =
      f.pack neg (q.log2 + t + f.bias).toNat (shiftBy q (f.fracBits - q.log2) - 2 ^ f.fracBits) := by
    simp only [Fmt.encode, if_neg hq, if_pos hmin]
  have hmax' := hf.maxExp_eq
  obtain ⟨hholds, hcls⟩ := Fmt.holds_pack_normal f neg (e := (q.log2 + t + f.bias).toNat)
    (frac := shiftBy q (f.fracBits - q.log2) - 2 ^ f.fracBits) (by omega) (by omega) (by rw [pow_succ] at hm2; omega)
  rw [hencode]
  refine ⟨?_, hcls⟩
  convert hholds using 1
  rw [Nat.cast_sub hm1, Nat.cast_pow, Nat.cast_ofNat, add_sub_cancel, shiftBy_normal_real hd, mul_assoc,
    ← zpow_add₀ two_ne_zero]
  congr 2; omega

/-- The image of a number of the format is that number's. -/
theorem Fmt.holds_encode (h : Representable f.fracBits (1 - f.bias) f.bias q t) :
    f.Holds (f.encode neg q t) neg (q * 2 ^ t) := by
  obtain ⟨hmax, hd, ht⟩ := h
  rcases eq_or_ne q 0 with rfl | hq
  · simpa [Fmt.encode] using Fmt.holds_pack_zero f neg (frac := 0) (by positivity)
  rcases le_or_gt (1 - (f.bias : ℤ)) (q.log2 + t) with hmin | hmin
  · exact (Fmt.encode_normal neg hf hq hmin (hmax hq) (hd hq hmin)).1
  · exact Fmt.encode_tiny neg hq hmin (ht hq hmin)

end Encode

/-! ### The store of a number (R183) -/

section NarrowValue

variable {f : Fmt} {x : Ext} {rc : RC} {im om um : Bool}

/-- The value that `narrow` rounds, rounded to the precision of the format. -/
def Fmt.rounded (f : Fmt) (rc : RC) (x : Ext) : Rounded := roundTo rc (extSign x) (valOf x).mag (f.fracBits + 1)

/-- The value that `narrow` rounds, rounded in the unit of the format's denormals. -/
def Fmt.roundedTiny (f : Fmt) (rc : RC) (x : Ext) : Rounded :=
  roundAt rc (extSign x) (valOf x).mag (1 - (f.bias : ℤ) - f.fracBits)

/-- The image that a masked overflow stores (R166). -/
def Fmt.overflowImage (f : Fmt) (rc : RC) (neg : Bool) : ℕ :=
  if overflowToInf rc neg then f.pack neg f.maxExp 0 else f.pack neg (f.maxExp - 1) (2 ^ f.fracBits - 1)

theorem Fmt.narrow_overflow (h : classOf x = .normal ∨ classOf x = .denormal)
    (ho : (f.bias : ℤ) < (f.rounded rc x).log2) :
    f.narrow rc im om um x =
      if om then ⟨some (f.overflowImage rc (extSign x)), false, true, false, true, overflowToInf rc (extSign x)⟩
      else ⟨none, false, true, false, false, false⟩ := by
  rcases h with h | h <;> simp only [Fmt.narrow, h] <;> exact if_pos ho

theorem Fmt.narrow_tiny (h : classOf x = .normal ∨ classOf x = .denormal)
    (hu : (f.rounded rc x).log2 < 1 - (f.bias : ℤ)) :
    f.narrow rc im om um x =
      if um then ⟨some (f.encode (extSign x) (f.roundedTiny rc x).q (f.roundedTiny rc x).t), false, false,
        (f.roundedTiny rc x).inexact, (f.roundedTiny rc x).inexact, (f.roundedTiny rc x).roundup⟩
      else ⟨none, false, false, true, false, false⟩ := by
  rcases h with h | h <;> simp only [Fmt.narrow, h] <;>
    exact (if_neg (show ¬(f.bias : ℤ) < (f.rounded rc x).log2 by omega)).trans (if_pos hu)

theorem Fmt.narrow_inRange (h : classOf x = .normal ∨ classOf x = .denormal)
    (hmin : 1 - (f.bias : ℤ) ≤ (f.rounded rc x).log2) (hmax : (f.rounded rc x).log2 ≤ f.bias) :
    f.narrow rc im om um x =
      ⟨some (f.encode (extSign x) (f.rounded rc x).q (f.rounded rc x).t), false, false, false,
        (f.rounded rc x).inexact, (f.rounded rc x).roundup⟩ := by
  rcases h with h | h <;> simp only [Fmt.narrow, h] <;>
    exact (if_neg (not_lt.mpr hmax)).trans (if_neg (not_lt.mpr hmin))

/-- A masked overflow stores an infinity or the largest number, as RC says (R166). -/
theorem Fmt.overflowImage_spec (hf : f.Binary) (rc : RC) (neg : Bool) :
    f.overflowImage rc neg < 2 ^ (1 + f.expBits + f.fracBits) ∧ f.sign (f.overflowImage rc neg) = neg ∧
    (overflowToInf rc neg = true → f.memClass (f.overflowImage rc neg) = .infinity) ∧
    (overflowToInf rc neg = false → f.memClass (f.overflowImage rc neg) = .normal ∧
      |f.real (f.overflowImage rc neg)| = (2 ^ (f.fracBits + 1) - 1) * 2 ^ ((f.bias : ℤ) - f.fracBits)) := by
  have hmax := hf.maxExp_eq
  have hbias := hf.bias_pos
  unfold Fmt.overflowImage
  cases overflowToInf rc neg with
  | true =>
    have he : f.maxExp < 2 ^ f.expBits := Nat.sub_lt (by positivity) one_pos
    have h0 : 0 < 2 ^ f.fracBits := by positivity
    refine ⟨Fmt.pack_lt he h0, Fmt.sign_pack he h0, fun _ => ?_, nofun⟩
    rw [if_pos rfl, Fmt.memClass_pack he h0, if_neg (by omega), if_neg (lt_irrefl _), if_pos rfl]
  | false =>
    obtain ⟨⟨hlt, hsign, hreal⟩, hcls⟩ := Fmt.holds_pack_normal f neg (e := f.maxExp - 1) (frac := 2 ^ f.fracBits - 1)
      (by omega) (by omega) (Nat.sub_lt (by positivity) one_pos)
    refine ⟨hlt, hsign, nofun, fun _ => ⟨hcls, hreal.trans ?_⟩⟩
    rw [show f.maxExp - 1 = 2 * f.bias by omega, Nat.cast_sub Nat.one_le_two_pow, pow_succ]
    push_cast
    congr 1
    · ring
    · congr 1; ring

section Numbers

variable (rc) (hf : f.Binary) (h : classOf x = .normal ∨ classOf x = .denormal)

include h

theorem mag_valOf_pos : 0 < (valOf x).mag.real := mag_valOf_real x ▸ abs_extReal_pos h

theorem Fmt.rounded_log2 (f : Fmt) : (f.rounded rc x).log2 = floorLog2 (f.rounded rc x).real :=
  Rounded.log2_eq (roundTo_q_ne_zero (mag_valOf_pos h) rc _ (Nat.succ_pos _))

theorem Fmt.isRounded_rounded (f : Fmt) :
    IsRounded rc (extSign x) |extReal x| (ulpOf |extReal x| (f.fracBits + 1)) (f.rounded rc x).real := by
  have hx := mag_valOf_pos h
  rw [← mag_valOf_real, ← roundTo_unit hx rc (extSign x)]
  exact isRounded_roundAt hx rc _ _

include hf

/-- A number in the range of the format is stored rounded. -/
theorem Fmt.holds_rounded (hmin : 1 - (f.bias : ℤ) ≤ (f.rounded rc x).log2) (hmax : (f.rounded rc x).log2 ≤ f.bias) :
    f.Holds (f.encode (extSign x) (f.rounded rc x).q (f.rounded rc x).t) (extSign x) (f.rounded rc x).real ∧
      f.memClass (f.encode (extSign x) (f.rounded rc x).q (f.rounded rc x).t) = .normal :=
  have hx := mag_valOf_pos h
  Fmt.encode_normal _ hf (roundTo_q_ne_zero hx rc _ (Nat.succ_pos _)) hmin hmax
    (dvd_of_le_two_pow (roundTo_q_le hx rc _))

/-- A tiny number is stored as a multiple of the least denormal. -/
theorem Fmt.holds_roundedTiny (hu : (f.rounded rc x).log2 < 1 - (f.bias : ℤ)) :
    f.Holds (f.encode (extSign x) (f.roundedTiny rc x).q (f.roundedTiny rc x).t) (extSign x)
      (f.roundedTiny rc x).real := by
  have hx := mag_valOf_pos h
  have hunit : 1 - (f.bias : ℤ) - (f.fracBits + 1 : ℕ) + 1 = 1 - f.bias - f.fracBits := by push_cast; ring
  have hrep := representable_roundAt_tiny hx rc (extSign x) (p := f.fracBits + 1) le_rfl (Nat.succ_pos _)
    (emin := 1 - f.bias) (emax := f.bias) (by have := hf.bias_pos; omega)
    ((log2_le_log2_roundTo hx rc (extSign x) (Nat.succ_pos _)).trans_lt hu)
  rw [hunit] at hrep
  exact Fmt.holds_encode _ hf hrep

/-- What a store writes for a number is an image of the format. -/
theorem Fmt.narrow_lt_of_number {v : ℕ} (hv : (f.narrow rc im om um x).bits = some v) :
    v < 2 ^ (1 + f.expBits + f.fracBits) := by
  rcases lt_or_ge (f.bias : ℤ) (f.rounded rc x).log2 with ho | hmax
  · rw [Fmt.narrow_overflow h ho] at hv
    cases om with
    | false => exact absurd hv nofun
    | true => exact Option.some.inj hv ▸ (Fmt.overflowImage_spec hf rc _).1
  rcases lt_or_ge (f.rounded rc x).log2 (1 - (f.bias : ℤ)) with hu | hmin
  · rw [Fmt.narrow_tiny h hu] at hv
    cases um with
    | false => exact absurd hv nofun
    | true => exact Option.some.inj hv ▸ (Fmt.holds_roundedTiny rc hf h hu).lt
  · rw [Fmt.narrow_inRange h hmin hmax] at hv
    exact Option.some.inj hv ▸ (Fmt.holds_rounded rc hf h hmin hmax).1.lt

end Numbers

end NarrowValue

/-! ### The store of a NaN (R163, R183) -/

section Nan

variable {f : Fmt} (hf : f.Binary) (x : Ext)

/-- The top bits of the fraction of a register image. -/
def Fmt.topFraction (f : Fmt) (x : Ext) : ℕ := (extSig x).toNat % 2 ^ 63 / 2 ^ (63 - f.fracBits)

include hf

theorem Fmt.topFraction_lt : f.topFraction x < 2 ^ f.fracBits := by
  have := hf.fracBits_lt
  rw [Fmt.topFraction, Nat.div_lt_iff_lt_mul (by positivity), ← pow_add,
    show f.fracBits + (63 - f.fracBits) = 63 by omega]
  exact Nat.mod_lt _ (by positivity)

theorem Fmt.topFraction_testBit : (f.topFraction x).testBit (f.fracBits - 1) = (extSig x).getLsbD 62 := by
  have hlt := hf.fracBits_lt
  have hpos := hf.fracBits_pos
  rw [Fmt.topFraction, ← Nat.shiftRight_eq_div_pow, Nat.testBit_shiftRight, Nat.testBit_mod_two_pow,
    show 63 - f.fracBits + (f.fracBits - 1) = 62 by omega]
  simp [BitVec.getLsbD]

/-- The quiet bit of the format is set already, or is added. -/
theorem Fmt.quiet_topFraction : f.topFraction x ||| 2 ^ (f.fracBits - 1) =
    f.topFraction x + if (extSig x).getLsbD 62 then 0 else 2 ^ (f.fracBits - 1) := by
  rw [← Fmt.topFraction_testBit hf x]
  split
  · next hbit =>
    refine Nat.eq_of_testBit_eq fun i => ?_
    rw [Nat.testBit_or, Nat.testBit_two_pow, add_zero]
    rcases eq_or_ne (f.fracBits - 1) i with rfl | hi
    · simp [hbit]
    · simp [hi]
  · next hbit =>
    have hlt : f.topFraction x < 2 ^ (f.fracBits - 1) := by
      have hdiv : f.topFraction x / 2 ^ (f.fracBits - 1) < 2 := by
        refine Nat.div_lt_of_lt_mul ((Fmt.topFraction_lt hf x).trans_eq ?_)
        rw [← pow_succ, Nat.sub_add_cancel hf.fracBits_pos]
      rw [Nat.testBit_eq_decide_div_mod_eq, decide_eq_true_iff] at hbit
      rw [← Nat.div_eq_zero_iff_lt (by positivity)]
      generalize f.topFraction x / 2 ^ (f.fracBits - 1) = a at hdiv hbit
      omega
    rw [Nat.or_comm, add_comm]
    simpa using (Nat.two_pow_add_eq_or_of_lt hlt 1).symm

theorem Fmt.quiet_topFraction_lt : f.topFraction x ||| 2 ^ (f.fracBits - 1) < 2 ^ f.fracBits :=
  Nat.or_lt_two_pow (Fmt.topFraction_lt hf x)
    (Nat.pow_lt_pow_right one_lt_two (Nat.sub_lt hf.fracBits_pos one_pos))

end Nan

theorem quietBit_of_qnan {x : Ext} (h : classOf x = .qnan) : (extSig x).getLsbD 62 = true := by
  grind [classOf]

theorem quietBit_of_snan {x : Ext} (h : classOf x = .snan) : (extSig x).getLsbD 62 = false := by
  grind [classOf]

/-- The classes that do not round: exact, or invalid (R146, R162, R183). -/
theorem Fmt.narrow_special (f : Fmt) (rc : RC) (im om um : Bool) (x : Ext) :
    (classOf x = .zero → f.narrow rc im om um x = storedExact (f.pack (extSign x) 0 0)) ∧
    (classOf x = .infinity → f.narrow rc im om um x = storedExact (f.pack (extSign x) f.maxExp 0)) ∧
    (classOf x = .qnan → f.narrow rc im om um x =
      storedExact (f.pack (extSign x) f.maxExp (f.topFraction x ||| 2 ^ (f.fracBits - 1)))) ∧
    (classOf x = .snan → f.narrow rc im om um x =
      storedInvalid im (f.pack (extSign x) f.maxExp (f.topFraction x ||| 2 ^ (f.fracBits - 1)))) ∧
    (classOf x = .unsupported → f.narrow rc im om um x = storedInvalid im f.indefinite) := by
  refine ⟨fun h => ?_, fun h => ?_, fun h => ?_, fun h => ?_, fun h => ?_⟩ <;>
    simp only [Fmt.narrow, h, Fmt.topFraction, Nat.shiftRight_eq_div_pow]

/-- Whatever a store writes is an image of the format. -/
theorem Fmt.narrow_lt {f : Fmt} (hf : f.Binary) {rc : RC} {im om um : Bool} {x : Ext} {v : ℕ}
    (hv : (f.narrow rc im om um x).bits = some v) : v < 2 ^ (1 + f.expBits + f.fracBits) := by
  obtain ⟨hzero, hinf, hqnan, hsnan, hunsupported⟩ := f.narrow_special rc im om um x
  have hmax : f.maxExp < 2 ^ f.expBits := Nat.sub_lt (by positivity) one_pos
  have hpos : 0 < 2 ^ f.fracBits := by positivity
  have hquiet := Fmt.pack_lt (neg := extSign x) hmax (Fmt.quiet_topFraction_lt hf x)
  cases h : classOf x with
  | zero => exact Option.some.inj (hzero h ▸ hv) ▸ Fmt.pack_lt (by positivity) hpos
  | denormal => exact Fmt.narrow_lt_of_number rc hf (.inr h) hv
  | normal => exact Fmt.narrow_lt_of_number rc hf (.inl h) hv
  | infinity => exact Option.some.inj (hinf h ▸ hv) ▸ Fmt.pack_lt hmax hpos
  | qnan => exact Option.some.inj (hqnan h ▸ hv) ▸ hquiet
  | snan =>
    rw [hsnan h] at hv
    cases im with
    | false => exact absurd hv nofun
    | true => exact Option.some.inj hv ▸ hquiet
  | unsupported =>
    rw [hunsupported h] at hv
    cases im with
    | false => exact absurd hv nofun
    | true =>
      exact Option.some.inj hv ▸ Fmt.pack_lt hmax (Nat.pow_lt_pow_right one_lt_two (Nat.sub_lt hf.fracBits_pos one_pos))

theorem Fmt.pack_eq_add (f : Fmt) (neg : Bool) (e frac : ℕ) :
    f.pack neg e frac = (if neg then 2 ^ (f.expBits + f.fracBits) else 0) + e * 2 ^ f.fracBits + frac := by
  cases neg <;> simp [Fmt.pack, Nat.shiftLeft_eq, add_comm f.fracBits]

theorem Fmt.indefinite_eq {f : Fmt} (hf : f.Binary) :
    f.indefinite = 2 ^ (1 + f.expBits + f.fracBits) - 2 ^ (f.fracBits - 1) := by
  have hhalf : 2 ^ f.fracBits = 2 * 2 ^ (f.fracBits - 1) := by
    rw [← pow_succ', Nat.sub_add_cancel hf.fracBits_pos]
  have hall : 2 ^ (1 + f.expBits + f.fracBits) = 2 * 2 ^ (f.expBits + f.fracBits) := by rw [← pow_succ']; congr 1; omega
  have hle : 2 ^ f.fracBits ≤ 2 ^ (f.expBits + f.fracBits) := Nat.pow_le_pow_right two_pos (Nat.le_add_left _ _)
  rw [Fmt.indefinite, Fmt.pack_eq_add, if_pos rfl, Fmt.maxExp, Nat.sub_mul, one_mul, ← pow_add, hall]
  omega

section NumberStored

variable {f : Fmt} (hf : f.Binary) {x : Ext} (h : classOf x = .normal ∨ classOf x = .denormal) (rc : RC)
  (im om um : Bool)

include hf h

theorem Fmt.narrow_overflow_spec (ho : (f.bias : ℤ) < (f.rounded rc x).log2) :
    let c := f.narrow rc im om um x
    let neg := extSign x
    c.ie = false ∧ c.oe = true ∧ c.ue = false ∧ (om = false → c.bits = none) ∧
    (om = true → c.pe = true ∧ c.c1 = overflowToInf rc neg ∧ ∃ v, c.bits = some v ∧ f.sign v = neg ∧
      (overflowToInf rc neg = true → f.memClass v = .infinity) ∧
      (overflowToInf rc neg = false → f.memClass v = .normal ∧
        |f.real v| = (2 ^ (f.fracBits + 1) - 1) * 2 ^ ((f.bias : ℤ) - f.fracBits))) := by
  rw [Fmt.narrow_overflow h ho]
  obtain ⟨-, hspec⟩ := Fmt.overflowImage_spec hf rc (extSign x)
  cases om with
  | false => exact ⟨rfl, rfl, rfl, fun _ => rfl, nofun⟩
  | true => exact ⟨rfl, rfl, rfl, nofun, fun _ => ⟨rfl, rfl, _, rfl, hspec⟩⟩

theorem Fmt.narrow_tiny_spec (hu : (f.rounded rc x).log2 < 1 - (f.bias : ℤ)) :
    let c := f.narrow rc im om um x
    let den := (f.roundedTiny rc x).real
    c.ie = false ∧ c.oe = false ∧ (um = false → c.ue = true ∧ c.bits = none) ∧
    (um = true → (c.ue = true ↔ den ≠ |extReal x|) ∧ (c.pe = true ↔ den ≠ |extReal x|) ∧
      (c.c1 = true ↔ |extReal x| < den) ∧ ∃ v, c.bits = some v ∧ f.sign v = extSign x ∧ |f.real v| = den) := by
  have hx := mag_valOf_pos h
  have hi := roundAt_inexact_iff hx rc (extSign x) (1 - (f.bias : ℤ) - f.fracBits)
  have hr := roundAt_roundup_iff hx rc (extSign x) (1 - (f.bias : ℤ) - f.fracBits)
  rw [mag_valOf_real] at hi hr
  obtain ⟨-, hsign, hreal⟩ := Fmt.holds_roundedTiny rc hf h hu
  rw [Fmt.narrow_tiny h hu]
  cases um with
  | false => exact ⟨rfl, rfl, fun _ => ⟨rfl, rfl⟩, nofun⟩
  | true => exact ⟨rfl, rfl, nofun, fun _ => ⟨hi, hi, hr, _, rfl, hsign, hreal⟩⟩

theorem Fmt.narrow_inRange_spec (hmin : 1 - (f.bias : ℤ) ≤ (f.rounded rc x).log2)
    (hmax : (f.rounded rc x).log2 ≤ f.bias) :
    let c := f.narrow rc im om um x
    let mag := (f.rounded rc x).real
    c.ie = false ∧ c.oe = false ∧ c.ue = false ∧ (c.pe = true ↔ mag ≠ |extReal x|) ∧
    (c.c1 = true ↔ |extReal x| < mag) ∧
    ∃ v, c.bits = some v ∧ f.sign v = extSign x ∧ f.memClass v = .normal ∧ |f.real v| = mag := by
  have hx := mag_valOf_pos h
  obtain ⟨⟨-, hsign, hreal⟩, hcls⟩ := Fmt.holds_rounded rc hf h hmin hmax
  rw [Fmt.narrow_inRange h hmin hmax, ← mag_valOf_real]
  exact ⟨rfl, rfl, rfl, roundAt_inexact_iff hx rc _ _, roundAt_roundup_iff hx rc _ _, _, rfl, hsign, hcls, hreal⟩

end NumberStored

/-- Settles O31: a number is rounded once and its exponent selects the response; the other classes do not round. -/
theorem narrowingRounds : Obligations.NarrowingRounds := by
  unfold Obligations.NarrowingRounds
  intro f rc im om um x hreal
  have hf := Fmt.binary_of_real hreal
  obtain ⟨hzero, hinf, hqnan, hsnan, hunsupported⟩ := f.narrow_special rc im om um x
  refine ⟨fun v => Fmt.narrow_lt hf, fun h => ?_, fun h => ?_, fun h => ?_, fun h => ?_, fun h => ?_, fun h => ?_⟩
  · have hover := Fmt.narrow_overflow_spec hf h rc im om um
    have htiny := Fmt.narrow_tiny_spec hf h rc im om um
    have hrange := Fmt.narrow_inRange_spec hf h rc im om um
    have hden := isRounded_roundAt (mag_valOf_pos h) rc (extSign x) (1 - (f.bias : ℤ) - f.fracBits)
    rw [mag_valOf_real] at hden
    refine ⟨?_, _, Fmt.isRounded_rounded rc h f, ?_⟩
    · rcases lt_or_ge (f.bias : ℤ) (f.rounded rc x).log2 with ho | hmax
      · exact (hover ho).1
      rcases lt_or_ge (f.rounded rc x).log2 (1 - (f.bias : ℤ)) with hu | hmin
      · exact (htiny hu).1
      · exact (hrange hmin hmax).1
    rw [← Fmt.rounded_log2 rc h]
    refine ⟨fun ho => (hover ho).2, fun hu => ?_, fun hmin hmax => (hrange hmin hmax).2⟩
    obtain ⟨-, hoe, hunmasked, hmasked⟩ := htiny hu
    exact ⟨hoe, hunmasked, fun hum => ⟨_, hden, hmasked hum⟩⟩
  · rw [hzero h, Fmt.pack_eq_add, zero_mul]; rfl
  · rw [hinf h, Fmt.pack_eq_add]; rfl
  · rw [hqnan h, Fmt.pack_eq_add, Fmt.quiet_topFraction hf, quietBit_of_qnan h]; rfl
  · rw [hsnan h, Fmt.pack_eq_add, Fmt.quiet_topFraction hf, quietBit_of_snan h, add_comm (f.topFraction x), ← add_assoc]
    rfl
  · rw [hunsupported h, Fmt.indefinite_eq hf]; rfl

end Sys2Proof.Machine
end

section
/-! Integers and packed decimals (R90, R91, R181, R182, R184, R185): a register rounded to an integer, two's complement,
and decimal digits. -/

namespace Sys2Proof.Machine

/-! ### A register rounded to an integer -/

/-- The integer to which a register is rounded (R150, R184, R185). -/
def extRounded (rc : RC) (x : Ext) : Rounded := roundAt rc (extSign x) (valOf x).mag 0

theorem extRounded_real (rc : RC) (x : Ext) : (extRounded rc x).real = (extRounded rc x).q := by
  rw [Rounded.real, show (extRounded rc x).t = 0 from rfl, zpow_zero, mul_one]

section Numbers

variable {x : Ext} (h : classOf x = .normal ∨ classOf x = .denormal) (rc : RC)

include h

theorem isRounded_extRounded : IsRounded rc (extSign x) |extReal x| 1 (extRounded rc x).q := by
  have hr := isRounded_roundAt (mag_valOf_pos h) rc (extSign x) 0
  rwa [mag_valOf_real, zpow_zero, ← extRounded, extRounded_real] at hr

theorem extRounded_inexact_iff : (extRounded rc x).inexact = true ↔ ((extRounded rc x).q : ℝ) ≠ |extReal x| := by
  rw [← extRounded_real, ← mag_valOf_real]
  exact roundAt_inexact_iff (mag_valOf_pos h) rc _ 0

theorem extRounded_roundup_iff : (extRounded rc x).roundup = true ↔ |extReal x| < (extRounded rc x).q := by
  rw [← extRounded_real, ← mag_valOf_real]
  exact roundAt_roundup_iff (mag_valOf_pos h) rc _ 0

theorem bcdOfExt_number (im : Bool) : bcdOfExt rc im x =
    if (extRounded rc x).q < 10 ^ 18 then
      ⟨some (packBcd (extSign x) (extRounded rc x).q), false, false, false, (extRounded rc x).inexact,
        (extRounded rc x).roundup⟩
    else storedInvalid im bcdIndefinite := by
  rcases h with h | h <;> simp only [bcdOfExt, h] <;> rfl

end Numbers

/-- An image of an integer is rounded to that integer, whatever RC is. -/
theorem extRounded_of_isImage {x : Ext} {neg : Bool} {n : ℕ} (h : IsImage x neg n) (hn : n ≠ 0) (rc : RC) :
    classOf x = .normal ∧ extRounded rc x = ⟨n, 0, false, false⟩ := by
  obtain ⟨-, hreal, -, -, hnormal⟩ := h
  have hcls : classOf x = .normal := by
    refine hnormal ((zpow_le_one_of_nonpos₀ one_le_two (by norm_num)).trans ?_)
    exact_mod_cast Nat.one_le_iff_ne_zero.mpr hn
  refine ⟨hcls, roundAt_of_eq (mag_valOf_pos (.inl hcls)) rc _ 0 ?_⟩
  rw [mag_valOf_real, hreal, abs_mul, signOf_abs, one_mul, Nat.abs_cast, zpow_zero, mul_one]

/-- An integer of at most 64 bits is loaded exactly. -/
theorem isImage_encodeExt_nat (neg : Bool) {n : ℕ} (hn : n < 2 ^ 64) : IsImage (encodeExt neg n 0) neg n := by
  have hlog := log2_le_of_lt hn
  have h := isImage_encodeExt neg (q := n) (t := 0)
    ⟨fun _ => by omega, fun _ _ => by simp [Nat.sub_eq_zero_of_le hlog], fun _ _ => by omega⟩
  rwa [zpow_zero, mul_one] at h

/-! ### Two's complement (R90, R141) -/

section TwosComplement

variable {bits : ℕ} (hbits : 0 < bits)

/-- Whether an integer of sign `neg` and magnitude `q` is in the range of two's complement. -/
def fitsIn (bits : ℕ) (neg : Bool) (q : ℕ) : Prop := q < 2 ^ (bits - 1) ∨ (neg ∧ q = 2 ^ (bits - 1))

/-- The two's complement of an integer of sign `neg` and magnitude `q`. -/
def twosComplement (bits : ℕ) (neg : Bool) (q : ℕ) : ℕ := if neg then (2 ^ bits - q) % 2 ^ bits else q

theorem fitsIn_iff {neg : Bool} {q : ℕ} :
    fitsIn bits neg q ↔ -(2 ^ (bits - 1)) ≤ (if neg then -(q : ℤ) else q) ∧
      (if neg then -(q : ℤ) else q) ≤ 2 ^ (bits - 1) - 1 := by
  have hcast : (2 : ℤ) ^ (bits - 1) = (2 ^ (bits - 1) : ℕ) := by push_cast; rfl
  have hpos : 0 < 2 ^ (bits - 1) := by positivity
  rw [fitsIn, hcast]
  generalize 2 ^ (bits - 1) = P at hpos
  cases neg with
  | false => simp
  | true => simp; omega

include hbits

theorem two_pow_bits : 2 ^ bits = 2 * 2 ^ (bits - 1) := by rw [← pow_succ', Nat.sub_add_cancel hbits]

theorem twosComplement_spec {neg : Bool} {q : ℕ} (h : fitsIn bits neg q) :
    twosComplement bits neg q < 2 ^ bits ∧ intOf bits (twosComplement bits neg q) = if neg then -(q : ℤ) else q := by
  have hcast : (2 : ℤ) ^ bits = (2 ^ bits : ℕ) := by push_cast; rfl
  have hpos : 0 < 2 ^ (bits - 1) := by positivity
  rw [fitsIn] at h
  rw [intOf, hcast, twosComplement]
  have hpow := two_pow_bits hbits
  generalize 2 ^ (bits - 1) = P at *
  rw [hpow]
  rcases eq_or_ne q 0 with rfl | hq
  · cases neg <;> simp [hpos]
  cases neg with
  | false =>
    have hlt : q < P := by simpa using h
    simp [hlt]; omega
  | true =>
    have hmod : (2 * P - q) % (2 * P) = 2 * P - q := Nat.mod_eq_of_lt (by omega)
    have hle : q ≤ P := by rcases h with h | h <;> omega
    simp only [if_true, hmod, if_neg (show ¬2 * P - q < P by omega)]
    omega

theorem twosComplement_intOf {v : ℕ} (hv : v < 2 ^ bits) :
    fitsIn bits (decide (intOf bits v < 0)) (intOf bits v).natAbs ∧
      twosComplement bits (decide (intOf bits v < 0)) (intOf bits v).natAbs = v := by
  have hcast : (2 : ℤ) ^ bits = (2 ^ bits : ℕ) := by push_cast; rfl
  have hpow := two_pow_bits hbits
  rw [fitsIn, intOf, hcast, twosComplement]
  generalize 2 ^ (bits - 1) = P at *
  rw [hpow] at hv ⊢
  split
  · next hlt => simp [hlt]
  · next hge =>
    have hneg : (v : ℤ) - (2 * P : ℕ) < 0 := by omega
    have hmod : (2 * P - ((v : ℤ) - (2 * P : ℕ)).natAbs) % (2 * P) = v := by rw [Nat.mod_eq_of_lt] <;> omega
    simp only [hneg, decide_true, if_true, hmod, true_and, and_true]
    omega

end TwosComplement

/-! ### Decimal digits (R91) -/

theorem toBcd_lt (n q : ℕ) : toBcd n q < 16 ^ n := by
  induction n generalizing q with
  | zero => simp [toBcd]
  | succ n ih =>
    have := ih (q / 10)
    rw [toBcd, pow_succ]
    omega

/-- The digits of a number are read back, whatever stands above them. -/
theorem bcdDigits_toBcd_add (n c : ℕ) {q : ℕ} (hq : q < 10 ^ n) : bcdDigits n (toBcd n q + 16 ^ n * c) = (q, true) := by
  induction n generalizing q with
  | zero =>
    rw [pow_zero, Nat.lt_one_iff] at hq
    rw [bcdDigits, hq]
  | succ n ih =>
    have hdiv : (toBcd (n + 1) q + 16 ^ (n + 1) * c) / 16 = toBcd n (q / 10) + 16 ^ n * c := by
      rw [toBcd, pow_succ', mul_assoc]; omega
    have hmod : (toBcd (n + 1) q + 16 ^ (n + 1) * c) % 16 = q % 10 := by
      rw [toBcd, pow_succ', mul_assoc]; omega
    rw [bcdDigits, hdiv, hmod, ih (by rw [pow_succ] at hq; omega)]
    simp
    omega

/-- Decimal digits are written back as they were read. -/
theorem toBcd_of_bcdDigits {n v q : ℕ} (h : bcdDigits n v = (q, true)) : q < 10 ^ n ∧ toBcd n q = v % 16 ^ n := by
  induction n generalizing v q with
  | zero =>
    simp [bcdDigits] at h
    simp [toBcd, ← h, Nat.mod_one]
  | succ n ih =>
    obtain ⟨r, ok, hr⟩ : ∃ r ok, bcdDigits n (v / 16) = (r, ok) := ⟨_, _, rfl⟩
    simp only [bcdDigits, hr, Prod.mk.injEq, Bool.and_eq_true, decide_eq_true_iff] at h
    obtain ⟨rfl, hdigit, rfl⟩ := h
    obtain ⟨hlt, hdigits⟩ := ih hr
    have hdiv : (v % 16 + 10 * r) / 10 = r := by omega
    have hmod : (v % 16 + 10 * r) % 10 = v % 16 := by omega
    rw [toBcd, hdiv, hmod, hdigits, pow_succ, pow_succ', Nat.mod_mul]
    exact ⟨by omega, rfl⟩

/-- A packed decimal image as its eighteen digits and the byte above them. -/
theorem packBcd_eq (neg : Bool) (q : ℕ) : packBcd neg q = toBcd 18 q + 16 ^ 18 * if neg then 2 ^ 7 else 0 := by
  cases neg <;> simp [packBcd, add_comm]

/-! ### The conversions -/

theorem intOfExt_of_fits {x : Ext} (h : classOf x = .normal ∨ classOf x = .denormal) (rc : RC) {bits : ℕ}
    (im : Bool) (hfits : fitsIn bits (extSign x) (extRounded rc x).q) :
    intOfExt bits rc im x = ⟨some (twosComplement bits (extSign x) (extRounded rc x).q), false, false, false,
      (extRounded rc x).inexact, (extRounded rc x).roundup⟩ := by
  rcases h with h | h <;> simp only [intOfExt, h] <;> exact if_pos hfits

theorem intOfExt_of_not_fits {x : Ext} (h : classOf x = .normal ∨ classOf x = .denormal) (rc : RC) {bits : ℕ}
    (im : Bool) (hfits : ¬fitsIn bits (extSign x) (extRounded rc x).q) :
    intOfExt bits rc im x = storedInvalid im (intIndefinite bits) := by
  rcases h with h | h <;> simp only [intOfExt, h] <;> exact if_neg hfits

theorem intOfExt_of_zero {x : Ext} {rc : RC} {bits : ℕ} {im : Bool} (h : classOf x = .zero) :
    intOfExt bits rc im x = storedExact 0 := by
  simp only [intOfExt, h]

theorem bcdOfExt_of_zero {x : Ext} {rc : RC} {im : Bool} (h : classOf x = .zero) :
    bcdOfExt rc im x = storedExact (packBcd (extSign x) 0) := by
  simp only [bcdOfExt, h]

theorem intOfExt_of_noNumber {x : Ext} (rc : RC) (bits : ℕ) (im : Bool)
    (h : classOf x = .infinity ∨ classOf x = .qnan ∨ classOf x = .snan ∨ classOf x = .unsupported) :
    intOfExt bits rc im x = storedInvalid im (intIndefinite bits) := by
  rcases h with h | h | h | h <;> simp only [intOfExt, h]

theorem bcdOfExt_of_noNumber {x : Ext} (rc : RC) (im : Bool)
    (h : classOf x = .infinity ∨ classOf x = .qnan ∨ classOf x = .snan ∨ classOf x = .unsupported) :
    bcdOfExt rc im x = storedInvalid im bcdIndefinite := by
  rcases h with h | h | h | h <;> simp only [bcdOfExt, h]

/-- Settles O33: the rounded integer is in range exactly if it has a two's complement. -/
theorem integerConversion : Obligations.IntegerConversion := by
  unfold Obligations.IntegerConversion
  intro bits rc im x hbits
  have hpos : 0 < bits := by omega
  refine ⟨fun h => intOfExt_of_zero h, intOfExt_of_noNumber rc bits im, fun h => ?_⟩
  refine ⟨_, isRounded_extRounded h rc, fun hrange => ?_, fun hrange => ?_⟩
  · have hfits := fitsIn_iff.mpr hrange
    obtain ⟨hlt, hint⟩ := twosComplement_spec hpos hfits
    rw [intOfExt_of_fits h rc im hfits]
    exact ⟨rfl, rfl, rfl, extRounded_inexact_iff h rc, extRounded_roundup_iff h rc, _, rfl, hlt, hint⟩
  · refine intOfExt_of_not_fits h rc im fun hfits => ?_
    obtain ⟨hlo, hhi⟩ := fitsIn_iff.mp hfits
    rcases hrange with hrange | hrange
    · exact absurd hlo (not_le.mpr hrange)
    · exact absurd hhi (not_le.mpr hrange)

theorem packBcd_lt (neg : Bool) (q : ℕ) : packBcd neg q < 2 ^ 80 := by
  have := toBcd_lt 18 q
  rw [packBcd_eq]
  split <;> omega

theorem packBcd_sign (neg : Bool) (q : ℕ) : (packBcd neg q).testBit 79 = neg := by
  have := toBcd_lt 18 q
  rw [packBcd_eq, Nat.testBit_eq_decide_div_mod_eq]
  cases neg <;> simp <;> omega

theorem packBcd_gap (neg : Bool) (q : ℕ) : packBcd neg q / 2 ^ 72 % 2 ^ 7 = 0 := by
  have := toBcd_lt 18 q
  rw [packBcd_eq]
  split <;> omega

theorem packBcd_digits (neg : Bool) {q : ℕ} (hq : q < 10 ^ 18) : bcdDigits 18 (packBcd neg q) = (q, true) := by
  rw [packBcd_eq]
  exact bcdDigits_toBcd_add 18 _ hq

/-- Settles O34: the digits of the rounded integer are read back from the stored image. -/
theorem bcdConversion : Obligations.BcdConversion := by
  unfold Obligations.BcdConversion
  intro rc im x
  refine ⟨fun h => ?_, bcdOfExt_of_noNumber rc im, fun h => ?_⟩
  · rw [bcdOfExt_of_zero h]
    cases extSign x <;> rfl
  refine ⟨_, isRounded_extRounded h rc, fun hrange => ?_, fun hrange => ?_⟩
  · have hq : (extRounded rc x).q < 10 ^ 18 := by omega
    rw [bcdOfExt_number h, if_pos hq]
    exact ⟨rfl, rfl, rfl, extRounded_inexact_iff h rc, extRounded_roundup_iff h rc, _, rfl, packBcd_lt _ _,
      packBcd_sign _ _, packBcd_gap _ _, packBcd_digits _ hq⟩
  · rw [bcdOfExt_number h, if_neg (by omega)]
    rfl

/-! ### Loading and storing back -/

theorem isImage_extOfInt {n : ℤ} (hn : n.natAbs < 2 ^ 64) : IsImage (extOfInt n) (decide (n < 0)) n.natAbs :=
  isImage_encodeExt_nat _ hn

theorem natAbs_intOf_lt {bits v : ℕ} (hbits : 0 < bits) (hbits' : bits ≤ 64) (hv : v < 2 ^ bits) :
    (intOf bits v).natAbs < 2 ^ 64 := by
  have hle : 2 ^ (bits - 1) ≤ 2 ^ 63 := Nat.pow_le_pow_right two_pos (by omega)
  rcases (twosComplement_intOf hbits hv).1 with h | ⟨-, h⟩ <;> omega

/-- An integer is stored back as it was loaded. -/
theorem intOfExt_extOfInt {bits v : ℕ} (hbits : 0 < bits) (hbits' : bits ≤ 64) (hv : v < 2 ^ bits) (rc : RC)
    (im : Bool) : intOfExt bits rc im (extOfInt (intOf bits v)) = storedExact v := by
  obtain ⟨hfits, hback⟩ := twosComplement_intOf hbits hv
  have himg := isImage_extOfInt (natAbs_intOf_lt hbits hbits' hv)
  have ⟨hsign, _, hzero, _, _⟩ := himg
  rcases eq_or_ne (intOf bits v) 0 with h0 | h0
  · have hv0 : v = 0 := by rw [h0] at hback; exact hback.symm
    rw [intOfExt_of_zero (hzero (by simp [h0])), hv0]
  · obtain ⟨hcls, hr⟩ := extRounded_of_isImage himg (Int.natAbs_ne_zero.mpr h0) rc
    rw [intOfExt_of_fits (.inl hcls) rc im (by rwa [hr, hsign]), hr, hsign, hback]
    rfl

theorem packBcd_of_bcdDigits {v n : ℕ} (h : bcdDigits 18 v = (n, true)) (hv : v < 2 ^ 80)
    (hgap : v / 2 ^ 72 % 2 ^ 7 = 0) : packBcd (v.testBit 79) n = v := by
  rw [packBcd_eq, (toBcd_of_bcdDigits h).2, Nat.testBit_eq_decide_div_mod_eq]
  split
  · next hbit => rw [decide_eq_true_iff] at hbit; omega
  · next hbit => rw [decide_eq_true_iff] at hbit; omega

/-- A decimal is stored back as it was loaded. -/
theorem bcdOfExt_encodeExt {n : ℕ} (hn : n < 10 ^ 18) (neg : Bool) (rc : RC) (im : Bool) :
    bcdOfExt rc im (encodeExt neg n 0) = storedExact (packBcd neg n) := by
  have himg := isImage_encodeExt_nat neg (show n < 2 ^ 64 by omega)
  have ⟨hsign, _, hzero, _, _⟩ := himg
  rcases eq_or_ne n 0 with rfl | h0
  · rw [bcdOfExt_of_zero (hzero Nat.cast_zero), hsign]
  · obtain ⟨hcls, hr⟩ := extRounded_of_isImage himg h0 rc
    rw [bcdOfExt_number (.inl hcls), hr, if_pos hn, hsign]
    rfl

/-- Settles O32: an image of an integer is rounded to that integer, whose stored form is the loaded one. -/
theorem integerFormatsRoundTrip : Obligations.IntegerFormatsRoundTrip := by
  unfold Obligations.IntegerFormatsRoundTrip
  refine ⟨fun bits v rc im hbits hv => ⟨?_, intOfExt_extOfInt (by omega) (by omega) hv rc im⟩, fun v n rc im h => ?_⟩
  · have himg := isImage_extOfInt (natAbs_intOf_lt (bits := bits) (by omega) (by omega) hv)
    rwa [Nat.cast_natAbs, Int.cast_abs] at himg
  · obtain ⟨hn, -⟩ := toBcd_of_bcdDigits h
    refine ⟨_, by rw [extOfBcd, h]; rfl, isImage_encodeExt_nat _ (by omega), fun hv hgap => ?_⟩
    rw [bcdOfExt_encodeExt hn, packBcd_of_bcdDigits h hv hgap]
    rfl

end Sys2Proof.Machine
end

section
/-! The order of two operands (R190) and the NaN they give (R163). -/

namespace Sys2Proof.Machine

/-! ### The order of values (R190) -/

/-- A value as an integer in a smaller unit. -/
theorem Val.scaled_real (v : Val) {k : ℤ} (hk : k ≤ v.k) : (v.scaled k : ℝ) * 2 ^ k = v.real := by
  obtain ⟨s, hs⟩ : ∃ s : ℕ, v.k = k + s := ⟨(v.k - k).toNat, by omega⟩
  have hshift : v.m <<< (v.k - k).toNat = v.m * 2 ^ s := by
    rw [hs, add_sub_cancel_left, Int.toNat_natCast, Nat.shiftLeft_eq]
  rw [Val.real, hs, zpow_add₀ two_ne_zero, zpow_natCast, signOf, Val.scaled, hshift]
  cases v.neg <;> simp <;> ring

theorem Val.scaled_lt_iff {v w : Val} {k : ℤ} (hv : k ≤ v.k) (hw : k ≤ w.k) :
    v.scaled k < w.scaled k ↔ v.real < w.real := by
  rw [← v.scaled_real hv, ← w.scaled_real hw, mul_lt_mul_iff_left₀ (by positivity), Int.cast_lt]

/-- Two values compare as the real numbers they stand for. -/
theorem compareVal_eq (v w : Val) :
    (v.real < w.real → compareVal v w = .lt) ∧ (w.real < v.real → compareVal v w = .gt) ∧
      (v.real = w.real → compareVal v w = .eq) := by
  have hlt := Val.scaled_lt_iff (min_le_left v.k w.k) (min_le_right v.k w.k)
  have hgt := Val.scaled_lt_iff (min_le_right v.k w.k) (min_le_left v.k w.k)
  refine ⟨fun h => compare_lt_iff_lt.mpr (hlt.mpr h), fun h => compare_gt_iff_gt.mpr (hgt.mpr h), fun h => ?_⟩
  exact compare_eq_iff_eq.mpr
    (le_antisymm (not_lt.mp (hgt.not.mpr h.le.not_gt)) (not_lt.mp (hlt.not.mpr h.ge.not_gt)))

/-- An operand that no comparison orders: a NaN, or of no supported class. -/
theorem Opnd.ordinary_eq (a : Opnd) : a.ordinary = !(a.isNan || a.cls == .unsupported) := by
  unfold Opnd.ordinary Opnd.finite Opnd.isNan
  cases a.cls <;> rfl

theorem Opnd.finite_iff (a : Opnd) : a.finite = true ↔ a.ordinary = true ∧ a.cls ≠ .infinity := by
  unfold Opnd.ordinary Opnd.finite
  cases a.cls <;> simp

theorem Opnd.ordinary_of_infinity {a : Opnd} (h : a.cls = .infinity) : a.ordinary = true := by
  simp [Opnd.ordinary, h]

/-- `compare(a, b)` once the operands without an order are set apart. -/
theorem compareOpnd_eq (a b : Opnd) : compareOpnd a b =
    if a.ordinary = false ∨ b.ordinary = false then .unordered
    else if a.cls = .infinity then
      if b.cls = .infinity ∧ extSign a.img = extSign b.img then .equal else if extSign a.img then .less else .greater
    else if b.cls = .infinity then (if extSign b.img then .greater else .less)
    else orderOf (compareVal (valOf a.img) (valOf b.img)) := by
  have hcond : (a.isNan || b.isNan || a.cls == .unsupported || b.cls == .unsupported) = true ↔
      a.ordinary = false ∨ b.ordinary = false := by
    rw [Opnd.ordinary_eq, Opnd.ordinary_eq]
    cases a.isNan <;> cases b.isNan <;> simp
  simp only [compareOpnd, hcond, beq_iff_eq, Bool.and_eq_true]

theorem compareOpnd_of_ordinary {a b : Opnd} (ha : a.ordinary = true) (hb : b.ordinary = true) : compareOpnd a b =
    if a.cls = .infinity then
      if b.cls = .infinity ∧ extSign a.img = extSign b.img then .equal else if extSign a.img then .less else .greater
    else if b.cls = .infinity then (if extSign b.img then .greater else .less)
    else orderOf (compareVal (valOf a.img) (valOf b.img)) := by
  rw [compareOpnd_eq, if_neg (by simp [ha, hb])]

/-- Settles O35: infinities by their signs, numbers as the integers of a common unit. -/
theorem orderOfValues : Obligations.OrderOfValues := by
  unfold Obligations.OrderOfValues
  intro a b
  simp only [Opnd.finite_iff]
  refine ⟨fun h => by rw [compareOpnd_eq, if_pos h], ?_, ?_, ?_, ?_⟩
  · rintro ⟨ha, ha'⟩ ⟨hb, hb'⟩
    rw [compareOpnd_of_ordinary ha hb, if_neg ha', if_neg hb']
    obtain ⟨hlt, hgt, heq⟩ := compareVal_eq (valOf a.img) (valOf b.img)
    exact ⟨fun h => by rw [hgt h]; rfl, fun h => by rw [hlt h]; rfl, fun h => by rw [heq h]; rfl⟩
  · rintro ha ⟨hb, hb'⟩
    rw [compareOpnd_of_ordinary (Opnd.ordinary_of_infinity ha) hb, if_pos ha, if_neg (fun h => hb' h.1)]
  · rintro ⟨ha, ha'⟩ hb
    rw [compareOpnd_of_ordinary ha (Opnd.ordinary_of_infinity hb), if_neg ha', if_pos hb]
  · intro ha hb
    rw [compareOpnd_of_ordinary (Opnd.ordinary_of_infinity ha) (Opnd.ordinary_of_infinity hb), if_pos ha]
    simp only [hb, true_and]

/-! ### The NaN of two operands (R163) -/

section NanChoice

variable {a b : Opnd}

theorem nanResult_of_left (ha : a.isNan = true) (hb : b.isNan = false) : nanResult a b = quiet a.img := by
  simp [nanResult, ha, hb]

theorem nanResult_of_right (ha : a.isNan = false) (hb : b.isNan = true) : nanResult a b = quiet b.img := by
  simp [nanResult, ha, hb]

theorem nanResult_of_neither (ha : a.isNan = false) (hb : b.isNan = false) : nanResult a b = indefinite := by
  simp [nanResult, ha, hb]

theorem nanResult_of_quiet_signaling (ha : a.cls = .qnan) (hb : b.cls = .snan) : nanResult a b = a.img := by
  simp [nanResult, Opnd.isNan, ha, hb]

theorem nanResult_of_signaling_quiet (ha : a.cls = .snan) (hb : b.cls = .qnan) : nanResult a b = b.img := by
  simp [nanResult, Opnd.isNan, ha, hb]

theorem nanResult_of_same_kind (ha : a.isNan = true) (hb : a.cls = b.cls) :
    nanResult a b = quiet (largerNan a.img b.img) := by
  have hcls : a.cls = .qnan ∨ a.cls = .snan := by simpa [Opnd.isNan] using ha
  rcases hcls with h | h <;> simp [nanResult, Opnd.isNan, ← hb, h]

end NanChoice

theorem largerNan_of_lt {a b : Ext} (h : (extSig b).toNat < (extSig a).toNat) : largerNan a b = a := if_pos h

theorem largerNan_of_gt {a b : Ext} (h : (extSig a).toNat < (extSig b).toNat) : largerNan a b = b := by
  rw [largerNan, if_neg h.not_gt, if_pos h]

theorem largerNan_of_eq {a b : Ext} (h : extSig a = extSig b) : largerNan a b = if extSign a then b else a := by
  rw [largerNan, h, if_neg (lt_irrefl _), if_neg (lt_irrefl _)]

/-- Settles O40: the kinds of the two operands select the NaN, and within a kind the significands and signs. -/
theorem nanChoice : Obligations.NanChoice := by
  unfold Obligations.NanChoice
  intro a b
  refine ⟨nanResult_of_left, nanResult_of_right, nanResult_of_neither, nanResult_of_quiet_signaling,
    nanResult_of_signaling_quiet, fun ha hb => ?_⟩
  rw [nanResult_of_same_kind ha hb]
  refine ⟨fun h => ?_, fun h => ?_, fun h hs => ?_, fun h _ hs => ?_⟩
  · rw [largerNan_of_lt h]; rfl
  · rw [largerNan_of_gt h]; rfl
  · rw [largerNan_of_eq h, hs]; rfl
  · rw [largerNan_of_eq h, hs]; rfl

end Sys2Proof.Machine
end

section
/-! A numeric instruction that is ready runs its rule (R361): the NPX registers and memory it leaves. -/

namespace Sys2Proof.Machine

/-! ### Entering an instruction that is ready -/

section
variable {i : Instr} {s : State}

theorem State.entry_of_ready (hi : i.isWait = false) (h : s.ready i = true) :
    s.escEntry (i.waits s.params) = .run := by
  simp only [State.ready, Bool.and_eq_true] at h
  obtain ⟨⟨⟨ha, hp⟩, -⟩, -⟩ := h
  exact State.escEntry_run_of_proceeds hi ha hp

/-- The operand of an instruction that is ready lies inside its segment, and the host reports no fault on it. -/
theorem State.operand_of_ready {r : MemRef} {u : OperandUse} (h : s.ready i = true) (ho : s.operand i = some (r, u)) :
    s.cpu.segs.allowsBytes r u.bytes = true ∧ s.launch.hostFaultOn r u.bytes u.stores = false := by
  simp only [State.ready, Bool.and_eq_true] at h
  obtain ⟨⟨-, hr⟩, -⟩ := h
  simpa [State.operandReady, ho] using hr

/-! ### Register forms and loads -/

/-- A numeric register form that is ready applies its rule to the NPX registers. -/
theorem exec_numReg_of_ready {pre : List Prefix} {grp : BitVec 3} {b2 : Byte} {f : Nat → Npx → Npx}
    (runs : exec i s = s.numReg pre grp b2 f) (hi : i.isWait = false) (hw : i.waits s.params = true)
    (h : s.ready i = true) : ∃ t, exec i s = .next t ∧ t.npx = f s.draws s.npx := by
  have hrun : s.escEntry true = .run := hw ▸ s.entry_of_ready hi h
  refine ⟨_, runs.trans (State.escReg_run hrun), ?_⟩
  simp

variable {pre : List Prefix} {grp reg : BitVec 3} {m : MemArg} {n : Nat}

/-- A numeric memory form that is ready applies its rule to its operand. -/
theorem exec_memForm_of_ready {w : Bool} {body : MemRef → State → State}
    (runs : exec i s = s.memForm numericKind pre grp reg m n w body) (parts : i.parts = (pre, 2, some m))
    (tabled : TabledAs i false (some ⟨n, w⟩)) (hn : n = 2 ∨ 4 ≤ n) (h : s.ready i = true) :
    let r := effectiveAddress s.cpu pre m
    s.operand i = some (r, ⟨n, w⟩) ∧ ∃ len,
      exec i s = .next (s.finish len (body r (s.startEsc numericKind (grp ++ m.modrm reg) (some r)))) := by
  intro r
  have ho : s.operand i = some (r, ⟨n, w⟩) := by rw [s.operand_of_parts parts, tabled.operandUse, Option.map_some]
  obtain ⟨hallow, hfault⟩ := s.operand_of_ready h ho
  have hi := isWait_eq_false_of_operandUse (tabled.operandUse .s16)
  have hrun : s.escEntry true = .run := tabled.waits s.params ▸ s.entry_of_ready hi h
  exact ⟨ho, _, runs.trans (State.escMem_run hrun hn hallow hfault)⟩

/-- A numeric load that is ready applies its rule to the operand and the NPX registers. -/
theorem exec_numLoad_of_ready {f : Nat → Nat → Npx → Npx} (runs : exec i s = s.numLoad pre grp reg m n f)
    (parts : i.parts = (pre, 2, some m)) (tabled : TabledAs i false (some ⟨n, false⟩)) (hn : n = 2 ∨ 4 ≤ n)
    (h : s.ready i = true) : ∃ t, exec i s = .next t ∧ t.npx = f s.draws (s.operandValue i) s.npx := by
  obtain ⟨ho, _, he⟩ := exec_memForm_of_ready runs parts tabled hn h
  refine ⟨_, he, ?_⟩
  simp [loadThen, State.operandValue, ho, State.readOperand]

/-! ### Reading back what was stored (R72) -/

/-- The bytes of an operand have distinct addresses: an offset wraps only at 2^16 or 2^32 (R72). -/
theorem Segments.nodup_addresses (g : Segments) (r : MemRef) {n : Nat} (hn : n ≤ 2 ^ 16) : (g.addresses r n).Nodup := by
  refine List.Nodup.map_on (fun j hj k hk hjk => ?_) List.nodup_range
  rw [List.mem_range] at hj hk
  have hoff : r.offset j = r.offset k := add_left_cancel (BitVec.eq_of_toNat_eq hjk)
  unfold MemRef.offset at hoff
  split at hoff <;> bv_omega

/-- A value that fits the operand is read back from it. -/
theorem State.readOperand_writeOperand (s : State) (r : MemRef) {n v : Nat} (hn : n ≤ 2 ^ 16) (hv : v < 256 ^ n) :
    (s.writeOperand r n v).readOperand r n = v := by
  have hlen : (s.cpu.segs.addresses r n).length = n := by simp [Segments.addresses]
  calc (s.writeOperand r n v).readOperand r n
      = (s.mem.writeList (s.cpu.segs.addresses r n) v).readList (s.cpu.segs.addresses r n) := rfl
    _ = v % 256 ^ n := by rw [Memory.readList_writeList _ _ _ (s.cpu.segs.nodup_addresses r hn), hlen]
    _ = v := Nat.mod_eq_of_lt hv

section
variable {f : Nat → Npx → StoreEffect} {t : State} (hp : t.params.platform = .standard) (r : MemRef)

include hp

/-- On the standard connection the bits of a storing rule are read back from the operand. -/
theorem storeThen_readOperand {v : Nat} (hn : n ≤ 2 ^ 16) (hv : (f t.draws t.npx).bits = some v) (hlt : v < 256 ^ n) :
    (storeThen n f r t).readOperand r n = v := by
  simp only [storeThen, StoreEffect.written_eq (.inl hp), hv]
  exact State.readOperand_writeOperand _ r hn hlt

/-- On the standard connection a storing rule without bits leaves memory. -/
theorem storeThen_mem_of_none (hnone : (f t.draws t.npx).bits = none) : (storeThen n f r t).mem = t.mem := by
  simp only [storeThen, StoreEffect.written_eq (.inl hp), hnone]

end

/-- A numeric store that is ready, on the standard connection: the NPX registers of its rule, and the bits of its rule
in the operand, or memory as it was. -/
theorem exec_numStore_of_ready {f : Nat → Npx → StoreEffect} (runs : exec i s = s.numStore pre grp reg m n f)
    (parts : i.parts = (pre, 2, some m)) (tabled : TabledAs i false (some ⟨n, true⟩)) (hn : n = 2 ∨ 4 ≤ n)
    (hn' : n ≤ 2 ^ 16) (hp : s.params.platform = .standard) (h : s.ready i = true) :
    let e := f s.draws s.npx
    ∃ r t, s.operand i = some (r, ⟨n, true⟩) ∧ exec i s = .next t ∧ t.npx = e.npx ∧
      (∀ v, e.bits = some v → v < 256 ^ n → t.readOperand r n = v) ∧ (e.bits = none → t.mem = s.mem) := by
  intro e
  obtain ⟨ho, _, he⟩ := exec_memForm_of_ready runs parts tabled hn h
  refine ⟨_, _, ho, he, ?_, fun v hv hlt => ?_, fun hnone => ?_⟩
  · simp [storeThen_npx, e]
  · exact storeThen_readOperand (by simpa using hp) _ hn' (by simpa using hv) hlt
  · exact (storeThen_mem_of_none (by simpa using hp) _ (by simpa using hnone)).trans (State.startEsc_mem ..)

end

end Sys2Proof.Machine
end

section
/-! The register stack (R21, R170 to R174): what the shared operations leave in the registers, tags and flags, and the
rules for a push, an exact result and an empty source that they keep. -/

namespace Sys2Proof.Machine

/-! ### Registers, tags and flags after an update -/

section
variable (n : Npx) (d k : Nat) (b : Bool) (e e' : Exc) (c : Stored) (x : Ext) (j a a' : BitVec 3) (w : StatusWord)

@[simp] theorem Npx.reg_setC1 : (n.setC1 b).reg j = n.reg j := rfl
@[simp] theorem Npx.reg_setTop : (n.setTop a).reg j = n.reg j := rfl
@[simp] theorem Npx.reg_signal : (n.signal e).reg j = n.reg j := rfl
@[simp] theorem Npx.reg_stackFault : (n.stackFault b).reg j = n.reg j := rfl
@[simp] theorem Npx.reg_drawC320 : (n.drawC320 d).reg j = n.reg j := rfl

@[simp] theorem Npx.isEmpty_setC1 : (n.setC1 b).isEmpty j = n.isEmpty j := rfl
@[simp] theorem Npx.isEmpty_setTop : (n.setTop a).isEmpty j = n.isEmpty j := rfl
@[simp] theorem Npx.isEmpty_signal : (n.signal e).isEmpty j = n.isEmpty j := rfl
@[simp] theorem Npx.isEmpty_stackFault : (n.stackFault b).isEmpty j = n.isEmpty j := rfl
@[simp] theorem Npx.isEmpty_drawC320 : (n.drawC320 d).isEmpty j = n.isEmpty j := rfl
@[simp] theorem Npx.isEmpty_swapRegs : (n.swapRegs a a').isEmpty j = n.isEmpty j := rfl

@[simp] theorem Npx.isEmpty_flagStored : (n.flagStored c).isEmpty j = n.isEmpty j := by simp [Npx.isEmpty]

theorem Npx.reg_swapRegs :
    (n.swapRegs a a').reg j = if j = a then n.reg a' else if j = a' then n.reg a else n.reg j := by
  have h : (n.swapRegs a a').reg j = if a' = j then n.reg a else if a = j then n.reg a' else n.reg j := by
    simp only [Npx.reg, Npx.swapRegs, Vector.getElem_set, BitVec.toNat_inj]
  rw [h]
  grind

@[simp] theorem StatusWord.flag_signal : (w.signal e).flag e' = (w.flag e' || [e].contains e') := by
  cases e <;> cases e' <;> simp [StatusWord.signal, StatusWord.flag]

@[simp] theorem Npx.flag_signal : (n.signal e).sw.flag e' = (n.sw.flag e' || [e].contains e') :=
  StatusWord.flag_signal e e' n.sw

@[simp] theorem Npx.flag_signalIf :
    (n.signalIf b e).sw.flag e' = (n.sw.flag e' || (if b then [e] else []).contains e') := by
  cases b
  · simp [Npx.signalIf]
  · exact n.flag_signal e e'

@[simp] theorem Npx.flag_setC1 : (n.setC1 b).sw.flag e = n.sw.flag e := by cases e <;> rfl

@[simp] theorem Npx.flag_stackFault : (n.stackFault b).sw.flag e = (n.sw.flag e || [Exc.ie].contains e) := by
  cases e <;> simp [Npx.stackFault, StatusWord.flag]

@[simp] theorem Npx.flag_drawC320 : (n.drawC320 d).sw.flag e = n.sw.flag e := by cases e <;> rfl

theorem Npx.flag_flagStored : (n.flagStored c).sw.flag e = (n.sw.flag e ||
    ((if c.ie then [Exc.ie] else []) ++ (if c.oe then [Exc.oe] else []) ++ (if c.ue then [Exc.ue] else []) ++
      (if c.pe then [Exc.pe] else [])).contains e) := by
  simp [Npx.flagStored, Bool.or_assoc]

/-! ### Pops (R171) -/

@[simp] theorem Npx.isEmpty_pop : n.pop.isEmpty j = (decide (j = n.sw.top) || n.isEmpty j) := by
  rw [Npx.pop, Npx.isEmpty_setTop, Npx.isEmpty_free]
  grind

/-- The top `k + 1` registers are the top and the `k` below it. -/
theorem Npx.amongTop_succ : n.amongTop (k + 1) j = (decide (j = n.sw.top) || n.pop.amongTop k j) := by
  have h : (j - n.sw.top).toNat < k + 1 ↔ j = n.sw.top ∨ (j - (n.sw.top + 1)).toNat < k := by
    bv_omega
  exact (decide_eq_decide.mpr h).trans (Bool.decide_or ..)

@[simp] theorem Npx.isEmpty_pops : (Npx.pops k n).isEmpty j = (n.amongTop k j || n.isEmpty j) := by
  induction k generalizing n with
  | zero => simp [Npx.pops, Npx.amongTop]
  | succ k ih =>
    rw [Npx.pops, ih, Npx.isEmpty_pop, Npx.amongTop_succ]
    ac_rfl

/-- Pops change TOP and nothing else of the status word. -/
theorem Npx.pops_sw : (Npx.pops k n).sw = { n.sw with top := n.sw.top + BitVec.ofNat 3 k } := by
  induction k generalizing n with
  | zero => simp [Npx.pops]
  | succ k ih =>
    rw [Npx.pops, ih, Npx.pop_top, BitVec.ofNat_add, add_comm (BitVec.ofNat 3 k), ← add_assoc]
    rfl

@[simp] theorem Npx.pops_regs : (Npx.pops k n).regs = n.regs := by
  induction k generalizing n with
  | zero => rfl
  | succ k ih => rw [Npx.pops, ih]; rfl

@[simp] theorem Npx.pops_flag : (Npx.pops k n).sw.flag e = n.sw.flag e := by
  rw [Npx.pops_sw]
  cases e <;> rfl

@[simp] theorem Npx.pops_sf : (Npx.pops k n).sw.sf = n.sw.sf := by rw [Npx.pops_sw]
@[simp] theorem Npx.pops_c1 : (Npx.pops k n).sw.c1 = n.sw.c1 := by rw [Npx.pops_sw]
@[simp] theorem Npx.pops_top : (Npx.pops k n).sw.top = n.sw.top + BitVec.ofNat 3 k := by rw [Npx.pops_sw]

end

/-! ### The rules an instruction keeps (R162, R169 to R174) -/

section
variable (n : Npx) {m : Npx} (d k : Nat) (e : Exc) {x : Ext} {l : List Exc} (j : BitVec 3)

-- The condition bits an instruction leaves undefined do not matter (R37).
@[simp] theorem Npx.pushRule_drawC320 : n.PushRule (m.drawC320 d) x l ↔ n.PushRule m x l := Iff.rfl
@[simp] theorem Npx.stopped_drawC320 : n.Stopped (m.drawC320 d) l ↔ n.Stopped m l := Iff.rfl

variable (x)

theorem Npx.pushed_pushRaw : n.Pushed (n.pushRaw x) x := by
  refine ⟨fun i => ?_, fun i => ?_, rfl⟩
  · simp [Npx.pushRaw, Npx.reg_setReg, eq_comm]
  · simp only [Npx.pushRaw, Npx.isEmpty_setTop, Npx.isEmpty_setReg]
    grind

theorem Npx.flagged_stackFault (b : Bool) : n.Flagged (n.stackFault b) [.ie] true := by
  simp [Npx.Flagged]

theorem Npx.flagged_setC1 (b : Bool) : n.Flagged (n.setC1 b) [] false := by
  simp [Npx.Flagged]

theorem Npx.flagged_signal (b : Bool) : n.Flagged ((n.signal e).setC1 b) [e] false := by
  simp [Npx.Flagged]

/-- A push onto an empty register. -/
theorem Npx.pushRule_of_room (hroom : n.canPush = true) (hp : n.Pushed m x) (hf : n.Flagged m l false)
    (hc : m.sw.c1 = false) : n.PushRule m x l :=
  ⟨fun _ => ⟨hp, hf, hc⟩, fun h => absurd (hroom.symm.trans h) nofun, fun h => absurd (hroom.symm.trans h) nofun⟩

/-- The response to a full register (R170), whatever was to be pushed. -/
theorem Npx.pushRule_stackOverflow (hfull : n.canPush = false) : n.PushRule n.stackOverflow x l := by
  refine ⟨fun h => absurd (hfull.symm.trans h) nofun, fun _ him => ?_, fun _ him => ?_⟩
  · rw [Npx.stackOverflow, if_pos him]
    exact ⟨(n.stackFault true).pushed_pushRaw indefinite, n.flagged_stackFault true, rfl⟩
  · rw [Npx.stackOverflow, if_neg (by simp [him])]
    exact ⟨⟨rfl, rfl, rfl⟩, n.flagged_stackFault true, rfl⟩

theorem Npx.pushRule_push : n.PushRule (n.push x) x [] := by
  unfold Npx.push
  cases h : n.canPush with
  | true => exact n.pushRule_of_room x h (n.pushed_pushRaw x) (n.flagged_setC1 false) rfl
  | false => exact n.pushRule_stackOverflow x h

/-- A push that signals a masked exception, onto an empty register (R162, R164). -/
theorem Npx.pushRule_signal_push (h : n.canPush = true) : n.PushRule ((n.signal e).push x) x [e] := by
  have hpush : (n.signal e).push x = ((n.signal e).pushRaw x).setC1 false := by
    rw [Npx.push, if_pos (by simpa [Npx.canPush] using h)]
  have hp := (n.signal e).pushed_pushRaw x
  simp only [Npx.Pushed, Npx.reg_signal, Npx.isEmpty_signal, Npx.signal_top] at hp
  rw [hpush]
  exact n.pushRule_of_room x h hp (n.flagged_signal e false) rfl

/-- An unmasked exception stops the instruction (R169). -/
theorem Npx.stopped_signal : n.Stopped ((n.signal e).setC1 false) [e] :=
  ⟨⟨rfl, rfl, n.signal_top e⟩, n.flagged_signal e false, rfl⟩

theorem Npx.popped_pops : n.Popped (Npx.pops k n) k := ⟨n.pops_regs k, fun i => n.isEmpty_pops k i, n.pops_top k⟩

theorem Npx.wrote_pops_setReg : n.Wrote (Npx.pops k (n.setReg j x)) j x k := by
  refine ⟨fun i => ?_, fun i => ?_, by simp⟩
  · simp [Npx.reg_setReg, eq_comm]
  · rw [Npx.isEmpty_pops, Npx.isEmpty_setReg]
    grind [Npx.amongTop, Npx.setReg_sw]

/-- An exact result (R174). -/
theorem Npx.exactInto_spec :
    n.Wrote (n.exactInto j k x) j x k ∧ n.Flagged (n.exactInto j k x) [] false ∧ (n.exactInto j k x).sw.c1 = false := by
  refine ⟨(n.setC1 false).wrote_pops_setReg k x j, ?_, ?_⟩
  · simp [Npx.Flagged, Npx.exactInto]
  · simp [Npx.exactInto]

/-- An empty source (R173). -/
theorem Npx.underflowRule_underflowInto : n.UnderflowRule (n.underflowInto j k) j k := by
  unfold Npx.underflowInto
  cases him : n.masked .ie with
  | true =>
    refine ⟨?_, ?_, fun _ => (n.stackFault false).wrote_pops_setReg k indefinite j,
      fun h => absurd (him.symm.trans h) nofun⟩
    · simp [Npx.Flagged]
    · simp
  | false => exact ⟨n.flagged_stackFault false, rfl, fun h => absurd (him.symm.trans h) nofun, fun _ => ⟨rfl, rfl, rfl⟩⟩

end

end Sys2Proof.Machine
end

section
/-! Data transfer: loads (R201 to R204, R212, R213, R217), stores (R206 to R210, R214 to R216, R218), exchange (R211),
and the sign operations (R290, R291). -/

namespace Sys2Proof.Machine

/-! ### The memory formats (R90 to R92) -/

/-- The memory formats with their sizes in bytes. -/
inductive FormatBytes : LoadUse → Nat → Prop
  | single : FormatBytes (.real single) 4
  | double : FormatBytes (.real double) 8
  | ext : FormatBytes .ext 10
  | word : FormatBytes (.int 16) 2
  | short : FormatBytes (.int 32) 4
  | long : FormatBytes (.int 64) 8
  | bcd : FormatBytes .bcd 10

theorem FormatBytes.size {u : LoadUse} {n : Nat} (h : FormatBytes u n) : (n = 2 ∨ 4 ≤ n) ∧ n ≤ 2 ^ 16 := by
  cases h <;> decide

/-! ### Loads of a memory operand -/

/-- The rule of a load, by its format. -/
def loadRule : LoadUse → Nat → Nat → Npx → Npx
  | .real f => fldReal f
  | .ext => fun d v => pushImage (BitVec.ofNat 80 v) d
  | .int bits => fun d v => pushImage (extOfInt (intOf bits v)) d
  | .bcd => fbld

/-- A load is a numeric load of its format, by the format's rule. -/
theorem exec_of_loadUse {i : Instr} {u : LoadUse} (hu : i.loadUse = some u) :
    ∃ pre grp reg m n, FormatBytes u n ∧ i.parts = (pre, 2, some m) ∧ TabledAs i false (some ⟨n, false⟩) ∧
      ∀ s, exec i s = s.numLoad pre grp reg m n (loadRule u) := by
  cases i with
  | fldSingleReal | fldDoubleReal | fldExtendedReal | fildWordInteger | fildShortInteger | fildLongInteger
  | fbldPackedDecimal =>
    cases hu
    exact ⟨_, _, _, _, _, by constructor, rfl, ⟨fun _ => rfl, rfl, rfl, fun _ => rfl⟩, fun _ => rfl⟩
  | _ => cases hu

/-- A load that is ready applies the rule of its format to the operand and the NPX registers. -/
theorem exec_load_of_ready {i : Instr} {u : LoadUse} {s : State} (hu : i.loadUse = some u) (h : s.ready i = true) :
    ∃ t, exec i s = .next t ∧ t.npx = loadRule u s.draws (s.operandValue i) s.npx := by
  obtain ⟨_, _, _, _, n, hbytes, parts, tabled, runs⟩ := exec_of_loadUse hu
  exact exec_numLoad_of_ready (runs s) parts tabled hbytes.size.1 h

/-- FLD of a memory real: a full register first, then a signaling NaN, then a denormal (R201, R202). -/
theorem fldReal_spec (f : Fmt) (d v : Nat) (n : Npx) :
    let o := f.opnd v
    let m := fldReal f d v n
    (n.canPush = false → n.PushRule m o.img []) ∧
    (n.canPush = true → o.cls = .snan →
      (n.masked .ie = true → n.PushRule m (quiet o.img) [.ie]) ∧ (n.masked .ie = false → n.Stopped m [.ie])) ∧
    (n.canPush = true → o.cls = .denormal →
      (n.masked .de = true → n.PushRule m o.img [.de]) ∧ (n.masked .de = false → n.Stopped m [.de])) ∧
    (n.canPush = true → o.cls ≠ .snan → o.cls ≠ .denormal → n.PushRule m o.img []) := by
  simp only [fldReal, Npx.pushRule_drawC320, Npx.stopped_drawC320]
  generalize f.opnd v = o
  refine ⟨fun hfull => ?_, fun hroom hcls => ⟨fun him => ?_, fun him => ?_⟩,
    fun hroom hcls => ⟨fun hdm => ?_, fun hdm => ?_⟩, fun hroom hsnan hden => ?_⟩
  · simpa [hfull] using n.pushRule_stackOverflow _ hfull
  · simpa [hroom, hcls, him] using n.pushRule_signal_push .ie _ hroom
  · simpa [hroom, hcls, him] using n.stopped_signal .ie
  · simpa [hroom, hcls, hdm] using n.pushRule_signal_push .de _ hroom
  · simpa [hroom, hcls, hdm] using n.stopped_signal .de
  · simpa [hroom, hsnan, hden] using n.pushRule_push o.img

/-- Settles O26: a load that is ready applies `fldReal`, which keeps the rule of each case. -/
theorem realLoads : Obligations.RealLoads := by
  unfold Obligations.RealLoads
  intro i f s hu h
  obtain ⟨t, he, hnpx⟩ := exec_load_of_ready hu h
  refine ⟨t, he, ?_⟩
  rw [hnpx]
  exact fldReal_spec f _ _ _

theorem pushRule_pushImage (x : Ext) (d : Nat) (n : Npx) : n.PushRule (pushImage x d n) x [] := n.pushRule_push x

/-- FBLD of decimal digits pushes their image (R217). -/
theorem pushRule_fbld {v : Nat} {x : Ext} (h : extOfBcd v = some x) (d : Nat) (n : Npx) :
    n.PushRule (fbld d v n) x [] := by
  rw [fbld, h]
  exact pushRule_pushImage x d n

/-- FLD ST(i) (R204). -/
theorem fldStack_spec (k : StIndex) (d : Nat) (n : Npx) :
    let m := fldStack k d n
    (∀ x, n.st k = some x → n.PushRule m x []) ∧
    (n.st k = none → n.Flagged m [.ie] true ∧ (n.masked .ie = true → n.Pushed m indefinite) ∧
      (n.masked .ie = false → n.SameStack m) ∧ (n.masked .ie = false ∨ n.canPush = true → m.sw.c1 = false)) := by
  refine ⟨fun x hx => ?_, fun hnone => ?_⟩
  · simpa only [fldStack, hx, Npx.pushRule_drawC320] using n.pushRule_push x
  have hflags := n.flagged_stackFault false
  have hpush := (n.stackFault false).pushed_pushRaw indefinite
  cases him : n.masked .ie with
  | false =>
    simp only [fldStack, hnone, him]
    exact ⟨hflags, nofun, fun _ => ⟨rfl, rfl, rfl⟩, fun _ => rfl⟩
  | true =>
    simp only [fldStack, hnone, him]
    cases hroom : n.canPush with
    | true => exact ⟨hflags, fun _ => hpush, nofun, fun _ => rfl⟩
    | false => exact ⟨hflags, fun _ => hpush, nofun, fun h => absurd h (by simp)⟩

/-- Settles O27: each load is a push of the exact image, and FLD ST(i) by `fldStack_spec`. -/
theorem exactLoads : Obligations.ExactLoads := by
  unfold Obligations.ExactLoads
  refine ⟨fun i s h => ⟨fun hu => ?_, fun bits hu => ?_, fun hu => ?_⟩, fun pre k s h => ?_⟩
  · obtain ⟨t, he, hnpx⟩ := exec_load_of_ready hu h
    exact ⟨t, he, hnpx ▸ pushRule_pushImage ..⟩
  · obtain ⟨t, he, hnpx⟩ := exec_load_of_ready hu h
    exact ⟨t, he, hnpx ▸ pushRule_pushImage ..⟩
  · obtain ⟨t, he, hnpx⟩ := exec_load_of_ready hu h
    exact ⟨t, he, fun x hx => hnpx ▸ pushRule_fbld hx ..⟩
  · obtain ⟨t, he, hnpx⟩ := exec_numReg_of_ready (i := .fldSti pre k) rfl rfl rfl h
    refine ⟨t, he, ?_⟩
    rw [hnpx]
    exact fldStack_spec k _ _

end Sys2Proof.Machine
end

section
/-! Operations on registers (R173, R208, R210, R211, R290, R291): copies of ST(0), its sign, and the exchange. -/

namespace Sys2Proof.Machine

/-- What a rule leaves that takes ST(0), writes physical register `j` with its image under `f`, and pops `k` times. -/
def Npx.TopRule (n m : Npx) (j : BitVec 3) (f : Ext → Ext) (k : Nat) : Prop :=
  (∀ x, n.st 0 = some x → n.Wrote m j (f x) k ∧ n.Flagged m [] false ∧ m.sw.c1 = false) ∧
  (n.st 0 = none → n.UnderflowRule m j k)

/-- FST ST(i) and FSTP ST(i) (R208, R210). -/
theorem topRule_fstStack (i : StIndex) (k d : Nat) (n : Npx) : n.TopRule (fstStack i k d n) (n.phys i) id k := by
  refine ⟨fun x hx => ?_, fun hnone => ?_⟩
  · simp only [fstStack, hx]
    exact n.exactInto_spec k x (n.phys i)
  · simp only [fstStack, hnone]
    exact n.underflowRule_underflowInto k (n.phys i)

/-- FABS and FCHS (R290, R291). -/
theorem topRule_mapTop (f : Ext → Ext) (d : Nat) (n : Npx) : n.TopRule (mapTop f d n) (n.phys 0) f 0 := by
  refine ⟨fun x hx => ?_, fun hnone => ?_⟩
  · simp only [mapTop, hx]
    exact n.exactInto_spec 0 (f x) (n.phys 0)
  · simp only [mapTop, hnone]
    exact n.underflowRule_underflowInto 0 (n.phys 0)

/-! ### The exchange (R211) -/

section
variable (n : Npx) (a b j : BitVec 3)

@[simp] theorem Npx.fillEmpty_sw : (n.fillEmpty a).sw = n.sw := by
  unfold Npx.fillEmpty
  split <;> rfl

theorem Npx.reg_fillEmpty :
    (n.fillEmpty a).reg j = if j = a ∧ n.isEmpty a = true then indefinite else n.reg j := by
  unfold Npx.fillEmpty
  split
  · rw [Npx.reg_setReg]; grind
  · grind

theorem Npx.isEmpty_fillEmpty : (n.fillEmpty a).isEmpty j = (decide (j ≠ a) && n.isEmpty j) := by
  unfold Npx.fillEmpty
  split
  · rw [Npx.isEmpty_setReg]; grind
  · grind

/-- Registers `a` and `b` are exchanged, each empty one filled with the indefinite first; both become nonempty. -/
def Npx.Exchanged (m : Npx) : Prop :=
  let x := if n.isEmpty a then indefinite else n.reg a
  let y := if n.isEmpty b then indefinite else n.reg b
  (∀ j, m.reg j = if j = a then y else if j = b then x else n.reg j) ∧
  (∀ j, m.isEmpty j = (decide (j ≠ a) && decide (j ≠ b) && n.isEmpty j))

theorem Npx.exchanged_fill_swap : n.Exchanged a b (((n.fillEmpty a).fillEmpty b).swapRegs a b) := by
  refine ⟨fun j => ?_, fun j => ?_⟩
  · rw [Npx.reg_swapRegs]
    simp only [Npx.reg_fillEmpty, Npx.isEmpty_fillEmpty]
    grind
  · simp only [Npx.isEmpty_swapRegs, Npx.isEmpty_fillEmpty]
    grind

theorem Npx.exchanged_swap (h : (n.isEmpty a || n.isEmpty b) = false) : n.Exchanged a b (n.swapRegs a b) := by
  have hfull : (n.fillEmpty a).fillEmpty b = n := by
    obtain ⟨ha, hb⟩ := Bool.or_eq_false_iff.mp h
    simp [Npx.fillEmpty, ha, hb]
  have := n.exchanged_fill_swap a b
  rwa [hfull] at this

end

/-- FXCH ST(i): what is exchanged, and the response to an empty register (R173, R211). -/
theorem fxchStack_spec (i : StIndex) (d : Nat) (n : Npx) :
    let m := fxchStack i d n
    let under := n.isEmpty (n.phys 0) || n.isEmpty (n.phys i)
    m.sw.c1 = false ∧ n.Flagged m (if under then [.ie] else []) under ∧ m.sw.top = n.sw.top ∧
    (under = false ∨ n.masked .ie = true → n.Exchanged (n.phys 0) (n.phys i) m) ∧
    (under = true → n.masked .ie = false → n.SameStack m) := by
  cases hunder : n.isEmpty (n.phys 0) || n.isEmpty (n.phys i) with
  | false =>
    simp only [fxchStack, hunder]
    exact ⟨rfl, n.flagged_setC1 false, rfl, fun _ => n.exchanged_swap _ _ hunder, nofun⟩
  | true =>
    have hflags := n.flagged_stackFault false
    cases him : n.masked .ie with
    | false =>
      simp only [fxchStack, hunder, him]
      exact ⟨rfl, hflags, rfl, fun h => absurd h (by simp), fun _ _ => ⟨rfl, rfl, rfl⟩⟩
    | true =>
      simp only [fxchStack, hunder, him]
      refine ⟨?_, ?_, ?_, fun _ => (n.stackFault false).exchanged_fill_swap _ _, nofun⟩
      · simp
      · simp [Npx.Flagged]
      · simp

/-- Settles O29: the copies and the sign operations keep `Npx.TopRule`, and FXCH by `fxchStack_spec`. -/
theorem registerOperations : Obligations.RegisterOperations := by
  unfold Obligations.RegisterOperations
  refine ⟨⟨fun i pre k pops s hi h => ?_, fun i pre f s hi h => ?_⟩, fun pre k s h => ?_⟩
  · have hrun : ∃ t, exec i s = .next t ∧ t.npx = fstStack k pops s.draws s.npx := by
      rcases hi with ⟨rfl, rfl⟩ | ⟨rfl, rfl⟩ <;> exact exec_numReg_of_ready rfl rfl rfl h
    obtain ⟨t, he, hnpx⟩ := hrun
    refine ⟨t, he, ?_⟩
    rw [hnpx]
    exact topRule_fstStack k pops _ _
  · have hrun : ∃ t, exec i s = .next t ∧ t.npx = mapTop f s.draws s.npx := by
      rcases hi with ⟨rfl, rfl⟩ | ⟨rfl, rfl⟩ <;> exact exec_numReg_of_ready rfl rfl rfl h
    obtain ⟨t, he, hnpx⟩ := hrun
    refine ⟨t, he, ?_⟩
    rw [hnpx]
    exact topRule_mapTop f _ _
  · obtain ⟨t, he, hnpx⟩ := exec_numReg_of_ready (i := .fxchSti pre k) rfl rfl rfl h
    refine ⟨t, he, ?_⟩
    rw [hnpx]
    exact fxchStack_spec k _ _

end Sys2Proof.Machine
end

section
/-! Stores of ST(0) to memory (R206, R207, R209, R214 to R216, R218). -/

namespace Sys2Proof.Machine

/-! ### The conversions of the formats (R146, R183 to R185) -/

/-- The conversion of ST(0) to a format. -/
def storeConv (u : LoadUse) (n : Npx) (x : Ext) : Stored :=
  match u with
  | .real f => convReal f n x
  | .ext => convExt n x
  | .int bits => convInt bits n x
  | .bcd => convBcd n x

/-- The indefinite of a format (R146). -/
def formatIndefinite : LoadUse → Nat
  | .real f => f.indefinite
  | .ext => 0xFFFFC000000000000000
  | .int bits => 2 ^ (bits - 1)
  | .bcd => 0xFFFFC000000000000000

theorem formatIndefinite_lt {u : LoadUse} {n : Nat} (h : FormatBytes u n) : formatIndefinite u < 256 ^ n := by
  cases h <;> decide

theorem storedInvalid_bits_lt {im : Bool} {ind v b : Nat} (hind : ind < b) (hv : (storedInvalid im ind).bits = some v) :
    v < b := by
  cases im with
  | false => exact absurd hv nofun
  | true => exact Option.some.inj hv ▸ hind

/-- A register holds a zero, another number, or no number (R142). -/
theorem classOf_cases (x : Ext) : classOf x = .zero ∨ (classOf x = .normal ∨ classOf x = .denormal) ∨
    (classOf x = .infinity ∨ classOf x = .qnan ∨ classOf x = .snan ∨ classOf x = .unsupported) := by
  cases classOf x <;> decide

/-- What a conversion to an integer stores is a two's complement of its size. -/
theorem intOfExt_lt {bits : Nat} (hbits : 0 < bits) {rc : RC} {im : Bool} {x : Ext} {v : Nat}
    (hv : (intOfExt bits rc im x).bits = some v) : v < 2 ^ bits := by
  have hind : intIndefinite bits < 2 ^ bits := Nat.pow_lt_pow_right one_lt_two (by omega)
  rcases classOf_cases x with hzero | hnumber | hnone
  · rw [intOfExt_of_zero hzero] at hv
    exact Option.some.inj hv ▸ Nat.two_pow_pos bits
  · by_cases hfits : fitsIn bits (extSign x) (extRounded rc x).q
    · rw [intOfExt_of_fits hnumber rc im hfits] at hv
      exact Option.some.inj hv ▸ (twosComplement_spec hbits hfits).1
    · rw [intOfExt_of_not_fits hnumber rc im hfits] at hv
      exact storedInvalid_bits_lt hind hv
  · rw [intOfExt_of_noNumber rc bits im hnone] at hv
    exact storedInvalid_bits_lt hind hv

/-- What a conversion to a packed decimal stores has ten bytes. -/
theorem bcdOfExt_lt {rc : RC} {im : Bool} {x : Ext} {v : Nat} (hv : (bcdOfExt rc im x).bits = some v) :
    v < 2 ^ 80 := by
  have hind : bcdIndefinite < 2 ^ 80 := by decide
  rcases classOf_cases x with hzero | hnumber | hnone
  · rw [bcdOfExt_of_zero hzero] at hv
    exact Option.some.inj hv ▸ packBcd_lt _ _
  · rw [bcdOfExt_number hnumber] at hv
    split at hv
    · exact Option.some.inj hv ▸ packBcd_lt _ _
    · exact storedInvalid_bits_lt hind hv
  · rw [bcdOfExt_of_noNumber rc im hnone] at hv
    exact storedInvalid_bits_lt hind hv

/-- The operand holds what a conversion stores. -/
theorem storeConv_lt {u : LoadUse} {k : Nat} (h : FormatBytes u k) {n : Npx} {x : Ext} {v : Nat}
    (hv : (storeConv u n x).bits = some v) : v < 256 ^ k := by
  cases h with
  | single => exact Fmt.narrow_lt (Fmt.binary_of_real (.inl rfl)) hv
  | double => exact Fmt.narrow_lt (Fmt.binary_of_real (.inr rfl)) hv
  | ext => exact Option.some.inj hv ▸ x.isLt
  | word => exact intOfExt_lt (by decide) hv
  | short => exact intOfExt_lt (by decide) hv
  | long => exact intOfExt_lt (by decide) hv
  | bcd => exact bcdOfExt_lt hv

/-! ### The rule of a store -/

section
variable {conv : Npx → Ext → Stored} {ind : Nat} (k d : Nat) {n : Npx}

/-- An empty ST(0): the indefinite of the format, or nothing (R173). -/
theorem storeTop_of_empty (h : n.st 0 = none) :
    let e := storeTop conv ind k d n
    n.Flagged e.npx [.ie] true ∧ e.npx.sw.c1 = false ∧
    (n.masked .ie = true → e.bits = some ind ∧ n.Popped e.npx k) ∧
    (n.masked .ie = false → e.bits = none ∧ n.SameStack e.npx) := by
  cases him : n.masked .ie with
  | true =>
    simp only [storeTop, h, him]
    refine ⟨?_, ?_, fun _ => ⟨rfl, (n.stackFault false).popped_pops k⟩, nofun⟩
    · simp [Npx.Flagged]
    · simp
  | false =>
    simp only [storeTop, h, him]
    exact ⟨n.flagged_stackFault false, rfl, nofun, fun _ => ⟨rfl, rfl, rfl, rfl⟩⟩

/-- ST(0) is converted; the pops follow a store, and nothing follows where there is none. -/
theorem storeTop_of_full {x : Ext} (h : n.st 0 = some x) :
    let e := storeTop conv ind k d n
    let c := conv n x
    e.bits = c.bits ∧
    n.Flagged e.npx ((if c.ie then [Exc.ie] else []) ++ (if c.oe then [Exc.oe] else []) ++
      (if c.ue then [Exc.ue] else []) ++ (if c.pe then [Exc.pe] else [])) false ∧
    e.npx.sw.c1 = c.c1 ∧ (∀ v, c.bits = some v → n.Popped e.npx k) ∧ (c.bits = none → n.SameStack e.npx) := by
  simp only [storeTop, h]
  generalize conv n x = c
  refine ⟨trivial, ⟨fun e => ?_, ?_, ?_⟩, ?_, fun v hv => ?_, fun hnone => ?_⟩
  · rw [Npx.flag_drawC320, Npx.pops_flag, Npx.flag_flagStored]
  · simp
  · simp
  · simp [Npx.flagStored]
  · simp [hv, Npx.Popped, Npx.amongTop]
  · simp [hnone, Npx.pops, Npx.SameStack]

end

/-! ### Every store -/

/-- A store is a numeric store of its format, by the rule `storeTop`. -/
theorem exec_of_storeUse {i : Instr} {u : StoreUse} (hu : i.storeUse = some u) :
    ∃ pre grp reg m n, FormatBytes u.format n ∧ i.parts = (pre, 2, some m) ∧ TabledAs i false (some ⟨n, true⟩) ∧
      ∀ s, exec i s =
        s.numStore pre grp reg m n (storeTop (storeConv u.format) (formatIndefinite u.format) u.pops) := by
  cases i with
  | fstSingleReal | fstpSingleReal | fstDoubleReal | fstpDoubleReal | fstpExtendedReal | fistWordInteger
  | fistpWordInteger | fistShortInteger | fistpShortInteger | fistpLongInteger | fbstpPackedDecimal =>
    cases hu
    exact ⟨_, _, _, _, _, by constructor, rfl, ⟨fun _ => rfl, rfl, rfl, fun _ => rfl⟩, fun _ => rfl⟩
  | _ => cases hu

/-- A store that is ready, on the standard connection: the NPX registers of its rule, and its bits in the operand, or
memory as it was. -/
theorem exec_store_of_ready {i : Instr} {u : StoreUse} {s : State} {r : MemRef} {w : OperandUse}
    (hu : i.storeUse = some u) (ho : s.operand i = some (r, w)) (hp : s.params.platform = .standard)
    (h : s.ready i = true) :
    let e := storeTop (storeConv u.format) (formatIndefinite u.format) u.pops s.draws s.npx
    FormatBytes u.format w.bytes ∧ ∃ t, exec i s = .next t ∧ t.npx = e.npx ∧
      (∀ v, e.bits = some v → v < 256 ^ w.bytes → t.readOperand r w.bytes = v) ∧ (e.bits = none → t.mem = s.mem) := by
  obtain ⟨_, _, _, _, n, hbytes, parts, tabled, runs⟩ := exec_of_storeUse hu
  obtain ⟨r', t, ho', ht⟩ := exec_numStore_of_ready (runs s) parts tabled hbytes.size.1 hbytes.size.2 hp h
  cases ho.symm.trans ho'
  exact ⟨hbytes, t, ht⟩

/-- Settles O28: an empty ST(0) by `storeTop_of_empty`, a full one by `storeTop_of_full`; the operand holds what is
stored. -/
theorem storesToMemory : Obligations.StoresToMemory := by
  unfold Obligations.StoresToMemory
  intro i u s r w hu ho hp h
  obtain ⟨hbytes, t, he, hnpx, hread, hmem⟩ := exec_store_of_ready hu ho hp h
  refine ⟨t, he, fun hempty => ?_, fun x hfull => ?_⟩
  · obtain ⟨hflags, hc1, hmasked, hunmasked⟩ := storeTop_of_empty (conv := storeConv u.format)
      (ind := formatIndefinite u.format) u.pops s.draws hempty
    rw [hnpx]
    refine ⟨hflags, hc1, fun him => ?_, fun him => ?_⟩
    · obtain ⟨hbits, hpop⟩ := hmasked him
      exact ⟨hpop, hread _ hbits (formatIndefinite_lt hbytes)⟩
    · obtain ⟨hbits, hstack⟩ := hunmasked him
      exact ⟨hstack, hmem hbits⟩
  · obtain ⟨hbits, hflags, hc1, hsome, hnone⟩ := storeTop_of_full (conv := storeConv u.format)
      (ind := formatIndefinite u.format) u.pops s.draws hfull
    rw [hnpx]
    exact ⟨hflags, hc1, fun v hv => ⟨hread v (hbits.trans hv) (storeConv_lt hbytes hv), hsome v hv⟩,
      fun hv => ⟨hmem (hbits.trans hv), hnone hv⟩⟩

end Sys2Proof.Machine
end

section
/-! The comparisons (R230 to R239): the response each of them makes to its operands, and the condition code and pops
that follow it (R39, R171). -/

namespace Sys2Proof.Machine

/-! ### What a comparison leaves -/

section
variable {n m : Npx} {l : List Exc} {fault : Bool} {k : Nat} {o : Order} {completes : Bool} {e : Exc}

@[simp] theorem Npx.flag_setOrder : (n.setOrder o).sw.flag e = n.sw.flag e := by
  cases e <;> simp [StatusWord.flag]

@[simp] theorem Npx.code_setOrder : (n.setOrder o).sw.code = o.code := by
  cases o <;> rfl

@[simp] theorem Npx.pops_code : (Npx.pops k n).sw.code = n.sw.code := by
  rw [Npx.pops_sw]
  rfl

theorem Npx.SameStack.setOrder (h : n.SameStack m) (o : Order) : n.SameStack (m.setOrder o) := by
  simpa [Npx.SameStack] using h

theorem Npx.SameStack.popped_pops (h : n.SameStack m) (k : Nat) : n.Popped (Npx.pops k m) k := by
  obtain ⟨hregs, hempty, htop⟩ := h
  simpa only [Npx.Popped, Npx.amongTop, Npx.isEmpty, hregs, hempty, htop] using m.popped_pops k

/-- The exceptions `l` are signaled, and C1 is 0; nothing else changes. -/
structure Npx.Signaled (n m : Npx) (l : List Exc) (fault : Bool) : Prop where
  flagged : n.Flagged m l fault
  c1 : m.sw.c1 = false
  sameStack : n.SameStack m
  code : m.sw.code = n.sw.code

theorem Npx.signaled_setC1 (n : Npx) : n.Signaled (n.setC1 false) [] false :=
  ⟨n.flagged_setC1 false, rfl, ⟨rfl, rfl, rfl⟩, rfl⟩

theorem Npx.signaled_signal (n : Npx) (e : Exc) : n.Signaled ((n.setC1 false).signal e) [e] false where
  flagged := by simp [Npx.Flagged]
  c1 := by simp
  sameStack := by simp [Npx.SameStack]
  code := by simp [StatusWord.code]

theorem Npx.signaled_stackFault (n : Npx) : n.Signaled (n.stackFault false) [.ie] true :=
  ⟨n.flagged_stackFault false, rfl, ⟨rfl, rfl, rfl⟩, rfl⟩

/-- The response of a comparison of outcome `o`: the exceptions `l` are signaled and C1 is 0; then, if it `completes`,
the condition code is that of `o` and `k` registers are popped; otherwise the code and the stack stay (R169, R230). -/
structure Npx.Compared (n m : Npx) (l : List Exc) (fault : Bool) (k : Nat) (o : Order) (completes : Bool) : Prop where
  flagged : n.Flagged m l fault
  c1 : m.sw.c1 = false
  completed : completes = true → n.Popped m k ∧ m.sw.code = o.code
  stopped : completes = false → n.SameStack m ∧ m.sw.code = n.sw.code

/-- A response made of the signals, then the code and the pops. -/
theorem Npx.Signaled.compared (h : n.Signaled m l fault) (k : Nat) (o : Order) (completes : Bool) :
    n.Compared (if completes then Npx.pops k (m.setOrder o) else m) l fault k o completes := by
  cases completes with
  | true =>
    obtain ⟨⟨hflag, hsf, hcw⟩, hc1, hstack, -⟩ := h
    refine ⟨⟨fun e => ?_, ?_, ?_⟩, ?_, fun _ => ⟨(hstack.setOrder o).popped_pops k, ?_⟩, nofun⟩
    · simp [hflag]
    · simp [hsf]
    · simp [hcw]
    · simp [hc1]
    · simp
  | false => exact ⟨h.flagged, h.c1, nofun, fun _ => ⟨h.sameStack, h.code⟩⟩

end

/-! ### `cmp(a, b, unordered_quiet)` (R230) -/

section
variable (n : Npx) (quietNan : Bool) (k : Nat)

/-- An empty register (R173). -/
theorem compareOperands_of_empty {a b : Option Opnd} (h : a = none ∨ b = none) :
    n.Compared (compareOperands quietNan k a b n) [.ie] true k .unordered (n.masked .ie) := by
  have hrule : compareOperands quietNan k a b n =
      if n.masked .ie then Npx.pops k ((n.stackFault false).setOrder .unordered) else n.stackFault false := by
    rcases h with rfl | rfl
    · rfl
    · cases a <;> rfl
  rw [hrule]
  exact n.signaled_stackFault.compared k .unordered _

variable {a b : Opnd}

/-- An operand that is invalid by itself, or a quiet NaN where the instruction does not allow one (R162). -/
theorem compareOperands_of_invalid (h : (a.isInvalid || b.isInvalid || (!quietNan && (a.isNan || b.isNan))) = true) :
    n.Compared (compareOperands quietNan k (some a) (some b) n) [.ie] false k .unordered (n.masked .ie) := by
  simpa only [compareOperands, if_pos h, Npx.setC1_masked]
    using (n.signaled_signal .ie).compared k .unordered (n.masked .ie)

section
variable (h : (a.isInvalid || b.isInvalid || (!quietNan && (a.isNan || b.isNan))) = false)
include h

/-- A quiet NaN where the instruction allows one. -/
theorem compareOperands_of_nan (hnan : (a.isNan || b.isNan) = true) :
    n.Compared (compareOperands quietNan k (some a) (some b) n) [] false k .unordered true := by
  simpa only [compareOperands, if_neg (Bool.eq_false_iff.mp h), if_pos hnan, if_true]
    using n.signaled_setC1.compared k .unordered true

/-- Operands that have an order, with the response to a denormal (R164). -/
theorem compareOperands_of_ordered (hnan : (a.isNan || b.isNan) = false) :
    n.Compared (compareOperands quietNan k (some a) (some b) n) (denormalFlag a b) false k (compareOpnd a b)
      (n.denormalOk a b) := by
  simp only [compareOperands, if_neg (Bool.eq_false_iff.mp h), if_neg (Bool.eq_false_iff.mp hnan), denormalFlag,
    Npx.denormalOk, Npx.setC1_masked]
  cases a.cls == .denormal || b.cls == .denormal with
  | true => exact (n.signaled_signal .de).compared k _ (n.masked .de)
  | false => exact n.signaled_setC1.compared k _ true

end

/-- C1 is 0 after every comparison (R230). -/
theorem compareOperands_c1 (a b : Option Opnd) : (compareOperands quietNan k a b n).sw.c1 = false := by
  match a, b with
  | none, b => exact (compareOperands_of_empty n quietNan k (.inl rfl)).c1
  | some a, none => exact (compareOperands_of_empty n quietNan k (.inr rfl)).c1
  | some a, some b =>
    cases hinvalid : a.isInvalid || b.isInvalid || (!quietNan && (a.isNan || b.isNan)) with
    | true => exact (compareOperands_of_invalid n quietNan k hinvalid).c1
    | false =>
      cases hnan : a.isNan || b.isNan with
      | true => exact (compareOperands_of_nan n quietNan k hinvalid hnan).c1
      | false => exact (compareOperands_of_ordered n quietNan k hinvalid hnan).c1

end

/-! ### The instructions (R231 to R239) -/

/-- A comparison that is ready compares ST(0) with its operand. -/
theorem exec_compare_of_ready {i : Instr} {u : CompareUse} {s : State} (hu : i.compareUse = some u)
    (h : s.ready i = true) :
    ∃ t, exec i s = .next t ∧
      t.npx = compareOperands u.quiet u.pops (s.npx.stOpnd 0) (s.source i u.operand) s.npx := by
  cases i with
  | fcomSti | fcompSti | fcompp | ftst | fucomSti | fucompSti | fucompp =>
    cases hu
    exact exec_numReg_of_ready rfl rfl rfl h
  | fcomSingleReal | fcompSingleReal | fcomDoubleReal | fcompDoubleReal | ficomWordInteger | ficompWordInteger
  | ficomShortInteger | ficompShortInteger =>
    cases hu
    exact (exec_numLoad_of_ready rfl rfl ⟨fun _ => rfl, rfl, rfl, fun _ => rfl⟩ (by decide) h :)
  | _ => cases hu

/-- Settles O36: a comparison that is ready applies `compareOperands`, whose response is stated for each kind of
operands. -/
theorem comparisons : Obligations.Comparisons := by
  unfold Obligations.Comparisons
  intro i u s hu h
  obtain ⟨t, he, hnpx⟩ := exec_compare_of_ready hu h
  refine ⟨t, he, ?_⟩
  rw [hnpx]
  refine ⟨compareOperands_c1 .., fun hempty => ?_, fun a b ha hb => ?_⟩
  · have hresponse := compareOperands_of_empty s.npx u.quiet u.pops hempty
    exact ⟨hresponse.flagged, hresponse.completed, hresponse.stopped⟩
  · rw [ha, hb]
    refine ⟨fun hinvalid => ?_, fun hvalid hnan => ?_, fun hvalid hnan => ?_⟩
    · have hresponse := compareOperands_of_invalid s.npx u.quiet u.pops hinvalid
      exact ⟨hresponse.flagged, hresponse.completed, hresponse.stopped⟩
    · have hresponse := compareOperands_of_nan s.npx u.quiet u.pops hvalid hnan
      exact ⟨hresponse.flagged, hresponse.completed rfl⟩
    · have hresponse := compareOperands_of_ordered s.npx u.quiet u.pops hvalid hnan
      exact ⟨hresponse.flagged, hresponse.completed, hresponse.stopped⟩

end Sys2Proof.Machine
end

section
/-! The constant loads (R250 to R257): the image RC selects, and the push of it. -/

namespace Sys2Proof.Machine

/-! ### The image RC selects (R253 to R257) -/

section
variable {rc : RC} {x : Ext}

/-- A constant whose first discarded bit is 1 goes up under nearest and up only (R250). -/
theorem eq_byNearestUp {low high : Ext} (hhigh : rc = .nearest ∨ rc = .up → x = high)
    (hlow : ¬(rc = .nearest ∨ rc = .up) → x = low) : x = byNearestUp low high rc := by
  cases rc with
  | nearest => exact hhigh (.inl rfl)
  | up => exact hhigh (.inr rfl)
  | down | chop => exact hlow (by decide)

/-- log2(10) has its first discarded bit 0 and goes up under up only (R250, R254). -/
theorem eq_constL2t (hup : rc = .up → x = 0x4000D49A784BCD1B8AFF) (hlow : rc ≠ .up → x = 0x4000D49A784BCD1B8AFE) :
    x = constL2t rc := by
  cases rc with
  | up => exact hup rfl
  | nearest | down | chop => exact hlow (by decide)

end

/-! ### The push (R170, R250) -/

theorem pushRule_pushConstant (k : RC → Ext) (d : Nat) (n : Npx) : n.PushRule (pushConstant k d n) (k n.rc) [] :=
  n.pushRule_push (k n.rc)

/-- A constant load that is ready pushes the image of its constant under RC. -/
theorem exec_pushConstant_of_ready {i : Instr} {s : State} {pre : List Prefix} {grp : BitVec 3} {b2 : Byte}
    {k : RC → Ext} {x : Ext} (hx : x = k s.npx.rc) (runs : exec i s = s.numReg pre grp b2 (pushConstant k))
    (hi : i.isWait = false) (hw : i.waits s.params = true) (h : s.ready i = true) :
    ∃ t, exec i s = .next t ∧ s.npx.PushRule t.npx x [] := by
  obtain ⟨t, he, hnpx⟩ := exec_numReg_of_ready runs hi hw h
  refine ⟨t, he, ?_⟩
  rw [hnpx, hx]
  exact pushRule_pushConstant k _ _

/-- Settles O25: each constant load applies `pushConstant`, and the image stated for RC is the one it pushes. -/
theorem constantLoads : Obligations.ConstantLoads := by
  unfold Obligations.ConstantLoads
  intro i pre s x up hi h
  rcases hi with ⟨rfl, rfl⟩ | ⟨rfl, rfl⟩ | ⟨rfl, hhigh, hlow⟩ | ⟨rfl, hup, hlow⟩ | ⟨rfl, hhigh, hlow⟩ |
    ⟨rfl, hhigh, hlow⟩ | ⟨rfl, hhigh, hlow⟩
  · exact exec_pushConstant_of_ready (k := fun _ => extZero false) rfl rfl rfl rfl h
  · exact exec_pushConstant_of_ready (k := fun _ => extOne) rfl rfl rfl rfl h
  · exact exec_pushConstant_of_ready (eq_byNearestUp hhigh hlow) rfl rfl rfl h
  · exact exec_pushConstant_of_ready (eq_constL2t hup hlow) rfl rfl rfl h
  all_goals exact exec_pushConstant_of_ready (eq_byNearestUp hhigh hlow) rfl rfl rfl h

end Sys2Proof.Machine
end

section
/-! The operand checks of the numeric instructions (R161 to R164, R261, R300): the response to each kind of operands,
and what an instruction leaves that goes on after a denormal. -/

namespace Sys2Proof.Machine

/-! ### Responses in two stages -/

section
variable {n m m' : Npx} {l l' : List Exc} {fault fault' : Bool} {j : BitVec 3} {x y : Ext} {k : Nat} {e : Exc}
  {c1 : Bool}

theorem Npx.SameStack.trans (h : n.SameStack m) (h' : m.SameStack m') : n.SameStack m' := by
  obtain ⟨hregs, hempty, htop⟩ := h
  obtain ⟨hregs', hempty', htop'⟩ := h'
  exact ⟨hregs'.trans hregs, hempty'.trans hempty, htop'.trans htop⟩

theorem Npx.SameStack.wrote_iff (h : n.SameStack m) : m.Wrote m' j x k ↔ n.Wrote m' j x k := by
  obtain ⟨hregs, hempty, htop⟩ := h
  simp only [Npx.Wrote, Npx.amongTop, Npx.reg, Npx.isEmpty, hregs, hempty, htop]

theorem Npx.SameStack.wrotePushed_iff (h : n.SameStack m) : m.WrotePushed m' x y ↔ n.WrotePushed m' x y := by
  obtain ⟨hregs, hempty, htop⟩ := h
  simp only [Npx.WrotePushed, Npx.reg, Npx.isEmpty, hregs, hempty, htop]

theorem Npx.Flagged.trans (h : n.Flagged m l fault) (h' : m.Flagged m' l' fault') :
    n.Flagged m' (l ++ l') (fault || fault') := by
  obtain ⟨hflag, hsf, hcw⟩ := h
  obtain ⟨hflag', hsf', hcw'⟩ := h'
  refine ⟨fun e => ?_, ?_, hcw'.trans hcw⟩
  · rw [hflag', hflag, List.contains_append, Bool.or_assoc]
  · rw [hsf', hsf, Bool.or_assoc]

/-- Register `j` takes `x`, `k` registers are popped, the exceptions `l` are signaled, and C1 is `c1`. -/
def Npx.Answered (n m : Npx) (j : BitVec 3) (x : Ext) (k : Nat) (l : List Exc) (c1 : Bool) : Prop :=
  n.Wrote m j x k ∧ n.Flagged m l false ∧ m.sw.c1 = c1

/-- The response to an exception `e`: with it the exceptions `l` are signaled, and C1 is 0; masked, register `j` takes
`x` and `k` registers are popped; unmasked, the stack stays (R160, R162, R165). -/
def Npx.RespondedTo (n m : Npx) (e : Exc) (l : List Exc) (j : BitVec 3) (x : Ext) (k : Nat) : Prop :=
  n.Flagged m l false ∧ m.sw.c1 = false ∧ (n.masked e = true → n.Wrote m j x k) ∧ (n.masked e = false → n.SameStack m)

theorem Npx.Answered.after (hs : n.SameStack m) (hf : n.Flagged m l false) (h : m.Answered m' j x k l' c1) :
    n.Answered m' j x k (l ++ l') c1 := by
  obtain ⟨hw, hf', hc⟩ := h
  exact ⟨hs.wrote_iff.mp hw, hf.trans hf', hc⟩

theorem Npx.masked_of_flagged (h : n.Flagged m l fault) (e : Exc) : m.masked e = n.masked e := by
  obtain ⟨-, -, hcw⟩ := h
  cases e <;> simp only [Npx.masked, hcw]

theorem Npx.RespondedTo.after (hs : n.SameStack m) (hf : n.Flagged m l false) (h : m.RespondedTo m' e l' j x k) :
    n.RespondedTo m' e (l ++ l') j x k := by
  obtain ⟨hf', hc, hw, hstay⟩ := h
  rw [Npx.masked_of_flagged hf] at hw hstay
  exact ⟨hf.trans hf', hc, fun hm => hs.wrote_iff.mp (hw hm), fun hm => hs.trans (hstay hm)⟩

variable (n j x k)

theorem Npx.answered_exactInto : n.Answered (n.exactInto j k x) j x k [] false := n.exactInto_spec k x j

theorem Npx.sameStack_signalIf (c : Bool) (e : Exc) : n.SameStack (n.signalIf c e) := by
  simp [Npx.SameStack]

theorem Npx.flagged_signalIf (c : Bool) (e : Exc) : n.Flagged (n.signalIf c e) (if c then [e] else []) false := by
  simp [Npx.Flagged]

/-- The signals of a delivered result: its exceptions and C1 (R153, R166 to R168). -/
theorem Npx.flagged_flagDelivered (r : Delivered) : n.Flagged (n.flagDelivered r) r.exceptions false := by
  simp [Npx.Flagged, Npx.flagDelivered, Delivered.exceptions, Bool.or_assoc]

theorem Npx.answered_deliverInto (r : Delivered) : n.Answered (n.deliverInto j k r) j r.img k r.exceptions r.c1 := by
  have hs : n.SameStack (n.flagDelivered r) := by simp [Npx.SameStack, Npx.flagDelivered]
  obtain ⟨hflag, hsf, hcw⟩ := n.flagged_flagDelivered r
  refine ⟨hs.wrote_iff.mp (Npx.wrote_pops_setReg ..), ⟨fun e => ?_, ?_, ?_⟩, ?_⟩
  · simpa [Npx.deliverInto] using hflag e
  · simp [Npx.deliverInto, Npx.flagDelivered]
  · simp [Npx.deliverInto]
  · simp [Npx.deliverInto, Npx.flagDelivered]

/-- An exception is signaled; masked, its result is written. -/
theorem Npx.respondedTo_signal (e : Exc) :
    let n' := (n.signal e).setC1 false
    n.RespondedTo (if n'.masked e then Npx.pops k (n'.setReg j x) else n') e [e] j x k := by
  intro n'
  have hmasked : n'.masked e = n.masked e := by simp [n']
  obtain ⟨hstack, hflags, hc⟩ := n.stopped_signal e
  rw [hmasked]
  cases hm : n.masked e with
  | true =>
    refine ⟨?_, ?_, fun _ => hstack.wrote_iff.mp (n'.wrote_pops_setReg k x j), fun h => absurd (hm.symm.trans h) nofun⟩
    · simp [Npx.Flagged, n']
    · simp [n']
  | false => exact ⟨hflags, hc, fun h => absurd (hm.symm.trans h) nofun, fun _ => hstack⟩

theorem Npx.respondedTo_invalidInto : n.RespondedTo (n.invalidInto j k x) .ie [.ie] j x k :=
  n.respondedTo_signal j x k .ie

end

/-! ### The denormal operands (R164) -/

/-- DE is signaled when an operand is denormal. -/
def Npx.noteDenormal (n : Npx) (a b : Opnd) : Npx := n.signalIf (a.cls == .denormal || b.cls == .denormal) .de

section
variable (n : Npx) (a b : Opnd)

theorem Npx.sameStack_noteDenormal : n.SameStack (n.noteDenormal a b) := n.sameStack_signalIf _ _

theorem Npx.flagged_noteDenormal : n.Flagged (n.noteDenormal a b) (denormalFlag a b) false := n.flagged_signalIf _ _

@[simp] theorem Npx.noteDenormal_masked (e : Exc) : (n.noteDenormal a b).masked e = n.masked e :=
  n.signalIf_masked _ _ _

@[simp] theorem Npx.noteDenormal_rc : (n.noteDenormal a b).rc = n.rc := n.signalIf_rc _ _

@[simp] theorem Npx.noteDenormal_precision : (n.noteDenormal a b).precision = n.precision := n.signalIf_precision _ _

@[simp] theorem Npx.noteDenormal_phys (i : StIndex) : (n.noteDenormal a b).phys i = n.phys i := by
  simp [Npx.phys, Npx.noteDenormal]

theorem denormalFlag_of_normal {a b : Opnd} (ha : a.cls ≠ .denormal) (hb : b.cls ≠ .denormal) :
    denormalFlag a b = [] := by
  simp [denormalFlag, ha, hb]

theorem Npx.denormalOk_eq_false_iff {n : Npx} {a b : Opnd} :
    n.denormalOk a b = false ↔ (a.cls = .denormal ∨ b.cls = .denormal) ∧ n.masked .de = false := by
  simp only [Npx.denormalOk, Bool.or_eq_false_iff, Bool.not_eq_false', Bool.or_eq_true, beq_iff_eq]

theorem Npx.denormalOk_of_normal {n : Npx} {a b : Opnd} (ha : a.cls ≠ .denormal) (hb : b.cls ≠ .denormal) :
    n.denormalOk a b = true := by
  simp [Npx.denormalOk, ha, hb]

end

/-! ### The checks in their order (R161, R261, R300) -/

theorem Opnd.not_nan_of_ordinary {a : Opnd} (h : a.ordinary = true) : a.isInvalid = false ∧ a.isNan = false := by
  unfold Opnd.ordinary Opnd.finite at h
  unfold Opnd.isInvalid Opnd.isNan
  cases hc : a.cls <;> simp_all

section
variable (n : Npx) {a b : Opnd} {invalid : Bool} (j : BitVec 3) (k : Nat) (f : Npx → Npx)

theorem Npx.checked_of_invalid (h : a.isInvalid = true ∨ b.isInvalid = true) :
    n.checked a b invalid j k f = n.invalidInto j k (nanResult a b) := by
  rw [Npx.checked, if_pos (by simpa using h)]

theorem Npx.checked_of_nan (ha : a.isInvalid = false) (hb : b.isInvalid = false) (h : a.isNan = true ∨ b.isNan = true) :
    n.checked a b invalid j k f = n.exactInto j k (nanResult a b) := by
  rw [Npx.checked, if_neg (by simp [ha, hb]), if_pos (by simpa using h)]

variable (ha : a.ordinary = true) (hb : b.ordinary = true)
include ha hb

theorem Npx.checked_of_ordinary : n.checked a b invalid j k f =
    if invalid then n.invalidInto j k indefinite
    else if n.denormalOk a b then f (n.noteDenormal a b)
    else (n.signal .de).setC1 false := by
  obtain ⟨hia, hna⟩ := Opnd.not_nan_of_ordinary ha
  obtain ⟨hib, hnb⟩ := Opnd.not_nan_of_ordinary hb
  rw [Npx.checked, if_neg (by simp [hia, hib]), if_neg (by simp [hna, hnb]), Npx.denormalOk, Npx.noteDenormal]
  cases a.cls == .denormal || b.cls == .denormal with
  | true => cases n.masked .de <;> rfl
  | false => rfl

theorem Npx.checked_of_invalidPair (h : invalid = true) :
    n.checked a b invalid j k f = n.invalidInto j k indefinite := by
  rw [n.checked_of_ordinary j k f ha hb, if_pos h]

variable (h : invalid = false)
include h

theorem Npx.checked_of_denormal (hden : n.denormalOk a b = false) :
    n.checked a b invalid j k f = (n.signal .de).setC1 false := by
  rw [n.checked_of_ordinary j k f ha hb, if_neg (by simp [h]), if_neg (by simp [hden])]

theorem Npx.checked_of_ok (hden : n.denormalOk a b = true) :
    n.checked a b invalid j k f = f (n.noteDenormal a b) := by
  rw [n.checked_of_ordinary j k f ha hb, if_neg (by simp [h]), if_pos hden]

end

/-! ### Rules that check their operands first -/

section
variable (n : Npx) {m : Npx} (d : Nat) {l : List Exc} {e : Exc} {j : BitVec 3} {x : Ext} {k : Nat} {c1 : Bool}

-- The condition bits an instruction leaves undefined do not matter (R37).
@[simp] theorem Npx.answered_drawC320 : n.Answered (m.drawC320 d) j x k l c1 ↔ n.Answered m j x k l c1 := Iff.rfl
@[simp] theorem Npx.respondedTo_drawC320 : n.RespondedTo (m.drawC320 d) e l j x k ↔ n.RespondedTo m e l j x k := Iff.rfl
@[simp] theorem Npx.underflowRule_drawC320 : n.UnderflowRule (m.drawC320 d) j k ↔ n.UnderflowRule m j k := Iff.rfl

end

/-- `m` is what a rule leaves that checks its operands `a` and `b` in the order of R161, an empty register first, and
then computes by `g`; `invalid` are the pairs of operands that it finds invalid. C3, C2 and C0 are undefined. -/
structure Npx.CheckedRule (n m : Npx) (a b : Option Opnd) (invalid : Opnd → Opnd → Bool) (j : BitVec 3) (k d : Nat)
    (g : Opnd → Opnd → Npx → Npx) : Prop where
  empty : a = none ∨ b = none → m = (n.underflowInto j k).drawC320 d
  full : ∀ x y, a = some x → b = some y → m = (n.checked x y (invalid x y) j k (g x y)).drawC320 d

section
variable {n m : Npx} {oa ob : Option Opnd} {invalid : Opnd → Opnd → Bool} {j : BitVec 3} {k d : Nat}
  {g : Opnd → Opnd → Npx → Npx} (hm : n.CheckedRule m oa ob invalid j k d g)
include hm

theorem Npx.CheckedRule.of_empty (h : oa = none ∨ ob = none) : n.UnderflowRule m j k := by
  rw [hm.empty h, Npx.underflowRule_drawC320]
  exact n.underflowRule_underflowInto ..

variable {a b : Opnd} (ha : oa = some a) (hb : ob = some b)
include ha hb

theorem Npx.CheckedRule.of_invalid (h : a.isInvalid = true ∨ b.isInvalid = true) :
    n.RespondedTo m .ie [.ie] j (nanResult a b) k := by
  rw [hm.full a b ha hb, n.checked_of_invalid _ _ _ h, Npx.respondedTo_drawC320]
  exact n.respondedTo_invalidInto ..

theorem Npx.CheckedRule.of_nan (hia : a.isInvalid = false) (hib : b.isInvalid = false)
    (h : a.isNan = true ∨ b.isNan = true) : n.Answered m j (nanResult a b) k [] false := by
  rw [hm.full a b ha hb, n.checked_of_nan _ _ _ hia hib h, Npx.answered_drawC320]
  exact n.answered_exactInto ..

variable (hoa : a.ordinary = true) (hob : b.ordinary = true)
include hoa hob

theorem Npx.CheckedRule.of_invalidPair (h : invalid a b = true) : n.RespondedTo m .ie [.ie] j indefinite k := by
  rw [hm.full a b ha hb, n.checked_of_invalidPair _ _ _ hoa hob h, Npx.respondedTo_drawC320]
  exact n.respondedTo_invalidInto ..

variable (h : invalid a b = false)
include h

theorem Npx.CheckedRule.of_denormal (hden : n.denormalOk a b = false) : n.Stopped m [.de] := by
  rw [hm.full a b ha hb, n.checked_of_denormal _ _ _ hoa hob h hden, Npx.stopped_drawC320]
  exact n.stopped_signal .de

variable (hden : n.denormalOk a b = true)
include hden

theorem Npx.CheckedRule.of_ok : m = (g a b (n.noteDenormal a b)).drawC320 d := by
  rw [hm.full a b ha hb, n.checked_of_ok _ _ _ hoa hob h hden]

/-- A rule that computes gives the answer of its computation, and DE for a denormal operand. -/
theorem Npx.CheckedRule.answered {x : Ext} {l : List Exc} {c1 : Bool}
    (hg : (n.noteDenormal a b).Answered (g a b (n.noteDenormal a b)) j x k l c1) :
    n.Answered m j x k (denormalFlag a b ++ l) c1 := by
  rw [hm.of_ok ha hb hoa hob h hden, Npx.answered_drawC320]
  exact .after (n.sameStack_noteDenormal a b) (n.flagged_noteDenormal a b) hg

/-- An exact result, with no exception but DE. -/
theorem Npx.CheckedRule.answered_exact {x : Ext} {c1 : Bool}
    (hg : (n.noteDenormal a b).Answered (g a b (n.noteDenormal a b)) j x k [] c1) :
    n.Answered m j x k (denormalFlag a b) c1 := by
  simpa only [List.append_nil] using hm.answered ha hb hoa hob h hden hg

theorem Npx.CheckedRule.respondedTo {x : Ext} {e : Exc} {l : List Exc}
    (hg : (n.noteDenormal a b).RespondedTo (g a b (n.noteDenormal a b)) e l j x k) :
    n.RespondedTo m e (denormalFlag a b ++ l) j x k := by
  rw [hm.of_ok ha hb hoa hob h hden, Npx.respondedTo_drawC320]
  exact .after (n.sameStack_noteDenormal a b) (n.flagged_noteDenormal a b) hg

end

end Sys2Proof.Machine
end

section
/-! Add, subtract, multiply and divide (R261 to R279): the checks, the special results, and the exact result. -/

namespace Sys2Proof.Machine

/-! ### Operands of the arithmetic instructions -/

/-- The class of an operand agrees with its image: an infinity and a zero have the one image of their sign, and a number
the image of a number. -/
structure Opnd.Proper (a : Opnd) : Prop where
  infinity : a.cls = .infinity → a.img = extInf (extSign a.img)
  zero : a.cls = .zero → a.img = extZero (extSign a.img)
  nonzero : a.nonzero = true → classOf a.img = .normal ∨ classOf a.img = .denormal

theorem mkExt_fields (x : Ext) : mkExt (extSign x) (extExp x) (extSig x) = x := by
  apply BitVec.eq_of_getLsbD_eq
  intro i hi
  simp only [mkExt, extSign, extExp, extSig, BitVec.getLsbD_append, BitVec.getLsbD_extractLsb', BitVec.getLsbD_ofBool]
  split
  · simp [*]
  · split
    · rw [Nat.add_sub_cancel' (by omega)]
      simp [*]
    · have hi79 : i = 79 := by omega
      simp [hi79]

theorem eq_extZero_of_classOf {x : Ext} (h : classOf x = .zero) : x = extZero (extSign x) := by
  have hfields : (extExp x).toNat = 0 ∧ extSig x = 0 := by grind [classOf]
  obtain ⟨he, hm⟩ := hfields
  rw [extZero, ← hm, ← show extExp x = 0 from BitVec.eq_of_toNat_eq he, mkExt_fields]

theorem eq_extInf_of_classOf {x : Ext} (h : classOf x = .infinity) : x = extInf (extSign x) := by
  have hfields : ¬(extExp x).toNat < 0x7FFF ∧ (extSig x).getLsbD 63 = true ∧ (extSig x).extractLsb' 0 63 = 0 := by
    grind [classOf]
  obtain ⟨he, h63, hlow⟩ := hfields
  have hexp : extExp x = 0x7FFF := by
    have hlt := (extExp x).isLt
    exact BitVec.eq_of_toNat_eq (show _ = 32767 by omega)
  have hsig : extSig x = 0x8000000000000000 := by
    have hlow' : (extSig x).toNat % 2 ^ 63 = 0 := by
      rw [← Nat.shiftRight_zero (n := (extSig x).toNat), ← BitVec.extractLsb'_toNat, hlow]
      rfl
    rw [getLsbD_63_iff] at h63
    have hlt := (extSig x).isLt
    exact BitVec.eq_of_toNat_eq (show _ = 2 ^ 63 by omega)
  rw [extInf, ← hsig, ← hexp, mkExt_fields]

theorem proper_opndOf (x : Ext) : (opndOf x).Proper where
  infinity := eq_extInf_of_classOf
  zero := eq_extZero_of_classOf
  nonzero h := by simpa [Opnd.nonzero, opndOf, or_comm] using h

theorem proper_opnd {f : Fmt} (hf : f = single ∨ f = double) (v : Nat) : (f.opnd v).Proper where
  infinity h := by
    have h' : f.memClass v = .infinity := h
    simp [Fmt.opnd, Fmt.widen, h', extInf]
  zero h := by
    have h' : f.memClass v = .zero := h
    simp [Fmt.opnd, Fmt.widen, h', extZero]
  nonzero h := by
    have hb := Fmt.binary_of_real hf
    have h' : f.memClass v = .denormal ∨ f.memClass v = .normal := by simpa [Opnd.nonzero, Fmt.opnd] using h
    rcases h' with h' | h'
    · exact .inl (Fmt.widen_denormal hb h').1
    · exact .inl (Fmt.widen_normal hb h').1

theorem proper_of_stOpnd {n : Npx} {i : StIndex} {a : Opnd} (h : n.stOpnd i = some a) : a.Proper := by
  obtain ⟨x, -, rfl⟩ := Option.map_eq_some_iff.mp h
  exact proper_opndOf x

/-- The sources of the operands of arithmetic instructions. -/
inductive NumericSource : Source → Prop
  | st (k : StIndex) : NumericSource (.st k)
  | single : NumericSource (.real single)
  | double : NumericSource (.real double)
  | int (bits : Nat) : NumericSource (.int bits)

theorem proper_of_source {i : Instr} {s : State} {r : Source} {a : Opnd} (hr : NumericSource r)
    (h : s.source i r = some a) : a.Proper := by
  cases hr with
  | st k => exact proper_of_stOpnd h
  | single => cases h; exact proper_opnd (.inl rfl) _
  | double => cases h; exact proper_opnd (.inr rfl) _
  | int bits => cases h; exact proper_opndOf _

/-- An arithmetic instruction that is ready applies `arith` to its operands; their sources are numeric. -/
theorem exec_arith_of_ready {i : Instr} {u : ArithUse} {s : State} (hu : i.arithUse = some u) (h : s.ready i = true) :
    NumericSource u.left ∧ NumericSource u.right ∧ ∃ t, exec i s = .next t ∧
      t.npx = arith u.op (s.source i u.left) (s.source i u.right) (s.npx.phys u.dst) u.pops s.draws s.npx := by
  cases i with
  | faddStSti | fmulStSti | fsubStSti | fsubrStSti | fdivStSti | fdivrStSti | faddStiSt | fmulStiSt | fsubStiSt
  | fsubrStiSt | fdivStiSt | fdivrStiSt | faddpStiSt | fmulpStiSt | fsubpStiSt | fsubrpStiSt | fdivpStiSt
  | fdivrpStiSt =>
    cases hu
    exact ⟨.st _, .st _, exec_numReg_of_ready rfl rfl rfl h⟩
  | faddSingleReal | fmulSingleReal | fsubSingleReal | fsubrSingleReal | fdivSingleReal | fdivrSingleReal
  | faddDoubleReal | fmulDoubleReal | fsubDoubleReal | fsubrDoubleReal | fdivDoubleReal | fdivrDoubleReal
  | fiaddShortInteger | fimulShortInteger | fisubShortInteger | fisubrShortInteger | fidivShortInteger
  | fidivrShortInteger | fiaddWordInteger | fimulWordInteger | fisubWordInteger | fisubrWordInteger
  | fidivWordInteger | fidivrWordInteger =>
    cases hu
    exact ⟨by constructor, by constructor,
      (exec_numLoad_of_ready rfl rfl ⟨fun _ => rfl, rfl, rfl, fun _ => rfl⟩ (by decide) h :)⟩
  | _ => cases hu

/-! ### The checks (R261, steps 1 to 5) -/

theorem checkedRule_arith (op : ArithOp) (a b : Option Opnd) (j : BitVec 3) (k d : Nat) (n : Npx) :
    n.CheckedRule (arith op a b j k d n) a b (invalidPair op) j k d fun x y => arithFinite op x y j k d where
  empty h := by
    unfold arith
    split
    · simp at h
    · rfl
  full x y hx hy := by rw [hx, hy]; rfl

/-- `invalidPair` finds the pairs that are invalid. -/
theorem invalidPair_iff (op : ArithOp) (a b : Opnd) : invalidPair op a b = true ↔ InvalidPair op a b := by
  constructor
  · intro h
    cases op with
    | add =>
      obtain ⟨⟨ha, hb⟩, hs⟩ : (a.cls = .infinity ∧ b.cls = .infinity) ∧ extSign a.img ≠ extSign b.img := by
        simpa [invalidPair, Opnd.isInf, signXor, Opnd.neg] using h
      exact .sum a b ha hb hs
    | sub =>
      obtain ⟨⟨ha, hb⟩, hs⟩ : (a.cls = .infinity ∧ b.cls = .infinity) ∧ extSign a.img = extSign b.img := by
        simpa [invalidPair, Opnd.isInf, signXor, Opnd.neg] using h
      exact .difference a b ha hb hs
    | mul =>
      obtain ⟨ha, hb⟩ | ⟨ha, hb⟩ : a.cls = .zero ∧ b.cls = .infinity ∨ a.cls = .infinity ∧ b.cls = .zero := by
        simpa [invalidPair, Opnd.isInf, Opnd.isZero] using h
      · exact .zeroTimes a b ha hb
      · exact .timesZero a b ha hb
    | div =>
      obtain ⟨ha, hb⟩ | ⟨ha, hb⟩ : a.cls = .zero ∧ b.cls = .zero ∨ a.cls = .infinity ∧ b.cls = .infinity := by
        simpa [invalidPair, Opnd.isInf, Opnd.isZero] using h
      · exact .zeroByZero a b ha hb
      · exact .infinityByInfinity a b ha hb
  · rintro (⟨_, _, ha, hb, hs⟩ | ⟨_, _, ha, hb, hs⟩ | ⟨_, _, ha, hb⟩ | ⟨_, _, ha, hb⟩ | ⟨_, _, ha, hb⟩ | ⟨_, _, ha, hb⟩)
    all_goals simp_all [invalidPair, Opnd.isInf, Opnd.isZero, signXor, Opnd.neg]

theorem InvalidPair.ordinary {op : ArithOp} {a b : Opnd} (h : InvalidPair op a b) :
    a.ordinary = true ∧ b.ordinary = true := by
  cases h <;> simp_all [Opnd.ordinary, Opnd.finite]

theorem Opnd.ordinary_of_finite {a : Opnd} (h : a.finite = true) : a.ordinary = true := ((Opnd.finite_iff a).mp h).1

theorem Opnd.ordinary_of_nonzero {a : Opnd} (h : a.nonzero = true) : a.ordinary = true := by
  unfold Opnd.nonzero at h
  unfold Opnd.ordinary Opnd.finite
  cases hc : a.cls <;> simp_all

theorem Opnd.cls_of_nonzero {a : Opnd} (h : a.nonzero = true) : a.cls ≠ .zero ∧ a.cls ≠ .infinity := by
  unfold Opnd.nonzero at h
  constructor <;> intro hc <;> simp [hc] at h

theorem Opnd.finite_of_zero {a : Opnd} (h : a.cls = .zero) : a.finite = true := by
  simp [Opnd.finite, h]

theorem Opnd.ordinary_of_zero {a : Opnd} (h : a.cls = .zero) : a.ordinary = true :=
  Opnd.ordinary_of_finite (Opnd.finite_of_zero h)

section
variable {op : ArithOp} {a b : Opnd} (j : BitVec 3) (k d : Nat) (n : Npx)

/-- A number divided by zero (R165, R261). -/
theorem arithFinite_div_zero (ha : a.cls ≠ .infinity) (hb : b.cls = .zero) :
    n.RespondedTo (arithFinite .div a b j k d n) .ze [.ze] j (extInf (extSign a.img ^^ extSign b.img)) k := by
  rw [arithFinite, if_pos (by simp [Opnd.isZero, Opnd.isInf, ha, hb])]
  exact n.respondedTo_signal ..

section
variable (h : op = .div → b.cls = .zero → a.cls = .infinity)
include h

/-- A special result (R261, step 6). -/
theorem arithFinite_special {x : Ext} (hx : specialResult op n.rc a b = some x) :
    arithFinite op a b j k d n = n.exactInto j k x := by
  rw [arithFinite, if_neg (by simpa [Opnd.isZero, Opnd.isInf] using h)]
  simp only [hx]

variable (hx : specialResult op n.rc a b = none)
include hx

/-- A sum or difference that is zero (R261, step 7). -/
theorem arithFinite_zero (hv : (exactResult op (valOf a.img) (valOf b.img)).zero = true) :
    arithFinite op a b j k d n = n.exactInto j k (extZero (n.rc == .down)) := by
  rw [arithFinite, if_neg (by simpa [Opnd.isZero, Opnd.isInf] using h)]
  simp only [hx, hv, if_true]

/-- A result that is rounded (R261, step 7). -/
theorem arithFinite_deliver (hv : (exactResult op (valOf a.img) (valOf b.img)).zero = false) :
    arithFinite op a b j k d n = n.deliverInto j k (n.deliverPc (exactResult op (valOf a.img) (valOf b.img)).neg
      (exactResult op (valOf a.img) (valOf b.img)).mag d) := by
  rw [arithFinite, if_neg (by simpa [Opnd.isZero, Opnd.isInf] using h)]
  simp only [hx, hv, if_neg Bool.false_ne_true]

end

end

/-- Settles O41: an arithmetic instruction that is ready applies `arith`, which checks its operands by `Npx.checked` and
then divides by zero in its first branch. -/
theorem arithmeticChecks : Obligations.ArithmeticChecks := by
  unfold Obligations.ArithmeticChecks
  intro i u s hu h
  obtain ⟨-, -, t, he, hnpx⟩ := exec_arith_of_ready hu h
  have hrule := checkedRule_arith u.op (s.source i u.left) (s.source i u.right) (s.npx.phys u.dst) u.pops s.draws s.npx
  rw [← hnpx] at hrule
  refine ⟨t, he, hrule.of_empty, fun a b ha hb => ⟨hrule.of_invalid ha hb, hrule.of_nan ha hb, fun hpair => ?_,
    fun hoa hob hpair => ?_, fun hop hna hzb hden => ?_⟩⟩
  · obtain ⟨hoa, hob⟩ := hpair.ordinary
    exact hrule.of_invalidPair ha hb hoa hob ((invalidPair_iff _ _ _).mpr hpair)
  · exact hrule.of_denormal ha hb hoa hob (by rwa [← Bool.not_eq_true, invalidPair_iff])
  · have hfinite := Opnd.cls_of_nonzero hna
    have hvalid : invalidPair u.op a b = false := by
      simp [hop, invalidPair, Opnd.isZero, Opnd.isInf, hfinite]
    refine hrule.respondedTo ha hb (Opnd.ordinary_of_nonzero hna) (Opnd.ordinary_of_zero hzb) hvalid hden ?_
    rw [hop]
    exact arithFinite_div_zero _ _ _ _ hfinite.2 hzb

end Sys2Proof.Machine
end

section
/-! Add, subtract, multiply and divide (R261 to R279): the special results and the exact result. -/

namespace Sys2Proof.Machine

/-! ### Infinities and zeros (R261, step 6) -/

@[simp] theorem extSign_extNeg (x : Ext) : extSign (extNeg x) = !extSign x := by
  simp [extSign, extNeg]

theorem extNeg_extInf (s : Bool) : extNeg (extInf s) = extInf (!s) := by
  cases s <;> decide

/-- The special sums, with an operand `c` of the class of `b` and of the sign `sb` (R261). -/
theorem sumSpecial_of_specialSum {rc : RC} {a b c : Opnd} {sb : Bool} {x : Ext} (h : SpecialSum rc a b sb x)
    (ha : a.cls = .infinity → a.img = extInf (extSign a.img)) (hcls : c.cls = b.cls) (hsign : extSign c.img = sb)
    (hc : c.cls = .infinity → c.img = extInf sb) : sumSpecial rc a c = some x := by
  cases h with
  | infinityLeft hinf _ => simp [sumSpecial, Opnd.isInf, hinf, ← ha hinf]
  | infinityRight hfin hinf =>
    simp [sumSpecial, Opnd.isInf, hcls, hinf, hc (hcls.trans hinf), ((Opnd.finite_iff a).mp hfin).2]
  | infinities hinf _ hs => simp [sumSpecial, Opnd.isInf, hinf, ← hs, ← ha hinf]
  | sameZeros hz hz' hs => simp [sumSpecial, Opnd.isInf, Opnd.isZero, hcls, hz, hz', signXor, Opnd.neg, hs, hsign]
  | otherZeros hz hz' hs =>
    simp [sumSpecial, Opnd.isInf, Opnd.isZero, hcls, hz, hz', signXor, Opnd.neg, hs, hsign, beq_eq_decide]

/-- Operands with a special result are ordinary, no invalid pair, and no division of a number by zero. -/
structure PassesChecks (op : ArithOp) (a b : Opnd) : Prop where
  left : a.ordinary = true
  right : b.ordinary = true
  valid : invalidPair op a b = false
  notDivZero : op = .div → b.cls = .zero → a.cls = .infinity

theorem passesChecks_of_specialSum {rc : RC} {a b : Opnd} {sb : Bool} {x : Ext} (h : SpecialSum rc a b sb x) :
    a.ordinary = true ∧ b.ordinary = true ∧ (a.cls = .infinity → b.cls = .infinity → extSign a.img = sb) := by
  cases h with
  | infinityLeft hinf hfin =>
    obtain ⟨hb, hne⟩ := (Opnd.finite_iff b).mp hfin
    exact ⟨Opnd.ordinary_of_infinity hinf, hb, fun _ h => absurd h hne⟩
  | infinityRight hfin hinf =>
    obtain ⟨ha, hne⟩ := (Opnd.finite_iff a).mp hfin
    exact ⟨ha, Opnd.ordinary_of_infinity hinf, fun h => absurd h hne⟩
  | infinities ha hb hs => exact ⟨Opnd.ordinary_of_infinity ha, Opnd.ordinary_of_infinity hb, fun _ _ => hs⟩
  | sameZeros ha hb hs => exact ⟨Opnd.ordinary_of_zero ha, Opnd.ordinary_of_zero hb, fun _ _ => hs⟩
  | otherZeros ha hb _ => exact ⟨Opnd.ordinary_of_zero ha, Opnd.ordinary_of_zero hb, fun h => by simp [ha] at h⟩

theorem passesChecks_of_specialResult {rc : RC} {a b : Opnd} {op : ArithOp} {x : Ext} (h : SpecialResult rc a b op x) :
    PassesChecks op a b := by
  cases h with
  | sum x h =>
    obtain ⟨ha, hb, hs⟩ := passesChecks_of_specialSum h
    refine ⟨ha, hb, ?_, nofun⟩
    simpa [invalidPair, Opnd.isInf, signXor, Opnd.neg] using hs
  | difference x h =>
    obtain ⟨ha, hb, hs⟩ := passesChecks_of_specialSum h
    refine ⟨ha, hb, ?_, nofun⟩
    simpa [invalidPair, Opnd.isInf, signXor, Opnd.neg, Bool.eq_not] using hs
  | infinityTimes hinf hb =>
    have hob : b.ordinary = true := hb.elim Opnd.ordinary_of_infinity Opnd.ordinary_of_nonzero
    have hz : b.cls ≠ .zero := hb.elim (fun h => by simp [h]) fun h => (Opnd.cls_of_nonzero h).1
    exact ⟨Opnd.ordinary_of_infinity hinf, hob, by simp [invalidPair, Opnd.isZero, hinf, hz], nofun⟩
  | timesInfinity hnz hinf =>
    refine ⟨Opnd.ordinary_of_nonzero hnz, Opnd.ordinary_of_infinity hinf, ?_, nofun⟩
    simp [invalidPair, Opnd.isZero, hinf, Opnd.cls_of_nonzero hnz]
  | zeroTimes hz hfin =>
    obtain ⟨hob, hinf⟩ := (Opnd.finite_iff b).mp hfin
    exact ⟨Opnd.ordinary_of_zero hz, hob, by simp [invalidPair, Opnd.isInf, hz, hinf], nofun⟩
  | timesZero hnz hz =>
    refine ⟨Opnd.ordinary_of_nonzero hnz, Opnd.ordinary_of_zero hz, ?_, nofun⟩
    simp [invalidPair, Opnd.isInf, hz, Opnd.cls_of_nonzero hnz]
  | infinityBy hinf hfin =>
    obtain ⟨hob, hne⟩ := (Opnd.finite_iff b).mp hfin
    refine ⟨Opnd.ordinary_of_infinity hinf, hob, ?_, fun _ _ => hinf⟩
    simp [invalidPair, Opnd.isInf, Opnd.isZero, hinf, hne]
  | byInfinity hfin hinf =>
    obtain ⟨hoa, hne⟩ := (Opnd.finite_iff a).mp hfin
    refine ⟨hoa, Opnd.ordinary_of_infinity hinf, ?_, fun _ h => by simp [hinf] at h⟩
    simp [invalidPair, Opnd.isInf, Opnd.isZero, hinf, hne]
  | zeroBy hz hnz =>
    refine ⟨Opnd.ordinary_of_zero hz, Opnd.ordinary_of_nonzero hnz, ?_, fun _ h => absurd h (Opnd.cls_of_nonzero hnz).1⟩
    simp [invalidPair, Opnd.isInf, Opnd.isZero, hz, Opnd.cls_of_nonzero hnz]

/-- The special results are those of R261. -/
theorem specialResult_of_spec {rc : RC} {a b : Opnd} {op : ArithOp} {x : Ext} (h : SpecialResult rc a b op x)
    (ha : a.Proper) (hb : b.Proper) : specialResult op rc a b = some x := by
  cases h with
  | sum x h => exact sumSpecial_of_specialSum h ha.infinity rfl rfl hb.infinity
  | difference x h =>
    refine sumSpecial_of_specialSum h ha.infinity rfl (extSign_extNeg _) fun hinf => ?_
    rw [Opnd.flip, hb.infinity hinf, extNeg_extInf]
    simp [extInf]
  | infinityTimes hinf _ => simp [specialResult, Opnd.isInf, hinf, signXor, Opnd.neg]
  | timesInfinity _ hinf => simp [specialResult, Opnd.isInf, hinf, signXor, Opnd.neg]
  | zeroTimes hz hfin =>
    simp [specialResult, Opnd.isInf, Opnd.isZero, hz, ((Opnd.finite_iff b).mp hfin).2, signXor, Opnd.neg]
  | timesZero hnz hz =>
    simp [specialResult, Opnd.isInf, Opnd.isZero, hz, Opnd.cls_of_nonzero hnz, signXor, Opnd.neg]
  | infinityBy hinf _ => simp [specialResult, Opnd.isInf, hinf, signXor, Opnd.neg]
  | byInfinity hfin hinf =>
    simp [specialResult, Opnd.isInf, hinf, ((Opnd.finite_iff a).mp hfin).2, signXor, Opnd.neg]
  | zeroBy hz hnz =>
    simp [specialResult, Opnd.isInf, Opnd.isZero, hz, signXor, Opnd.neg]

/-- Settles O42: the operands pass the checks, and `specialResult` answers. -/
theorem arithmeticSpecialResults : Obligations.ArithmeticSpecialResults := by
  unfold Obligations.ArithmeticSpecialResults
  intro i u s a b x hu h ha hb hden hx
  obtain ⟨hl, hr, t, he, hnpx⟩ := exec_arith_of_ready hu h
  obtain ⟨hoa, hob, hvalid, hdiv⟩ := passesChecks_of_specialResult hx
  have hspecial := specialResult_of_spec hx (proper_of_source hl ha) (proper_of_source hr hb)
  refine ⟨t, he, ?_⟩
  rw [hnpx]
  have hrule := checkedRule_arith u.op (s.source i u.left) (s.source i u.right) (s.npx.phys u.dst) u.pops s.draws s.npx
  have hanswer := hrule.answered_exact ha hb hoa hob hvalid hden (x := x) (c1 := false)
  rw [arithFinite_special _ _ _ _ hdiv (by rwa [Npx.noteDenormal_rc])] at hanswer
  exact hanswer (Npx.answered_exactInto ..)

/-! ### The exact result (R261, step 7) -/

theorem Val.real_neg (v : Val) : Val.real { v with neg := !v.neg } = -v.real := by
  cases h : v.neg <;> simp [Val.real, signOf, h]

theorem Val.abs_real (v : Val) : |v.real| = v.m * 2 ^ v.k := by
  rw [Val.real, abs_mul, abs_mul, signOf_abs, one_mul, Nat.abs_cast, abs_of_pos (by positivity)]

/-- What an exact result says of the real number `r`. -/
structure Exact.Is (e : Exact) (r : ℝ) : Prop where
  zero : e.zero = true ↔ r = 0
  neg : e.neg = true ↔ r < 0
  mag : e.mag.real = |r|

theorem exactSum_is (v w : Val) : (exactSum v w).Is (v.real + w.real) := by
  have hv := v.scaled_real (min_le_left v.k w.k)
  have hw := w.scaled_real (min_le_right v.k w.k)
  have hpos : (0 : ℝ) < 2 ^ min v.k w.k := by positivity
  have hsum : v.real + w.real = ((v.scaled (min v.k w.k) + w.scaled (min v.k w.k) : ℤ) : ℝ) * 2 ^ min v.k w.k := by
    rw [← hv, ← hw]; push_cast; ring
  rw [hsum]
  refine ⟨decide_eq_true_iff.trans ?_, decide_eq_true_iff.trans ?_, ?_⟩
  · rw [mul_eq_zero, or_iff_left hpos.ne', Int.cast_eq_zero]
    rfl
  · rw [mul_neg_iff, or_iff_right (fun h => hpos.not_gt h.2), and_iff_left hpos, Int.cast_lt_zero]
    rfl
  · simp only [exactSum, alignVals, Mag.real_ratio, Nat.cast_one, div_one, abs_mul, abs_of_pos hpos, Nat.cast_natAbs,
      Int.cast_abs]

theorem signOf_xor (a b : Bool) : signOf (a ^^ b) = signOf a * signOf b := by
  cases a <;> cases b <;> simp [signOf]

/-- A nonzero result of known sign and magnitude. -/
theorem exact_is_of_pos (neg : Bool) {x : Mag} (hx : 0 < x.real) : (Exact.mk neg x false).Is (signOf neg * x.real) := by
  refine ⟨?_, ?_, ?_⟩
  · cases neg <;> simp [signOf, hx.ne']
  · cases neg <;> simp [signOf, hx, hx.le]
  · rw [abs_mul, signOf_abs, one_mul, abs_of_pos hx]

theorem exactResult_is (op : ArithOp) {v w : Val} (h : op = .mul ∨ op = .div → v.m ≠ 0 ∧ w.m ≠ 0) :
    (exactResult op v w).Is (op.real v.real w.real) := by
  cases op with
  | add => exact exactSum_is v w
  | sub =>
    have hsum := exactSum_is v { w with neg := !w.neg }
    rwa [Val.real_neg, ← sub_eq_add_neg] at hsum
  | mul =>
    obtain ⟨hv, hw⟩ := h (.inl rfl)
    have hx : 0 < (Mag.ratio (v.m * w.m) 1 (v.k + w.k)).real := by rw [Mag.real_ratio]; positivity
    have hval : v.real * w.real = signOf (v.neg ^^ w.neg) * (Mag.ratio (v.m * w.m) 1 (v.k + w.k)).real := by
      rw [Val.real, Val.real, signOf_xor, Mag.real_ratio, zpow_add₀ two_ne_zero]
      push_cast
      ring
    have his := exact_is_of_pos (v.neg ^^ w.neg) hx
    rwa [← hval] at his
  | div =>
    obtain ⟨hv, hw⟩ := h (.inr rfl)
    have hx : 0 < (Mag.ratio v.m w.m (v.k - w.k)).real := by rw [Mag.real_ratio]; positivity
    have hval : v.real / w.real = signOf (v.neg ^^ w.neg) * (Mag.ratio v.m w.m (v.k - w.k)).real := by
      have hsign : signOf v.neg / signOf w.neg = signOf v.neg * signOf w.neg := by
        cases w.neg <;> simp [signOf, div_neg]
      rw [Val.real, Val.real, signOf_xor, Mag.real_ratio, zpow_sub₀ two_ne_zero, ← hsign]
      field_simp
    have his := exact_is_of_pos (v.neg ^^ w.neg) hx
    rwa [← hval] at his

/-- `specialResult` leaves numbers to the computation. -/
theorem specialResult_eq_none {op : ArithOp} {a b : Opnd} (rc : RC) (ha : a.finite = true) (hb : b.finite = true)
    (hsum : op = .add ∨ op = .sub → a.nonzero = true ∨ b.nonzero = true)
    (hprod : op = .mul ∨ op = .div → a.nonzero = true ∧ b.nonzero = true) : specialResult op rc a b = none := by
  obtain ⟨-, hia⟩ := (Opnd.finite_iff a).mp ha
  obtain ⟨-, hib⟩ := (Opnd.finite_iff b).mp hb
  have hz (c : Opnd) (hc : c.cls = b.cls) (h : a.nonzero = true ∨ b.nonzero = true) : sumSpecial rc a c = none := by
    have hne : a.cls = .zero → b.cls ≠ .zero := fun h0 =>
      h.elim (fun h => absurd h0 (Opnd.cls_of_nonzero h).1) fun h => (Opnd.cls_of_nonzero h).1
    simpa [sumSpecial, Opnd.isInf, Opnd.isZero, hc, hia, hib] using hne
  cases op with
  | add => exact hz b rfl (hsum (.inl rfl))
  | sub => exact hz b.flip rfl (hsum (.inr rfl))
  | mul | div =>
    obtain ⟨hna, hnb⟩ := hprod (by simp)
    simp [specialResult, Opnd.isInf, Opnd.isZero, hia, hib, Opnd.cls_of_nonzero hna, Opnd.cls_of_nonzero hnb]

theorem invalidPair_eq_false_of_finite {op : ArithOp} {a b : Opnd} (ha : a.finite = true) (hb : b.finite = true)
    (hprod : op = .mul ∨ op = .div → a.nonzero = true ∧ b.nonzero = true) : invalidPair op a b = false := by
  obtain ⟨-, hia⟩ := (Opnd.finite_iff a).mp ha
  obtain ⟨-, hib⟩ := (Opnd.finite_iff b).mp hb
  cases op with
  | add | sub | mul => simp [invalidPair, Opnd.isInf, hia, hib]
  | div => simp [invalidPair, Opnd.isInf, Opnd.isZero, hia, Opnd.cls_of_nonzero (hprod (.inr rfl)).1]

theorem Npx.precision_cases {n : Npx} {p : Nat} (h : n.precision = some p) : p = 24 ∨ p = 53 ∨ p = 64 := by
  unfold Npx.precision at h
  split at h <;> cases h <;> simp

/-- A result delivered at the precision of PC (R152, R153). -/
theorem Npx.isDelivered_deliverPc {n : Npx} {p : Nat} (hp : n.precision = some p) (neg : Bool) {x : Mag}
    (hx : 0 < x.real) (d : Nat) :
    IsDelivered n.rc (n.masked .oe) (n.masked .ue) neg x.real p (n.deliverPc neg x d) := by
  rw [Npx.deliverPc, hp]
  exact deliveryIsR153 _ _ _ _ _ _ _ (Npx.precision_cases hp) hx

theorem significand_ne_zero {x : Ext} (h : classOf x = .normal ∨ classOf x = .denormal) : (valOf x).m ≠ 0 :=
  fun h0 => extSig_ne_zero h (BitVec.eq_of_toNat_eq h0)

/-- Settles O43: the exact result is that of the operation on the values of the images, and `deliver` rounds it. -/
theorem arithmeticIsCorrectlyRounded : Obligations.ArithmeticIsCorrectlyRounded := by
  unfold Obligations.ArithmeticIsCorrectlyRounded
  intro i u s a b p hu h ha hb hden hfa hfb hsum hprod hp
  obtain ⟨hl, hr, t, he, hnpx⟩ := exec_arith_of_ready hu h
  obtain ⟨hoa, hia⟩ := (Opnd.finite_iff a).mp hfa
  obtain ⟨hob, hib⟩ := (Opnd.finite_iff b).mp hfb
  have hspecial := specialResult_eq_none s.npx.rc hfa hfb hsum hprod
  have hdiv (hop : u.op = .div) (hz : b.cls = .zero) : a.cls = .infinity :=
    absurd hz (Opnd.cls_of_nonzero (hprod (.inr hop)).2).1
  have hvalid := invalidPair_eq_false_of_finite hfa hfb hprod
  obtain ⟨hzero, hneg, hmag⟩ : (exactResult u.op (valOf a.img) (valOf b.img)).Is
      (u.op.real (extReal a.img) (extReal b.img)) := exactResult_is u.op fun hop =>
    ⟨significand_ne_zero ((proper_of_source hl ha).nonzero (hprod hop).1),
      significand_ne_zero ((proper_of_source hr hb).nonzero (hprod hop).2)⟩
  have hrule := checkedRule_arith u.op (s.source i u.left) (s.source i u.right) (s.npx.phys u.dst) u.pops s.draws s.npx
  rw [← hnpx] at hrule
  rw [← Npx.noteDenormal_rc s.npx a b] at hspecial
  refine ⟨t, he, fun hv => ?_, fun hv => ?_⟩
  · have hanswer := hrule.answered_exact ha hb hoa hob hvalid hden (c1 := false)
      (arithFinite_zero _ _ _ _ hdiv hspecial (hzero.mpr hv) ▸ Npx.answered_exactInto ..)
    rwa [Npx.noteDenormal_rc, beq_eq_decide] at hanswer
  · have hx : 0 < (exactResult u.op (valOf a.img) (valOf b.img)).mag.real := hmag ▸ abs_pos.mpr hv
    refine ⟨_, _, hneg, ?_, hrule.answered ha hb hoa hob hvalid hden
      (arithFinite_deliver _ _ _ _ hdiv hspecial (by simpa using hzero.not.mpr hv) ▸ Npx.answered_deliverInto ..)⟩
    have hdelivered := Npx.isDelivered_deliverPc (n := s.npx.noteDenormal a b) (p := p) (by simpa using hp)
      (exactResult u.op (valOf a.img) (valOf b.img)).neg hx s.draws
    rw [hmag] at hdelivered
    simpa using hdelivered

end Sys2Proof.Machine
end

section
/-! The instructions that share the operand checks (R280, R282, R287, R300): what each computes after them, and the
response to the operands that they find. -/

namespace Sys2Proof.Machine

/-! ### What the instructions compute after the checks -/

/-- FSQRT of an operand that passed the checks (R280). -/
def fsqrtRule (a : Opnd) (d : Nat) (n : Npx) : Npx :=
  if a.isZero || a.isInf then n.exactInto (n.phys 0) 0 a.img
  else n.deliverInto (n.phys 0) 0 (n.deliverPc false (.root (valOf a.img).m (valOf a.img).k) d)

/-- FRNDINT of an operand that passed the checks (R287). -/
def frndintRule (a : Opnd) (n : Npx) : Npx :=
  if a.isZero || a.isInf then n.exactInto (n.phys 0) 0 a.img
  else
    let r := extRounded n.rc a.img
    ((n.signalIf r.inexact .pe).setReg (n.phys 0) (encodeExt (extSign a.img) r.q 0)).setC1 r.roundup

/-- FSCALE of operands that passed the checks (R282). -/
def fscaleRule (a b : Opnd) (d : Nat) (n : Npx) : Npx :=
  if b.isInf then n.exactInto (n.phys 0) 0 (if b.neg then extZero a.neg else extInf a.neg)
  else if a.isZero || a.isInf then n.exactInto (n.phys 0) 0 a.img
  else
    let v := valOf a.img
    n.deliverInto (n.phys 0) 0 (n.deliver64 v.neg (.ratio v.m 1 (v.k + truncVal (valOf b.img))) d)

/-- F2XM1 of an operand that passed the checks (R307). -/
def f2xm1Rule (a : Opnd) (d : Nat) (n : Npx) : Npx :=
  if a.isZero then n.exactInto (n.phys 0) 0 a.img
  else if a.isInf then n.deliverInto (n.phys 0) 0 (drawnOutOfRange d)
  else
    match compareVal (valOf a.img).abs valOne with
    | .lt => n.deliverInto (n.phys 0) 0 (n.transc1 .exp2m1 a.img)
    | .eq => n.exactInto (n.phys 0) 0 (if a.neg then 0xBFFE8000000000000000 else extOne)
    | .gt => n.deliverInto (n.phys 0) 0 (drawnOutOfRange d)

/-- FPATAN of operands that passed the checks (R306). -/
def fpatanRule (y x : Opnd) (n : Npx) : Npx :=
  match atanCase y x with
  | .zero => n.exactInto (n.phys 1) 1 (extZero y.neg)
  | .multiple k => n.deliverInto (n.phys 1) 1 (deliverConstant n.rc y.neg k)
  | .computed => n.deliverInto (n.phys 1) 1 (n.transc2 .atan2 y.img x.img)

/-- The invalid operands of FSQRT (R280). -/
def fsqrtInvalid (a : Opnd) : Bool := a.neg && !a.isZero

/-- The invalid pairs of FSCALE (R282). -/
def fscaleInvalid (a b : Opnd) : Bool := b.isInf && ((a.isZero && !b.neg) || (a.isInf && b.neg))

section
variable (d : Nat) (n : Npx)

/-- A rule of ST(0) alone, in its two cases. -/
theorem checkedRule_of_top {m : Npx} {invalid : Opnd → Bool} {j : BitVec 3} {k : Nat} {g : Opnd → Npx → Npx}
    (hnone : n.stOpnd 0 = none → m = (n.underflowInto j k).drawC320 d)
    (hsome : ∀ a, n.stOpnd 0 = some a → m = (n.checked a a (invalid a) j k (g a)).drawC320 d) :
    n.CheckedRule m (n.stOpnd 0) (n.stOpnd 0) (fun a _ => invalid a) j k d fun a _ => g a where
  empty h := hnone (h.elim id id)
  full x y hx hy := by
    cases hx.symm.trans hy
    exact hsome x hx

/-- A rule of two registers, in its three cases. -/
theorem checkedRule_of_pair {m : Npx} (p q : StIndex) {invalid : Opnd → Opnd → Bool} {j : BitVec 3} {k : Nat}
    {g : Opnd → Opnd → Npx → Npx} (hleft : n.stOpnd p = none → m = (n.underflowInto j k).drawC320 d)
    (hright : ∀ a, n.stOpnd p = some a → n.stOpnd q = none → m = (n.underflowInto j k).drawC320 d)
    (hsome : ∀ a b, n.stOpnd p = some a → n.stOpnd q = some b →
      m = (n.checked a b (invalid a b) j k (g a b)).drawC320 d) :
    n.CheckedRule m (n.stOpnd p) (n.stOpnd q) invalid j k d g where
  empty h := by
    cases hp : n.stOpnd p with
    | none => exact hleft hp
    | some a => exact hright a hp (h.resolve_left (by simp [hp]))
  full := hsome

theorem checkedRule_fsqrt :
    n.CheckedRule (fsqrt d n) (n.stOpnd 0) (n.stOpnd 0) (fun a _ => fsqrtInvalid a) (n.phys 0) 0 d
      fun a _ => fsqrtRule a d :=
  checkedRule_of_top d n (fun h => by simp only [fsqrt, h]) fun a h => by simp only [fsqrt, h]; rfl

theorem checkedRule_frndint :
    n.CheckedRule (frndint d n) (n.stOpnd 0) (n.stOpnd 0) (fun _ _ => false) (n.phys 0) 0 d
      fun a _ => frndintRule a :=
  checkedRule_of_top d n (fun h => by simp only [frndint, h]) fun a h => by simp only [frndint, h]; rfl

theorem checkedRule_f2xm1 :
    n.CheckedRule (f2xm1 d n) (n.stOpnd 0) (n.stOpnd 0) (fun _ _ => false) (n.phys 0) 0 d
      fun a _ => f2xm1Rule a d :=
  checkedRule_of_top d n (fun h => by simp only [f2xm1, h]) fun a h => by simp only [f2xm1, h]; rfl

theorem checkedRule_fscale :
    n.CheckedRule (fscale d n) (n.stOpnd 0) (n.stOpnd 1) fscaleInvalid (n.phys 0) 0 d
      fun a b => fscaleRule a b d :=
  checkedRule_of_pair d n 0 1 (fun h => by simp only [fscale, h]) (fun a h h' => by simp only [fscale, h, h'])
    fun a b h h' => by simp only [fscale, h, h']; rfl

theorem checkedRule_fpatan :
    n.CheckedRule (fpatan d n) (n.stOpnd 1) (n.stOpnd 0) (fun _ _ => false) (n.phys 1) 1 d
      fpatanRule :=
  checkedRule_of_pair d n 1 0 (fun h => by simp only [fpatan, h]) (fun a h h' => by simp only [fpatan, h, h'])
    fun a b h h' => by simp only [fpatan, h, h']; rfl

theorem checkedRule_fyl2x :
    n.CheckedRule (fyl2x d n) (n.stOpnd 1) (n.stOpnd 0) fyl2xInvalid (n.phys 1) 1 d
      fun y x => fyl2xRule y x d :=
  checkedRule_of_pair d n 1 0 (fun h => by simp only [fyl2x, h]) (fun a h h' => by simp only [fyl2x, h, h'])
    fun a b h h' => by simp only [fyl2x, h, h']

theorem checkedRule_fyl2xp1 :
    n.CheckedRule (fyl2xp1 d n) (n.stOpnd 1) (n.stOpnd 0) (fun y x => x.isZero && y.isInf) (n.phys 1) 1 d
      fun y x => fyl2xp1Rule y x d :=
  checkedRule_of_pair d n 1 0 (fun h => by simp only [fyl2xp1, h]) (fun a h h' => by simp only [fyl2xp1, h, h'])
    fun a b h h' => by simp only [fyl2xp1, h, h']

end

/-! ### The shared checks (R173, R280, R282, R287, R300, R308) -/

/-- A denormal operand makes no invalid pair of FSCALE. -/
theorem fscaleInvalid_of_denormal {a b : Opnd} (h : a.cls = .denormal ∨ b.cls = .denormal) :
    fscaleInvalid a b = false := by
  rcases h with h | h <;> simp [fscaleInvalid, Opnd.isInf, Opnd.isZero, h]

/-- A denormal operand makes no invalid pair of FYL2X beside a positive operand (R308). -/
theorem fyl2xInvalid_of_denormal {y x : Opnd} (hx : x.cls = classOf x.img) (hneg : extSign x.img = true → x.cls = .zero)
    (h : y.cls = .denormal ∨ x.cls = .denormal) : fyl2xInvalid y x = false := by
  have hsign : x.neg = true → x.isZero = true := by simpa [Opnd.neg, Opnd.isZero] using hneg
  rcases h with h | h
  · simpa [fyl2xInvalid, Opnd.isInf, Opnd.isZero, h] using hsign
  · have hone : x.img ≠ extOne := fun h1 => by rw [hx, h1] at h; exact absurd h (by decide)
    simpa [fyl2xInvalid, Opnd.isInf, Opnd.isZero, h, hone] using hsign

theorem fyl2xp1Invalid_of_denormal {y x : Opnd} (h : y.cls = .denormal ∨ x.cls = .denormal) :
    (x.isZero && y.isInf) = false := by
  rcases h with h | h <;> simp [Opnd.isInf, Opnd.isZero, h]

theorem cls_of_stOpnd {n : Npx} {i : StIndex} {a : Opnd} (h : n.stOpnd i = some a) : a.cls = classOf a.img := by
  obtain ⟨x, -, rfl⟩ := Option.map_eq_some_iff.mp h
  rfl

/-- Settles O44: each of the instructions applies a rule that checks its operands by `Npx.checked`, and a denormal
operand makes no pair that the rule finds invalid. -/
theorem sharedOperandChecks : Obligations.SharedOperandChecks := by
  unfold Obligations.SharedOperandChecks
  intro i pre j k d pops s hi h
  obtain ⟨t, invalid, g, he, hrule, hden⟩ : ∃ t invalid g, exec i s = .next t ∧
      s.npx.CheckedRule t.npx (s.npx.stOpnd j) (s.npx.stOpnd k) invalid (s.npx.phys d) pops s.draws g ∧
      ∀ a b, s.npx.stOpnd k = some b → a.cls = .denormal ∨ b.cls = .denormal →
        (i = .fsqrt pre → extSign a.img = false) → (i = .fyl2x pre → extSign b.img = true → b.cls = .zero) →
        invalid a b = false := by
    rcases hi with ⟨rfl | rfl | rfl, rfl, rfl, rfl, rfl⟩ | ⟨rfl, rfl, rfl, rfl, rfl⟩ |
      ⟨rfl | rfl | rfl, rfl, rfl, rfl, rfl⟩
    · obtain ⟨t, he, hnpx⟩ := exec_numReg_of_ready rfl rfl rfl h
      refine ⟨t, _, _, he, hnpx ▸ checkedRule_fsqrt .., fun a b _ _ hsign _ => ?_⟩
      simp [fsqrtInvalid, Opnd.neg, hsign rfl]
    · obtain ⟨t, he, hnpx⟩ := exec_numReg_of_ready rfl rfl rfl h
      exact ⟨t, _, _, he, hnpx ▸ checkedRule_frndint .., fun _ _ _ _ _ _ => rfl⟩
    · obtain ⟨t, he, hnpx⟩ := exec_numReg_of_ready rfl rfl rfl h
      exact ⟨t, _, _, he, hnpx ▸ checkedRule_f2xm1 .., fun _ _ _ _ _ _ => rfl⟩
    · obtain ⟨t, he, hnpx⟩ := exec_numReg_of_ready rfl rfl rfl h
      exact ⟨t, _, _, he, hnpx ▸ checkedRule_fscale .., fun _ _ _ hden _ _ => fscaleInvalid_of_denormal hden⟩
    · obtain ⟨t, he, hnpx⟩ := exec_numReg_of_ready rfl rfl rfl h
      exact ⟨t, _, _, he, hnpx ▸ checkedRule_fpatan .., fun _ _ _ _ _ _ => rfl⟩
    · obtain ⟨t, he, hnpx⟩ := exec_numReg_of_ready rfl rfl rfl h
      exact ⟨t, _, _, he, hnpx ▸ checkedRule_fyl2x .., fun _ _ hb hden _ hneg =>
        fyl2xInvalid_of_denormal (cls_of_stOpnd hb) (hneg rfl) hden⟩
    · obtain ⟨t, he, hnpx⟩ := exec_numReg_of_ready rfl rfl rfl h
      exact ⟨t, _, _, he, hnpx ▸ checkedRule_fyl2xp1 .., fun _ _ _ hden _ _ => fyl2xp1Invalid_of_denormal hden⟩
  refine ⟨t, he, hrule.of_empty, fun a b ha hb => ⟨hrule.of_invalid ha hb, hrule.of_nan ha hb,
    fun hoa hob hok hsign hneg => ?_⟩⟩
  exact hrule.of_denormal ha hb hoa hob (hden a b hb (Npx.denormalOk_eq_false_iff.mp hok).1 hsign hneg) hok

end Sys2Proof.Machine
end

section
/-! FSQRT, FSCALE and FRNDINT on operands that passed the checks (R280, R282, R287). -/

namespace Sys2Proof.Machine

/-! ### The operands -/

/-- An operand that is no denormal passes, and signals no DE. -/
theorem Npx.pass_of_not_denormal (n : Npx) {a : Opnd} (h : a.cls ≠ .denormal) :
    n.denormalOk a a = true ∧ denormalFlag a a = [] :=
  ⟨Npx.denormalOk_of_normal h h, denormalFlag_of_normal h h⟩

theorem extReal_of_positive {x : Ext} (h : extSign x = false) : extReal x = (valOf x).m * 2 ^ (valOf x).k := by
  have hneg : (valOf x).neg = false := h
  rw [extReal, Val.real, hneg, signOf, if_neg Bool.false_ne_true, one_mul]

/-! ### FSQRT (R280) -/

section
variable {a : Opnd} (d : Nat) (n : Npx)

theorem answered_fsqrtRule_self (h : a.cls = .zero ∨ a.cls = .infinity) :
    n.Answered (fsqrtRule a d n) (n.phys 0) a.img 0 [] false := by
  rw [fsqrtRule, if_pos (by simpa [Opnd.isZero, Opnd.isInf] using h)]
  exact n.answered_exactInto ..

theorem answered_fsqrtRule_number (h : a.nonzero = true) :
    let r := n.deliverPc false (.root (valOf a.img).m (valOf a.img).k) d
    n.Answered (fsqrtRule a d n) (n.phys 0) r.img 0 r.exceptions r.c1 := by
  rw [fsqrtRule, if_neg (by simp [Opnd.isZero, Opnd.isInf, Opnd.cls_of_nonzero h])]
  exact n.answered_deliverInto ..

end

/-- Settles O45: the checks find the negative operands invalid, and a positive number's root is delivered. -/
theorem squareRoot : Obligations.SquareRoot := by
  unfold Obligations.SquareRoot
  intro pre s a h ha
  obtain ⟨t, he, hnpx⟩ := exec_numReg_of_ready (i := .fsqrt pre) rfl rfl rfl h
  have hrule := checkedRule_fsqrt s.draws s.npx
  rw [← hnpx] at hrule
  refine ⟨t, he, fun hself => ?_, fun hcls hneg => ?_, fun hnz hpos hden p hp => ?_⟩
  · have hcls : a.cls = .zero ∨ a.cls = .infinity := hself.imp_right And.left
    have hord : a.ordinary = true := hcls.elim Opnd.ordinary_of_zero Opnd.ordinary_of_infinity
    have hvalid : fsqrtInvalid a = false := by
      rcases hself with hz | ⟨-, hs⟩
      · simp [fsqrtInvalid, Opnd.isZero, hz]
      · simp [fsqrtInvalid, Opnd.neg, hs]
    obtain ⟨hden, hflag⟩ := s.npx.pass_of_not_denormal (a := a) (by rcases hcls with hc | hc <;> simp [hc])
    have hself := answered_fsqrtRule_self s.draws (s.npx.noteDenormal a a) hcls
    rw [Npx.noteDenormal_phys] at hself
    exact hflag ▸ hrule.answered_exact ha ha hord hord hvalid hden hself
  · have hord : a.ordinary = true := hcls.elim Opnd.ordinary_of_nonzero Opnd.ordinary_of_infinity
    have hz : a.cls ≠ .zero := hcls.elim (fun h => (Opnd.cls_of_nonzero h).1) fun h => by simp [h]
    exact hrule.of_invalidPair ha ha hord hord (by simp [fsqrtInvalid, Opnd.neg, Opnd.isZero, hneg, hz])
  · have hord := Opnd.ordinary_of_nonzero hnz
    have hx : 0 < (Mag.root (valOf a.img).m (valOf a.img).k).real := by
      have := significand_ne_zero ((proper_of_stOpnd ha).nonzero hnz)
      rw [Mag.real_root]
      positivity
    have hdelivered := Npx.isDelivered_deliverPc (n := s.npx.noteDenormal a a) (p := p) (by simpa using hp) false hx
      s.draws
    have hroot := answered_fsqrtRule_number s.draws (s.npx.noteDenormal a a) hnz
    rw [Npx.noteDenormal_phys] at hroot
    rw [Mag.real_root, ← extReal_of_positive hpos, Npx.noteDenormal_rc, Npx.noteDenormal_masked,
      Npx.noteDenormal_masked] at hdelivered
    exact ⟨_, hdelivered, hrule.answered ha ha hord hord (by simp [fsqrtInvalid, Opnd.neg, hpos]) hden hroot⟩

/-! ### FSCALE (R282) -/

/-- A significand shifted to an integer is the floor of its value. -/
theorem floor_shiftBy (m : ℕ) (k : ℤ) : ⌊(m : ℝ) * 2 ^ k⌋ = shiftBy m k := by
  rw [Int.floor_eq_iff]
  unfold shiftBy
  split
  · obtain ⟨s, rfl⟩ : ∃ s : ℕ, k = s := ⟨k.toNat, by omega⟩
    simp [Nat.shiftLeft_eq]
  · obtain ⟨s, rfl⟩ : ∃ s : ℕ, k = -s := ⟨(-k).toNat, by omega⟩
    obtain ⟨hlo, hhi, -⟩ := isFloor_div m (Nat.two_pow_pos s)
    push_cast at hlo hhi
    simpa only [neg_neg, Int.toNat_natCast, Nat.shiftRight_eq_div_pow, Int.cast_natCast, zpow_neg, zpow_natCast,
      div_eq_mul_inv] using And.intro hlo hhi

/-- The integer part of a value. -/
theorem truncVal_eq (v : Val) : truncVal v = if v.real < 0 then ⌈v.real⌉ else ⌊v.real⌋ := by
  have hnonneg : (0 : ℝ) ≤ v.m * 2 ^ v.k := by positivity
  rw [truncVal, ← floor_shiftBy, Val.real, signOf]
  cases v.neg with
  | false => simp [not_lt.mpr hnonneg]
  | true =>
    simp only [if_true, neg_mul, Int.ceil_neg, neg_lt_zero, one_mul]
    split
    · rfl
    · next h => simp [le_antisymm (not_lt.mp h) hnonneg]

section
variable {a b : Opnd} (d : Nat) (n : Npx)

theorem answered_fscaleRule_infinity (h : b.cls = .infinity) :
    n.Answered (fscaleRule a b d n) (n.phys 0)
      (if extSign b.img then extZero (extSign a.img) else extInf (extSign a.img)) 0 [] false := by
  rw [fscaleRule, if_pos (by simpa [Opnd.isInf] using h)]
  exact n.answered_exactInto ..

variable (hb : b.finite = true)
include hb

theorem answered_fscaleRule_self (h : a.cls = .zero ∨ a.cls = .infinity) :
    n.Answered (fscaleRule a b d n) (n.phys 0) a.img 0 [] false := by
  rw [fscaleRule, if_neg (by simp [Opnd.isInf, ((Opnd.finite_iff b).mp hb).2]),
    if_pos (by simpa [Opnd.isZero, Opnd.isInf] using h)]
  exact n.answered_exactInto ..

theorem answered_fscaleRule_number (h : a.nonzero = true) :
    let r := n.deliver64 (extSign a.img) (.ratio (valOf a.img).m 1 ((valOf a.img).k + truncVal (valOf b.img))) d
    n.Answered (fscaleRule a b d n) (n.phys 0) r.img 0 r.exceptions r.c1 := by
  rw [fscaleRule, if_neg (by simp [Opnd.isInf, ((Opnd.finite_iff b).mp hb).2]),
    if_neg (by simp [Opnd.isZero, Opnd.isInf, Opnd.cls_of_nonzero h])]
  exact n.answered_deliverInto ..

end

/-- Settles O46: the checks find the invalid pairs, and the product with the power of two is delivered. -/
theorem scale : Obligations.Scale := by
  unfold Obligations.Scale
  intro pre s a b h ha hb hoa hob
  obtain ⟨t, he, hnpx⟩ := exec_numReg_of_ready (i := .fscale pre) rfl rfl rfl h
  have hrule := checkedRule_fscale s.draws s.npx
  rw [← hnpx] at hrule
  have hinvalid : fscaleInvalid a b = true ↔ b.cls = .infinity ∧
      ((a.cls = .zero ∧ extSign b.img = false) ∨ (a.cls = .infinity ∧ extSign b.img = true)) := by
    simp [fscaleInvalid, Opnd.isInf, Opnd.isZero, Opnd.neg]
  have hvalid (hfin : b.finite = true) : fscaleInvalid a b = false := by
    simp [fscaleInvalid, Opnd.isInf, ((Opnd.finite_iff b).mp hfin).2]
  refine ⟨t, he, fun h => hrule.of_invalidPair ha hb hoa hob (hinvalid.mpr h), fun h hden hinf => ?_,
    fun hden hfin hself => ?_, fun hden hfin hnz => ?_⟩
  · have hanswer := answered_fscaleRule_infinity (a := a) s.draws (s.npx.noteDenormal a b) hinf
    rw [Npx.noteDenormal_phys] at hanswer
    exact hrule.answered_exact ha hb hoa hob (by rwa [← Bool.not_eq_true, hinvalid]) hden hanswer
  · have hanswer := answered_fscaleRule_self s.draws (s.npx.noteDenormal a b) hfin hself
    rw [Npx.noteDenormal_phys] at hanswer
    exact hrule.answered_exact ha hb hoa hob (hvalid hfin) hden hanswer
  · have hanswer := answered_fscaleRule_number s.draws (s.npx.noteDenormal a b) hfin hnz
    rw [Npx.noteDenormal_phys] at hanswer
    refine ⟨truncVal (valOf b.img), _, truncVal_eq _, ?_, hrule.answered ha hb hoa hob (hvalid hfin) hden hanswer⟩
    have hpos := abs_extReal_pos ((proper_of_stOpnd ha).nonzero hnz)
    have hreal : (Mag.ratio (valOf a.img).m 1 ((valOf a.img).k + truncVal (valOf b.img))).real =
        |extReal a.img| * 2 ^ truncVal (valOf b.img) := by
      rw [Mag.real_ratio, extReal, Val.abs_real, zpow_add₀ two_ne_zero, Nat.cast_one, div_one, mul_assoc]
    rw [← hreal, ← Npx.noteDenormal_rc s.npx a b, ← Npx.noteDenormal_masked s.npx a b,
      ← Npx.noteDenormal_masked s.npx a b]
    exact deliveryIsR153 _ _ _ _ _ _ _ (by simp) (by rw [hreal]; positivity)

/-! ### FRNDINT (R287) -/

/-- A multiple of `2^s` of at most 64 significant bits is a number of the extended format. -/
theorem representable_of_dvd {q s : ℕ} {t : ℤ} (hd : 2 ^ s ∣ q) (hlt : q < 2 ^ (64 + s)) (ht : -16445 ≤ t)
    (hmax : q ≠ 0 → q.log2 + t ≤ 16383) : Representable 63 (-16382) 16383 q t := by
  refine ⟨hmax, fun _ _ => (pow_dvd_pow 2 ?_).trans hd, fun _ _ => by omega⟩
  have hlog := log2_le_of_lt (c := 63 + s) (by rwa [show 63 + s + 1 = 64 + s by omega])
  omega

theorem valOf_bounds {x : Ext} (h : classOf x = .normal ∨ classOf x = .denormal) :
    (valOf x).m < 2 ^ 64 ∧ -16445 ≤ (valOf x).k ∧ (valOf x).k ≤ 16320 := by
  have hexp : (extExp x).toNat < 0x7FFF := by grind [classOf]
  refine ⟨(extSig x).isLt, ?_⟩
  simp only [valOf]
  split <;> constructor <;> omega

/-- A register rounded to an integer is a number of the extended format. -/
theorem isImage_extRounded {x : Ext} (h : classOf x = .normal ∨ classOf x = .denormal) (rc : RC) :
    IsImage (encodeExt (extSign x) (extRounded rc x).q 0) (extSign x) (extRounded rc x).q := by
  obtain ⟨hm, hmin, hmax⟩ := valOf_bounds h
  have hx := mag_valOf_pos h
  have hrep : Representable 63 (-16382) 16383 (extRounded rc x).q 0 := by
    rcases le_or_gt 0 (valOf x).k with hk | hk
    · obtain ⟨s, hs⟩ : ∃ s : ℕ, (valOf x).k = s := ⟨(valOf x).k.toNat, by omega⟩
      have hq : (extRounded rc x).q = (valOf x).m * 2 ^ s := by
        rw [extRounded, roundAt_of_eq hx rc _ 0 (n := (valOf x).m * 2 ^ s)]
        rw [Val.mag, Mag.real_ratio, hs]
        simp
      have hlt : (valOf x).m * 2 ^ s < 2 ^ (64 + s) := by
        rw [pow_add]
        exact Nat.mul_lt_mul_of_pos_right hm (by positivity)
      rw [hq]
      refine representable_of_dvd (Dvd.intro_left _ rfl) hlt (by omega) fun _ => ?_
      have := log2_le_of_lt (c := 63 + s) (by rwa [show 63 + s + 1 = 64 + s by omega])
      omega
    · have hq : (extRounded rc x).q ≤ 2 ^ 64 := by
        refine roundAt_q_le hx rc _ 0 ?_
        rw [Val.mag, Mag.real_ratio, Nat.cast_one, div_one, zpow_zero, mul_one]
        calc ((valOf x).m : ℝ) * 2 ^ (valOf x).k ≤ (valOf x).m * 1 := by
              gcongr
              exact zpow_le_one_of_nonpos₀ one_le_two hk.le
          _ ≤ (2 ^ 64 : ℕ) := by
              rw [mul_one]
              exact_mod_cast hm.le
      have hlog : (extRounded rc x).q.log2 ≤ 64 := log2_le_of_lt (by omega)
      exact ⟨fun _ => by omega, fun _ _ => dvd_of_le_two_pow hq, fun _ _ => by omega⟩
  have himg := isImage_encodeExt (extSign x) hrep
  rwa [zpow_zero, mul_one] at himg

section
variable {a : Opnd} (n : Npx)

theorem answered_frndintRule_self (h : a.cls = .zero ∨ a.cls = .infinity) :
    n.Answered (frndintRule a n) (n.phys 0) a.img 0 [] false := by
  rw [frndintRule, if_pos (by simpa [Opnd.isZero, Opnd.isInf] using h)]
  exact n.answered_exactInto ..

theorem answered_frndintRule_number (h : a.nonzero = true) :
    let r := extRounded n.rc a.img
    n.Answered (frndintRule a n) (n.phys 0) (encodeExt (extSign a.img) r.q 0) 0 (if r.inexact then [.pe] else [])
      r.roundup := by
  rw [frndintRule, if_neg (by simp [Opnd.isZero, Opnd.isInf, Opnd.cls_of_nonzero h])]
  exact n.answered_deliverInto (n.phys 0) 0 ⟨encodeExt (extSign a.img) (extRounded n.rc a.img).q 0, false, false,
    (extRounded n.rc a.img).inexact, (extRounded n.rc a.img).roundup⟩

end

/-- Settles O47: the operand is rounded at the unit 1, and its image is that of the rounded magnitude. -/
theorem roundToInteger : Obligations.RoundToInteger := by
  unfold Obligations.RoundToInteger
  intro pre s a h ha
  obtain ⟨t, he, hnpx⟩ := exec_numReg_of_ready (i := .frndint pre) rfl rfl rfl h
  have hrule := checkedRule_frndint s.draws s.npx
  rw [← hnpx] at hrule
  refine ⟨t, he, fun hcls => ?_, fun hnz hden => ?_⟩
  · have hord : a.ordinary = true := hcls.elim Opnd.ordinary_of_zero Opnd.ordinary_of_infinity
    obtain ⟨hden, hflag⟩ := s.npx.pass_of_not_denormal (a := a) (by rcases hcls with hc | hc <;> simp [hc])
    have hself := answered_frndintRule_self (s.npx.noteDenormal a a) hcls
    rw [Npx.noteDenormal_phys] at hself
    exact hflag ▸ hrule.answered_exact ha ha hord hord rfl hden hself
  · have hord := Opnd.ordinary_of_nonzero hnz
    have hnumber := (proper_of_stOpnd ha).nonzero hnz
    have hround := answered_frndintRule_number (s.npx.noteDenormal a a) hnz
    rw [Npx.noteDenormal_phys, Npx.noteDenormal_rc] at hround
    obtain ⟨hwrote, hflagged, hc1⟩ := hrule.answered ha ha hord hord rfl hden hround
    refine ⟨_, _, _, isRounded_extRounded hnumber _, extRounded_inexact_iff hnumber _, isImage_extRounded hnumber _,
      hwrote, hflagged, ?_⟩
    rw [hc1]
    exact extRounded_roundup_iff hnumber _

end Sys2Proof.Machine
end

section
/-! FXTRACT (R288): the response to each kind of operand, the exponent and the significand. -/

namespace Sys2Proof.Machine

/-! ### Two results (R162, R170) -/

section
variable (n : Npx) (x y : Ext)

theorem Npx.wrotePushed_pairInto : n.WrotePushed (n.pairInto x y) x y := by
  have hphys : n.phys 0 = n.sw.top := by simp [Npx.phys]
  refine ⟨fun j => ?_, fun j => ?_, rfl⟩
  · simp only [Npx.pairInto, Npx.pushRaw, Npx.reg_setTop, Npx.reg_setReg, Npx.setReg_sw, hphys]
    grind
  · simp only [Npx.pairInto, Npx.pushRaw, Npx.isEmpty_setTop, Npx.isEmpty_setReg, Npx.setReg_sw, hphys]
    grind

theorem Npx.flagged_pairInto : n.Flagged (n.pairInto x y) [] false := by
  refine ⟨fun e => ?_, ?_, rfl⟩
  · cases e <;> simp [Npx.pairInto, Npx.pushRaw, StatusWord.flag]
  · simp [Npx.pairInto, Npx.pushRaw]

/-- Two results after the exceptions `l`, unless the condition `c` fails. -/
theorem Npx.pairInto_if {n m : Npx} {l : List Exc} {fault : Bool} (hs : n.SameStack m) (hf : n.Flagged m l fault)
    (x y : Ext) (c : Bool) :
    let m' := if c then m.pairInto x y else m
    n.Flagged m' l fault ∧ (c = true → n.WrotePushed m' x y) ∧ (c = false → n.SameStack m') := by
  cases c with
  | true =>
    have hflags := hf.trans (m.flagged_pairInto x y)
    rw [List.append_nil, Bool.or_false] at hflags
    exact ⟨hflags, fun _ => hs.wrotePushed_iff.mp (m.wrotePushed_pairInto x y), nofun⟩
  | false => exact ⟨hf, nofun, fun _ => hs⟩

end

/-! ### Stack faults (R288) -/

section
variable (n : Npx) (d : Nat)

theorem Npx.pairFault_spec : n.SameStack (n.pairFault d) ∧ n.Flagged (n.pairFault d) [.ie] true := by
  unfold Npx.pairFault
  split
  · exact ⟨⟨rfl, rfl, rfl⟩, n.flagged_stackFault false⟩
  · split
    · exact ⟨⟨rfl, rfl, rfl⟩, n.flagged_stackFault true⟩
    · exact ⟨⟨rfl, rfl, rfl⟩, n.flagged_stackFault true⟩

theorem Npx.pairFault_c1_of_room (h : n.canPush = true) : (n.pairFault d).sw.c1 = false := by
  rw [Npx.pairFault, if_pos h]
  rfl

theorem Npx.pairFault_c1_of_full (h : n.canPush = false) (htop : n.isEmpty (n.phys 0) = false) :
    (n.pairFault d).sw.c1 = true := by
  simp only [Npx.pairFault, h, htop, if_neg Bool.false_ne_true]
  rfl

theorem Npx.isEmpty_of_stOpnd {i : StIndex} (h : n.stOpnd i ≠ none) : n.isEmpty (n.phys i) = false := by
  by_contra he
  exact h (by simp [Npx.stOpnd, Npx.st, he])

theorem fxtract_of_fault (h : n.stOpnd 0 = none ∨ n.canPush = false) : fxtract d n =
    (if n.masked .ie then (n.pairFault d).pairInto indefinite indefinite else n.pairFault d).drawC320 d := by
  unfold fxtract
  split
  · next ha hroom => rcases h with h | h <;> simp_all
  · rfl

theorem fxtract_of_room {a : Opnd} (ha : n.stOpnd 0 = some a) (h : n.canPush = true) :
    fxtract d n = (fxtractRule a n).drawC320 d := by
  simp only [fxtract, ha, h]

end

/-! ### The operand (R288) -/

theorem nanResult_self (a : Opnd) : nanResult a a = nanOf a := by
  unfold nanOf
  cases h : a.isNan with
  | true => simp [nanResult_of_same_kind h rfl, largerNan]
  | false => simp [nanResult_of_neither h h]

/-- The integer part of the logarithm of a number. -/
theorem Val.log2_eq_floorLog2 {v : Val} (h : v.m ≠ 0) : v.log2 = floorLog2 |v.real| := by
  rw [Val.abs_real, floorLog2_natCast_mul h, Val.log2]

section
variable {x : Ext} (h : classOf x = .normal ∨ classOf x = .denormal)
include h

theorem log2_valOf_eq : (valOf x).log2 = floorLog2 |extReal x| := Val.log2_eq_floorLog2 (significand_ne_zero h)

theorem log2_significand_le : (valOf x).m.log2 ≤ 63 := log2_le_of_lt (valOf_bounds h).1

/-- The exponent of a number is an integer of the extended format. -/
theorem isImage_exponent :
    IsImage (extOfInt (valOf x).log2) (decide (floorLog2 |extReal x| < 0)) |(floorLog2 |extReal x| : ℝ)| := by
  obtain ⟨-, hmin, hmax⟩ := valOf_bounds h
  have hlog := log2_significand_le h
  have himg := isImage_extOfInt (n := (valOf x).log2) (by rw [Val.log2]; omega)
  rw [log2_valOf_eq h, Nat.cast_natAbs, Int.cast_abs] at himg
  rwa [log2_valOf_eq h]

/-- The significand of a number, from 1 up to 2, has the sign of the number. -/
theorem isImage_significand :
    IsImage (encodeExt (extSign x) (valOf x).m ((valOf x).k - (valOf x).log2)) (extSign x)
      (|extReal x| / 2 ^ floorLog2 |extReal x|) := by
  have hlog := log2_significand_le h
  have ht : (valOf x).k - (valOf x).log2 = -(valOf x).m.log2 := by rw [Val.log2]; omega
  have himg := isImage_encodeExt (extSign x) (q := (valOf x).m) (t := (valOf x).k - (valOf x).log2)
    (representable_of_dvd (s := 0) (by simp) (valOf_bounds h).1 (by omega) (by omega))
  rw [zpow_sub₀ two_ne_zero, ← mul_div_assoc, ← Val.abs_real, log2_valOf_eq h] at himg
  rwa [log2_valOf_eq h]

end

section
variable {a : Opnd} (n : Npx)

theorem fxtractRule_invalid (h : a.isInvalid = true) : fxtractRule a n =
    if n.masked .ie then ((n.signal .ie).setC1 false).pairInto (nanOf a) (nanOf a) else (n.signal .ie).setC1 false := by
  simp only [fxtractRule, h, if_true, Npx.setC1_masked, Npx.signal_masked]

theorem fxtractRule_qnan (h : a.cls = .qnan) : fxtractRule a n = (n.setC1 false).pairInto a.img a.img := by
  simp [fxtractRule, Opnd.isInvalid, Opnd.isNan, h]

theorem fxtractRule_zero (h : a.cls = .zero) : fxtractRule a n =
    if n.masked .ze then ((n.setC1 false).signal .ze).pairInto (extInf true) a.img else (n.setC1 false).signal .ze := by
  simp [fxtractRule, Opnd.isInvalid, Opnd.isNan, Opnd.isZero, h]

theorem fxtractRule_infinity (h : a.cls = .infinity) :
    fxtractRule a n = (n.setC1 false).pairInto (extInf false) a.img := by
  simp [fxtractRule, Opnd.isInvalid, Opnd.isNan, Opnd.isZero, Opnd.isInf, h]

theorem fxtractRule_number (h : a.nonzero = true) : fxtractRule a n =
    if n.denormalOk a a then
      ((n.setC1 false).noteDenormal a a).pairInto (extOfInt (valOf a.img).log2)
        (encodeExt (extSign a.img) (valOf a.img).m ((valOf a.img).k - (valOf a.img).log2))
    else (n.setC1 false).noteDenormal a a := by
  obtain ⟨hinv, hnan⟩ := Opnd.not_nan_of_ordinary (Opnd.ordinary_of_nonzero h)
  obtain ⟨hz, hinf⟩ := Opnd.cls_of_nonzero h
  simp only [fxtractRule, hinv, hnan, Opnd.isZero, Opnd.isInf, beq_eq_false_iff_ne.mpr hz, beq_eq_false_iff_ne.mpr hinf,
    if_neg Bool.false_ne_true, Npx.noteDenormal, Npx.denormalOk, Bool.or_self, Npx.signalIf_masked, Npx.setC1_masked]
  cases a.cls == .denormal <;> cases n.masked .de <;> rfl

theorem fxtractRule_c1 : (fxtractRule a n).sw.c1 = false := by
  unfold fxtractRule
  dsimp only
  repeat' split
  all_goals simp [Npx.pairInto, Npx.pushRaw]

end

/-- Settles O48: a stack fault comes first, and then each class of the operand has its branch of `fxtractRule`. -/
theorem extract : Obligations.Extract := by
  unfold Obligations.Extract
  intro pre s h
  obtain ⟨t, he, hnpx⟩ := exec_numReg_of_ready (i := .fxtract pre) rfl rfl rfl h
  refine ⟨t, he, fun hfault => ?_, fun a ha hroom => ?_⟩
  · obtain ⟨hs, hf⟩ := s.npx.pairFault_spec s.draws
    obtain ⟨hflags, hpair, hstay⟩ := Npx.pairInto_if hs hf indefinite indefinite (s.npx.masked .ie)
    rw [hnpx, fxtract_of_fault s.npx s.draws hfault]
    refine ⟨hflags, fun hfull => ?_, fun hroom => ?_, hpair, hstay⟩
    · have hc := s.npx.pairFault_c1_of_full s.draws (hfault.resolve_left hfull) (Npx.isEmpty_of_stOpnd _ hfull)
      split <;> exact hc
    · have hc := s.npx.pairFault_c1_of_room s.draws hroom
      split <;> exact hc
  · rw [hnpx, fxtract_of_room s.npx s.draws ha hroom]
    have hs : s.npx.SameStack (s.npx.setC1 false) := ⟨rfl, rfl, rfl⟩
    have hf := s.npx.flagged_setC1 false
    refine ⟨fxtractRule_c1 s.npx, fun hinv => ?_, fun hcls => ?_, fun hcls => ?_, fun hcls => ?_, fun hnz => ?_⟩
    · obtain ⟨hs, hf, -⟩ := s.npx.stopped_signal .ie
      rw [fxtractRule_invalid _ hinv, nanResult_self]
      exact Npx.pairInto_if hs hf _ _ _
    · rw [fxtractRule_qnan _ hcls]
      obtain ⟨hflags, hpair, -⟩ := Npx.pairInto_if hs hf a.img a.img true
      exact ⟨hpair rfl, hflags⟩
    · obtain ⟨hs, hf, -⟩ := s.npx.stopped_signal .ze
      rw [fxtractRule_zero _ hcls]
      exact Npx.pairInto_if hs hf _ _ _
    · rw [fxtractRule_infinity _ hcls]
      obtain ⟨hflags, hpair, -⟩ := Npx.pairInto_if hs hf (extInf false) a.img true
      exact ⟨hpair rfl, hflags⟩
    · have hnumber := (proper_of_stOpnd ha).nonzero hnz
      rw [fxtractRule_number _ hnz]
      obtain ⟨hflags, hpair, hstay⟩ := Npx.pairInto_if (hs.trans (Npx.sameStack_noteDenormal _ a a))
        (hf.trans (Npx.flagged_noteDenormal _ a a)) (extOfInt (valOf a.img).log2)
        (encodeExt (extSign a.img) (valOf a.img).m ((valOf a.img).k - (valOf a.img).log2)) (s.npx.denormalOk a a)
      exact ⟨hflags, hstay, fun hok => ⟨_, _, isImage_exponent hnumber, isImage_significand hnumber, hpair hok⟩⟩

end Sys2Proof.Machine
end

section
/-! FPREM and FPREM1 (R283 to R285): the response to each kind of operands, and the exact remainder. -/

namespace Sys2Proof.Machine

/-! ### A register and the condition code -/

section
variable {n m : Npx} {l : List Exc} {fault c3 c2 c1 c0 : Bool}

-- `setQuotient`, `drawCC` and the code of an incomplete reduction are of this form (R36, R38).
theorem Npx.flagged_setCC_setC1 : n.Flagged ((m.setCC c3 c2 c0).setC1 c1) l fault ↔ n.Flagged m l fault := by
  have hflag (e : Exc) : ((m.setCC c3 c2 c0).setC1 c1).sw.flag e = m.sw.flag e := by cases e <;> rfl
  simp only [Npx.Flagged, hflag]
  rfl

variable (hs : n.SameStack m) (hf : n.Flagged m l fault) (j : BitVec 3) (x : Ext)
include hs hf

theorem Npx.wrote_setReg_after : n.Wrote (m.setReg j x) j x 0 ∧ n.Flagged (m.setReg j x) l fault :=
  ⟨hs.wrote_iff.mp (m.wrote_pops_setReg 0 x j), hf⟩

/-- The answer after the exceptions `l`, unless the condition `c` fails; the condition code is undefined. -/
theorem Npx.setReg_if (d : Nat) (c : Bool) :
    let m' := if c then (m.setReg j x).drawCC d else m
    n.Flagged m' l fault ∧ (c = true → n.Wrote m' j x 0) ∧ (c = false → n.SameStack m') := by
  obtain ⟨hw, hf'⟩ := Npx.wrote_setReg_after hs hf j x
  cases c with
  | true => exact ⟨Npx.flagged_setCC_setC1.mpr hf', fun _ => hw, nofun⟩
  | false => exact ⟨hf, nofun, fun _ => hs⟩

end

/-- The condition code of a reduction: the quotient of a complete one, C2 = 1 of an incomplete one (R38). -/
def Npx.setReduction (n : Npx) : Option Nat → Npx
  | some q => n.setQuotient q
  | none => (n.setCC false true false).setC1 false

theorem Npx.flagged_signal_alone (n : Npx) (e : Exc) : n.Flagged (n.signal e) [e] false := n.flagged_signalIf true e

theorem Npx.sameStack_signal (n : Npx) (e : Exc) : n.SameStack (n.signal e) := n.sameStack_signalIf true e

/-! ### The operands (R283) -/

section
variable (nearest : Bool) (d : Nat) (n : Npx)

theorem fpremStep_of_empty (h : n.stOpnd 0 = none ∨ n.stOpnd 1 = none) :
    fpremStep nearest d n = (n.underflowInto (n.phys 0) 0).drawC320 d := by
  unfold fpremStep
  split
  · next ha hb => rcases h with h | h <;> simp_all
  · rfl

variable {a b : Opnd} (ha : n.stOpnd 0 = some a) (hb : n.stOpnd 1 = some b)
include ha hb

theorem fpremStep_of_invalid (h : a.isInvalid = true ∨ b.isInvalid = true) : fpremStep nearest d n =
    if n.masked .ie then ((n.signal .ie).setReg (n.phys 0) (nanResult a b)).drawCC d else n.signal .ie := by
  simp only [fpremStep, ha, hb]
  rw [if_pos (by simpa using h)]

theorem fpremStep_of_nan (hia : a.isInvalid = false) (hib : b.isInvalid = false) (h : a.isNan = true ∨ b.isNan = true) :
    fpremStep nearest d n = (n.setReg (n.phys 0) (nanResult a b)).drawCC d := by
  simp only [fpremStep, ha, hb]
  rw [if_neg (by simp [hia, hib]), if_pos (by simpa using h)]

variable (hoa : a.ordinary = true) (hob : b.ordinary = true)
include hoa hob

/-- The branches of `fpremStep` for operands that are no NaN and of no unsupported class. -/
theorem fpremStep_of_ordinary : fpremStep nearest d n =
    if a.cls = .infinity ∨ b.cls = .zero then
      if n.masked .ie then ((n.signal .ie).setReg (n.phys 0) indefinite).drawCC d else n.signal .ie
    else if n.denormalOk a b = false then n.noteDenormal a b
    else if a.cls = .zero ∨ b.cls = .infinity then
      ((n.noteDenormal a b).setReg (n.phys 0) a.img).setQuotient 0
    else
      let r := remStep nearest (valOf a.img) (valOf b.img)
      ((n.noteDenormal a b).remInto (n.phys 0) (extSign a.img) r).setReduction r.quotient := by
  obtain ⟨hia, hna⟩ := Opnd.not_nan_of_ordinary hoa
  obtain ⟨hib, hnb⟩ := Opnd.not_nan_of_ordinary hob
  have hpair : (a.isInf || b.isZero) = true ↔ a.cls = .infinity ∨ b.cls = .zero := by simp [Opnd.isInf, Opnd.isZero]
  have hden : ((a.cls == .denormal || b.cls == .denormal) && !n.masked .de) = true ↔ n.denormalOk a b = false := by
    rw [Npx.denormalOk_eq_false_iff]
    simp
  have hself : (b.isInf || a.isZero) = true ↔ a.cls = .zero ∨ b.cls = .infinity := by
    simp [Opnd.isInf, Opnd.isZero, or_comm]
  simp only [fpremStep, ha, hb]
  rw [if_neg (by simp [hia, hib]), if_neg (by simp [hna, hnb])]
  simp only [hpair, hden, hself]
  cases (remStep nearest (valOf a.img) (valOf b.img)).quotient <;> rfl

end

/-- Settles O50: each kind of operands has its branch of `fpremStep`. -/
theorem remainderSpecialCases : Obligations.RemainderSpecialCases := by
  unfold Obligations.RemainderSpecialCases
  intro i pre s hi h
  obtain ⟨t, nearest, he, hnpx⟩ : ∃ t nearest, exec i s = .next t ∧ t.npx = fpremStep nearest s.draws s.npx := by
    rcases hi with rfl | rfl
    · obtain ⟨t, ht⟩ := exec_numReg_of_ready (i := .fprem pre) rfl rfl rfl h
      exact ⟨t, false, ht⟩
    · obtain ⟨t, ht⟩ := exec_numReg_of_ready (i := .fprem1 pre) rfl rfl rfl h
      exact ⟨t, true, ht⟩
  have hs := s.npx.sameStack_signal .ie
  have hf := s.npx.flagged_signal_alone .ie
  refine ⟨t, he, fun hempty => ?_, fun a b ha hb => ⟨fun hinv => ?_, fun hia hib hnan => ?_, fun hoa hob hpair => ?_,
    fun hfa hob hz hden => ?_, fun hfa hob hz hden hself => ?_⟩⟩
  · rw [hnpx, fpremStep_of_empty _ _ _ hempty, Npx.underflowRule_drawC320]
    exact s.npx.underflowRule_underflowInto ..
  · rw [hnpx, fpremStep_of_invalid _ _ _ ha hb hinv]
    exact Npx.setReg_if hs hf _ _ _ _
  · rw [hnpx, fpremStep_of_nan _ _ _ ha hb hia hib hnan]
    obtain ⟨hflags, hwrote, -⟩ := Npx.setReg_if (n := s.npx) ⟨rfl, rfl, rfl⟩ (s.npx.flagged_signalIf false .ie)
      (s.npx.phys 0) (nanResult a b) s.draws true
    exact ⟨hwrote rfl, hflags⟩
  · rw [hnpx, fpremStep_of_ordinary _ _ _ ha hb hoa hob, if_pos hpair]
    exact Npx.setReg_if hs hf _ _ _ _
  · obtain ⟨hoa, hinf⟩ := (Opnd.finite_iff a).mp hfa
    have hdenormal := (Npx.denormalOk_eq_false_iff.mp hden).1
    have hflag : denormalFlag a b = [.de] := if_pos (by simpa using hdenormal)
    rw [hnpx, fpremStep_of_ordinary _ _ _ ha hb hoa hob, if_neg (by simp [hinf, hz]), if_pos hden, ← hflag]
    exact ⟨Npx.sameStack_noteDenormal .., Npx.flagged_noteDenormal ..⟩
  · obtain ⟨hoa, hinf⟩ := (Opnd.finite_iff a).mp hfa
    rw [hnpx, fpremStep_of_ordinary _ _ _ ha hb hoa hob, if_neg (by simp [hinf, hz]), if_neg (by simp [hden]),
      if_pos hself]
    obtain ⟨hwrote, hflags⟩ := Npx.wrote_setReg_after (s.npx.sameStack_noteDenormal a b)
      (s.npx.flagged_noteDenormal a b) (s.npx.phys 0) a.img
    exact ⟨hwrote, Npx.flagged_setCC_setC1.mpr hflags, rfl, by simp [Npx.setQuotient], by simp [Npx.setQuotient],
      by simp [Npx.setQuotient]⟩

end Sys2Proof.Machine
end

section
/-! FPREM and FPREM1 on two numbers (R283 to R285): the remainder is exact, and a number of the extended format. -/

namespace Sys2Proof.Machine

/-! ### The quotient (R283) -/

/-- Twice a fraction, by where the fraction lies between two integers. -/
theorem two_mul_div_mod (x : ℕ) {y : ℕ} (hy : 0 < y) :
    (2 * (x % y) < y → 2 * x / y = 2 * (x / y)) ∧
    (2 * (x % y) = y → 2 * x / y = 2 * (x / y) + 1 ∧ 2 * x % y = 0) ∧
    (y < 2 * (x % y) → 2 * x / y = 2 * (x / y) + 1 ∧ 2 * x % y ≠ 0) := by
  have hx : 2 * (x % y) + y * (2 * (x / y)) = 2 * x := by rw [mul_left_comm, ← mul_add, Nat.mod_add_div]
  have hlt : x % y < y := Nat.mod_lt _ hy
  refine ⟨fun h => ((Nat.div_mod_unique hy).mpr ⟨hx, h⟩).1, fun h => ?_, fun h => ?_⟩
  · exact (Nat.div_mod_unique hy).mpr ⟨by rw [mul_add, mul_one]; omega, hy⟩
  · obtain ⟨hdiv, hmod⟩ := (Nat.div_mod_unique (a := 2 * x) (c := 2 * (x % y) - y) (d := 2 * (x / y) + 1) hy).mpr
      ⟨by rw [mul_add, mul_one]; omega, by omega⟩
    exact ⟨hdiv, by omega⟩

theorem floorAt_half (x y : ℕ) : (Mag.ratio x y 0).floorAt (0 - 1) = (2 * x / y, 2 * x % y == 0) := by
  simp [Mag.floorAt, divShift, Nat.shiftLeft_eq, mul_comm]

/-- The quotient is the value of the fraction rounded to an integer, toward zero or to nearest (R150). -/
theorem remQuotient_eq_roundAt (nearest : Bool) (x : ℕ) {y : ℕ} (hy : 0 < y) :
    remQuotient nearest x y = (roundAt (if nearest then .nearest else .chop) false (.ratio x y 0) 0).q := by
  obtain ⟨hbelow, hmiddle, habove⟩ := two_mul_div_mod x hy
  simp only [remQuotient, roundAt, floorAt_half]
  rcases lt_trichotomy (2 * (x % y)) y with h | h | h
  · rw [hbelow h]
    cases nearest <;> simp [roundsUp, h.ne, h.le]
  · obtain ⟨hdiv, hmod⟩ := hmiddle h
    rw [hdiv, hmod]
    cases nearest <;> simp [roundsUp, h, Nat.add_mod, Nat.add_div]
  · obtain ⟨hdiv, hmod⟩ := habove h
    rw [hdiv]
    cases nearest <;> simp [roundsUp, h, hmod, Nat.add_mod, Nat.add_div]

theorem isRounded_remQuotient (nearest : Bool) {x y : ℕ} (hx : 0 < x) (hy : 0 < y) :
    IsRounded (if nearest then .nearest else .chop) false (x / y : ℝ) 1 (remQuotient nearest x y) := by
  have hpos : 0 < (Mag.ratio x y 0).real := by rw [Mag.real_ratio]; positivity
  have h := isRounded_roundAt hpos (if nearest then .nearest else .chop) false 0
  rwa [Mag.real_ratio, Rounded.real, ← remQuotient_eq_roundAt nearest x hy,
    show (roundAt (if nearest then .nearest else .chop) false (.ratio x y 0) 0).t = 0 from rfl, zpow_zero, mul_one,
    mul_one] at h

/-- The remainder is no larger than the dividend and the divisor. -/
theorem natAbs_remainder_le (nearest : Bool) (x : ℕ) {y : ℕ} (hy : 0 < y) :
    ((x : ℤ) - remQuotient nearest x y * y).natAbs ≤ x ∧ ((x : ℤ) - remQuotient nearest x y * y).natAbs ≤ y := by
  have hx : (x : ℤ) = x % y + y * (x / y) := by exact_mod_cast (Nat.mod_add_div x y).symm
  have hr : x % y < y := Nat.mod_lt _ hy
  have hle : x % y ≤ x := Nat.mod_le x y
  simp only [remQuotient]
  split
  · next h =>
    have hup : y ≤ 2 * (x % y) := by simp at h; omega
    have : (x : ℤ) - ((x / y + 1 : ℕ) : ℤ) * y = (x % y : ℕ) - (y : ℤ) := by push_cast; linarith
    rw [this]; omega
  · have : (x : ℤ) - ((x / y : ℕ) : ℤ) * y = (x % y : ℕ) := by push_cast; linarith
    rw [this]; omega

/-! ### Two numbers in a common unit -/

theorem Val.natAbs_scaled (v : Val) (k : ℤ) : (v.scaled k).natAbs = v.m <<< (v.k - k).toNat := by
  unfold Val.scaled
  cases v.neg with
  | false => exact Int.natAbs_natCast _
  | true => exact (Int.natAbs_neg _).trans (Int.natAbs_natCast _)

theorem Val.natAbs_scaled_real (v : Val) {k : ℤ} (hk : k ≤ v.k) : ((v.scaled k).natAbs : ℝ) * 2 ^ k = |v.real| := by
  rw [← v.scaled_real hk, abs_mul, abs_of_pos (show (0 : ℝ) < 2 ^ k by positivity), Nat.cast_natAbs, Int.cast_abs]

/-- The significand of a remainder has at most 64 bits above the unit `2^s`, and its exponent is in the range of the
extended format. -/
structure RemStep.Fits (r : RemStep) : Prop where
  bits : ∃ s, 2 ^ s ∣ r.rem.natAbs ∧ r.rem.natAbs < 2 ^ (64 + s)
  unit : -16445 ≤ r.k
  exponent : r.rem ≠ 0 → r.rem.natAbs.log2 + r.k ≤ 16383

/-! ### The delivery of a remainder (R167, R283) -/

/-- What the delivery of the remainder `ρ` to register `j` leaves after the exceptions `l`: its image, with the exponent
moved up when it is tiny and UM = 0; a zero has the sign `neg`. -/
def Npx.LeavesRemainder (n m : Npx) (j : BitVec 3) (neg : Bool) (ρ : ℝ) (l : List Exc) : Prop :=
  ∃ (z : Ext) (tiny : Bool), (tiny = true ↔ ρ ≠ 0 ∧ |ρ| < 2 ^ (-16382 : ℤ) ∧ n.masked .ue = false) ∧
    (ρ = 0 → z = extZero neg) ∧
    (ρ ≠ 0 → ∃ neg' : Bool, (neg' = true ↔ ρ < 0) ∧ IsImage z neg' (if tiny then |ρ| * 2 ^ (24576 : ℤ) else |ρ|)) ∧
    n.Wrote m j z 0 ∧ n.Flagged m (l ++ if tiny then [.ue] else []) false

theorem Npx.LeavesRemainder.after {n m m' : Npx} {j : BitVec 3} {neg : Bool} {ρ : ℝ} {l l' : List Exc}
    (hs : n.SameStack m) (hf : n.Flagged m l false) (h : m.LeavesRemainder m' j neg ρ l') :
    n.LeavesRemainder m' j neg ρ (l ++ l') := by
  obtain ⟨z, tiny, htiny, hzero, himg, hw, hf'⟩ := h
  rw [Npx.masked_of_flagged hf] at htiny
  exact ⟨z, tiny, htiny, hzero, himg, hs.wrote_iff.mp hw, List.append_assoc .. ▸ hf.trans hf'⟩

section
variable (n : Npx) (j : BitVec 3) (neg : Bool) {r : RemStep}

theorem RemStep.abs_real (r : RemStep) : |(r.rem : ℝ) * 2 ^ r.k| = r.rem.natAbs * 2 ^ r.k := by
  rw [abs_mul, abs_of_pos (show (0 : ℝ) < 2 ^ r.k by positivity), Nat.cast_natAbs, Int.cast_abs]

theorem RemStep.real_eq_zero_iff (r : RemStep) : (r.rem : ℝ) * 2 ^ r.k = 0 ↔ r.rem = 0 := by
  simp [zpow_ne_zero]

theorem RemStep.real_neg_iff (r : RemStep) : (r.rem : ℝ) * 2 ^ r.k < 0 ↔ r.rem < 0 := by
  rw [mul_neg_iff]
  simp [show (0 : ℝ) < 2 ^ r.k by positivity, (show (0 : ℝ) < 2 ^ r.k by positivity).le]

/-- A number is tiny when its exponent is below that of the least normal number. -/
theorem natCast_mul_lt_two_zpow_iff {q : ℕ} (hq : q ≠ 0) (k e : ℤ) : (q : ℝ) * 2 ^ k < 2 ^ e ↔ q.log2 + k < e := by
  constructor
  · intro h
    exact (zpow_lt_zpow_iff_right₀ one_lt_two).mp ((two_zpow_log2_le_natCast_mul hq k).trans_lt h)
  · intro h
    exact (natCast_mul_lt_two_zpow_log2 q k).trans_le (zpow_le_zpow_right₀ one_le_two (by omega))

theorem leavesRemainder_remInto (hr : r.Fits) :
    n.LeavesRemainder (n.remInto j neg r) j neg (r.rem * 2 ^ r.k) [] := by
  obtain ⟨⟨s, hdvd, hlt⟩, hunit, hexp⟩ := hr
  have himg (neg' : Bool) {t : ℤ} (ht : -16445 ≤ t) (hmax : r.rem.natAbs.log2 + t ≤ 16383) :
      IsImage (encodeExt neg' r.rem.natAbs t) neg' (r.rem.natAbs * 2 ^ t) :=
    isImage_encodeExt neg' (representable_of_dvd hdvd hlt ht fun _ => hmax)
  rcases eq_or_ne r.rem 0 with h0 | h0
  · rw [Npx.remInto, if_pos h0, h0, Int.cast_zero, zero_mul]
    obtain ⟨hw, hf⟩ := Npx.wrote_setReg_after (n := n) ⟨rfl, rfl, rfl⟩ (n.flagged_signalIf false .ue) j (extZero neg)
    exact ⟨_, false, by simp, fun _ => rfl, fun h => absurd rfl h, hw, hf⟩
  have hq0 : r.rem.natAbs ≠ 0 := Int.natAbs_ne_zero.mpr h0
  have htiny := natCast_mul_lt_two_zpow_iff hq0 r.k (-16382)
  have hρ : (r.rem : ℝ) * 2 ^ r.k ≠ 0 := r.real_eq_zero_iff.not.mpr h0
  have hneg : decide (r.rem < 0) = true ↔ (r.rem : ℝ) * 2 ^ r.k < 0 := decide_eq_true_iff.trans r.real_neg_iff.symm
  rw [Npx.remInto, if_neg h0]
  unfold Npx.LeavesRemainder
  rw [r.abs_real, htiny]
  by_cases h : (r.rem.natAbs.log2 : ℤ) + r.k < -16382 ∧ n.masked .ue = false
  · obtain ⟨hw, hf⟩ := Npx.wrote_setReg_after (n.sameStack_signal .ue) (n.flagged_signal_alone .ue) j
      (encodeExt (decide (r.rem < 0)) r.rem.natAbs (r.k + 24576))
    have hmoved := himg (decide (r.rem < 0)) (t := r.k + 24576) (by omega) (by have := h.1; omega)
    rw [zpow_add₀ two_ne_zero, ← mul_assoc] at hmoved
    rw [if_pos (by simpa using h)]
    exact ⟨_, true, by simp [hρ, h], fun h => absurd h hρ, fun _ => ⟨_, hneg, hmoved⟩, hw, hf⟩
  · obtain ⟨hw, hf⟩ := Npx.wrote_setReg_after (n := n) ⟨rfl, rfl, rfl⟩ (n.flagged_signalIf false .ue) j
      (encodeExt (decide (r.rem < 0)) r.rem.natAbs r.k)
    rw [if_neg (by simpa using h)]
    exact ⟨_, false, by simpa [hρ] using h, fun h => absurd h hρ, fun _ => ⟨_, hneg, himg _ hunit (hexp h0)⟩, hw, hf⟩

end

end Sys2Proof.Machine
end

section
/-! The remainder of two numbers (R283 to R285). -/

namespace Sys2Proof.Machine

/-! ### One step of the reduction (R283) -/

/-- A nonzero number with the significand and the exponent of the extended format. -/
structure Val.InFormat (v : Val) : Prop where
  ne_zero : v.m ≠ 0
  lt : v.m < 2 ^ 64
  le_k : -16445 ≤ v.k
  k_le : v.k ≤ 16320

theorem inFormat_valOf {x : Ext} (h : classOf x = .normal ∨ classOf x = .denormal) : (valOf x).InFormat := by
  obtain ⟨hlt, hmin, hmax⟩ := valOf_bounds h
  exact ⟨significand_ne_zero h, hlt, hmin, hmax⟩

/-- The magnitude of a number in units of `2^k`. -/
def Val.units (v : Val) (k : ℤ) : ℕ := (v.scaled k).natAbs

theorem Val.units_eq {v : Val} {k : ℤ} {s : ℕ} (h : v.k = k + s) : v.units k = v.m * 2 ^ s := by
  rw [Val.units, Val.natAbs_scaled, Nat.shiftLeft_eq, show (v.k - k).toNat = s by omega]

theorem Val.units_pos {v : Val} (hv : v.InFormat) (k : ℤ) : 0 < v.units k := by
  rw [Val.units, Val.natAbs_scaled, Nat.shiftLeft_eq]
  exact Nat.mul_pos (Nat.pos_of_ne_zero hv.ne_zero) (Nat.two_pow_pos _)

theorem Val.units_lt {v : Val} (hv : v.InFormat) {k : ℤ} {s : ℕ} (h : v.k = k + s) : v.units k < 2 ^ (64 + s) := by
  rw [Val.units_eq h, pow_add]
  exact Nat.mul_lt_mul_of_pos_right hv.lt (by positivity)

/-- A remainder no larger than the dividend has an exponent of the extended format. -/
theorem exponent_le_of_le_units {v : Val} (hv : v.InFormat) {k : ℤ} (hk : k ≤ v.k) {q : ℕ} (hq : q ≤ v.units k) :
    q.log2 + k ≤ 16383 := by
  obtain ⟨s, hs⟩ : ∃ s : ℕ, v.k = k + s := ⟨(v.k - k).toNat, by omega⟩
  have hlt : q < 2 ^ (63 + s + 1) := hq.trans_lt ((Val.units_lt hv hs).trans_eq (by congr 1; omega))
  have := log2_le_of_lt hlt
  have := hv.k_le
  omega

/-- The sign of a remainder is that of the dividend, or its inverse. -/
def signInt (neg : Bool) : ℤ := if neg then -1 else 1

@[simp] theorem signInt_cast (neg : Bool) : (signInt neg : ℝ) = signOf neg := by
  cases neg <;> simp [signInt, signOf]

@[simp] theorem natAbs_signInt_mul (neg : Bool) (z : ℤ) : (signInt neg * z).natAbs = z.natAbs := by
  cases neg <;> simp [signInt]

section
variable {x y : Val} (hx : x.InFormat) (hy : y.InFormat) (nearest : Bool)

/-- A complete reduction (R283). -/
theorem remStep_complete (x y : Val) (nearest : Bool) (h : x.log2 - y.log2 < 64) :
    let k := min x.k y.k
    let q := remQuotient nearest (x.units k) (y.units k)
    remStep nearest x y = ⟨signInt x.neg * ((x.units k : ℤ) - q * y.units k), k, some q⟩ := by
  simp only [remStep, if_pos h]
  rfl

/-- An incomplete reduction takes away a multiple of the divisor shifted by `e` bits (R283). -/
theorem remStep_incomplete (x y : Val) (nearest : Bool) (h : ¬x.log2 - y.log2 < 64) :
    let k := min x.k y.k
    let e := (x.log2 - y.log2).toNat - Config.fpremN (x.log2 - y.log2).toNat
    remStep nearest x y = ⟨signInt x.neg * (x.units k % (y.units k * 2 ^ e) : ℕ), k, none⟩ := by
  intro k e
  have hmod (X Y : ℕ) : (X : ℤ) - ((X / Y <<< e * Y) <<< e : ℕ) = (X % (Y * 2 ^ e) : ℕ) := by
    rw [sub_eq_iff_eq_add, Nat.shiftLeft_eq, Nat.shiftLeft_eq, mul_assoc, mul_comm (X / _)]
    exact_mod_cast (Nat.mod_add_div X (Y * 2 ^ e)).symm
  simp only [remStep, if_neg h]
  rw [← hmod]
  rfl

include hx hy

theorem fits_complete (h : x.log2 - y.log2 < 64) : (remStep nearest x y).Fits := by
  rw [remStep_complete x y nearest h]
  obtain ⟨hlex, hley⟩ := natAbs_remainder_le nearest (x.units (min x.k y.k)) (Val.units_pos hy (min x.k y.k))
  have hbits : 2 ^ 64 > x.units (min x.k y.k) ∨ 2 ^ 64 > y.units (min x.k y.k) := by
    rcases le_total x.k y.k with hk | hk
    · exact .inl (Val.units_lt hx (s := 0) (by simp [hk]))
    · exact .inr (Val.units_lt hy (s := 0) (by simp [hk]))
  refine ⟨⟨0, by simp, ?_⟩, le_min hx.le_k hy.le_k, fun _ => ?_⟩
  · rw [natAbs_signInt_mul]
    omega
  · rw [natAbs_signInt_mul]
    exact exponent_le_of_le_units hx (min_le_left _ _) hlex

omit hy in
/-- Of an incomplete reduction the divisor has the smaller unit. -/
theorem unit_of_incomplete (h : ¬x.log2 - y.log2 < 64) : y.k ≤ x.k := by
  have hlog := log2_le_of_lt (c := 63) hx.lt
  simp only [Val.log2] at h
  omega

theorem fits_incomplete (h : ¬x.log2 - y.log2 < 64) : (remStep nearest x y).Fits := by
  have hk := unit_of_incomplete hx h
  rw [remStep_incomplete x y nearest h]
  generalize (x.log2 - y.log2).toNat - Config.fpremN (x.log2 - y.log2).toNat = e
  obtain ⟨s, hs⟩ : ∃ s : ℕ, x.k = y.k + s := ⟨(x.k - y.k).toNat, by omega⟩
  rw [min_eq_right hk]
  have hle : x.units y.k % (y.units y.k * 2 ^ e) ≤ x.units y.k := Nat.mod_le _ _
  refine ⟨?_, hy.le_k, fun _ => ?_⟩
  · rw [natAbs_signInt_mul, Int.natAbs_natCast]
    rcases le_total e s with hes | hes
    · refine ⟨e, (Nat.dvd_mod_iff (Dvd.intro_left _ rfl)).mpr ?_, ?_⟩
      · rw [Val.units_eq hs]
        exact (pow_dvd_pow 2 hes).trans (Dvd.intro_left _ rfl)
      · have hlt := Nat.mod_lt (x.units y.k) (y := y.units y.k * 2 ^ e) (by have := Val.units_pos hy y.k; positivity)
        refine hlt.trans ?_
        rw [pow_add]
        exact Nat.mul_lt_mul_of_pos_right (Val.units_lt hy (s := 0) (by simp)) (by positivity)
    · refine ⟨s, (Nat.dvd_mod_iff ((pow_dvd_pow 2 hes).trans (Dvd.intro_left _ rfl))).mpr ?_,
        hle.trans_lt (Val.units_lt hx hs)⟩
      rw [Val.units_eq hs]
      exact Dvd.intro_left _ rfl
  · rw [natAbs_signInt_mul, Int.natAbs_natCast]
    exact exponent_le_of_le_units hx hk hle

end

/-! ### The remainder as a real number (R283 to R285) -/

theorem ratio_units {x y : Val} {k : ℤ} (hkx : k ≤ x.k) (hky : k ≤ y.k) :
    |x.real| / |y.real| = (x.units k : ℝ) / y.units k := by
  rw [← x.natAbs_scaled_real hkx, ← y.natAbs_scaled_real hky, mul_div_mul_right _ _ (by positivity)]
  rfl

section
variable {x y : Val} (hx : x.InFormat) (hy : y.InFormat) (nearest : Bool)
include hx hy

/-- A complete reduction: the quotient is that of the magnitudes, rounded; the remainder is exact. -/
theorem remStep_complete_real (h : x.log2 - y.log2 < 64) :
    ∃ q : ℕ, (remStep nearest x y).quotient = some q ∧
      IsRounded (if nearest then .nearest else .chop) false (|x.real| / |y.real|) 1 q ∧
      ((remStep nearest x y).rem : ℝ) * 2 ^ (remStep nearest x y).k = signOf x.neg * (|x.real| - q * |y.real|) := by
  have hkx := min_le_left x.k y.k
  have hky := min_le_right x.k y.k
  rw [remStep_complete x y nearest h]
  refine ⟨_, rfl, ?_, ?_⟩
  · rw [ratio_units hkx hky]
    exact isRounded_remQuotient nearest (Val.units_pos hx _) (Val.units_pos hy _)
  · rw [← x.natAbs_scaled_real hkx, ← y.natAbs_scaled_real hky]
    push_cast
    rw [signInt_cast, Val.units, Val.units]
    ring

omit hx hy in
/-- An incomplete reduction: a multiple of the divisor times a power of two is taken away. -/
theorem remStep_incomplete_real (h : ¬x.log2 - y.log2 < 64) :
    ∃ N : ℤ, 32 ≤ N ∧ N ≤ 63 ∧ (remStep nearest x y).quotient = none ∧
      ((remStep nearest x y).rem : ℝ) * 2 ^ (remStep nearest x y).k = signOf x.neg *
        (|x.real| - |y.real| * ⌊|x.real| / |y.real| / 2 ^ (x.log2 - y.log2 - N)⌋ * 2 ^ (x.log2 - y.log2 - N)) := by
  have hkx := min_le_left x.k y.k
  have hky := min_le_right x.k y.k
  have hN : (Config.fpremExtra (x.log2 - y.log2).toNat).toNat < 32 := (Config.fpremExtra _).isLt
  rw [remStep_incomplete x y nearest h]
  refine ⟨Config.fpremN (x.log2 - y.log2).toNat, by simp [Config.fpremN], by rw [Config.fpremN]; omega, rfl, ?_⟩
  have he : x.log2 - y.log2 - Config.fpremN (x.log2 - y.log2).toNat =
      ((x.log2 - y.log2).toNat - Config.fpremN (x.log2 - y.log2).toNat : ℕ) := by
    rw [Config.fpremN]; omega
  rw [he]
  generalize (x.log2 - y.log2).toNat - Config.fpremN (x.log2 - y.log2).toNat = e
  rw [ratio_units hkx hky, ← x.natAbs_scaled_real hkx, ← y.natAbs_scaled_real hky, ← Val.units, ← Val.units]
  generalize x.units (min x.k y.k) = X
  generalize y.units (min x.k y.k) = Y
  have hfloor : ⌊(X : ℝ) / Y / 2 ^ (e : ℤ)⌋ = (X / (Y * 2 ^ e) : ℕ) := by
    rw [div_div, zpow_natCast, ← Nat.cast_ofNat, ← Nat.cast_pow, ← Nat.cast_mul, Int.floor_div_natCast,
      Int.floor_natCast, Int.natCast_div]
  have hmod : ((X % (Y * 2 ^ e) : ℕ) : ℝ) = X - Y * 2 ^ e * (X / (Y * 2 ^ e) : ℕ) := by
    rw [eq_sub_iff_add_eq]
    exact_mod_cast Nat.mod_add_div X (Y * 2 ^ e)
  rw [hfloor, Int.cast_mul, signInt_cast, Int.cast_natCast, hmod, Int.cast_natCast, zpow_natCast]
  ring

end

/-! ### The instructions (R284, R285) -/

theorem fpremStep_of_numbers (nearest : Bool) (d : Nat) (n : Npx) {a b : Opnd} (ha : n.stOpnd 0 = some a)
    (hb : n.stOpnd 1 = some b) (hna : a.nonzero = true) (hnb : b.nonzero = true) (hden : n.denormalOk a b = true) :
    let r := remStep nearest (valOf a.img) (valOf b.img)
    fpremStep nearest d n =
      ((n.noteDenormal a b).remInto (n.phys 0) (extSign a.img) r).setReduction r.quotient := by
  have hza := Opnd.cls_of_nonzero hna
  have hzb := Opnd.cls_of_nonzero hnb
  rw [fpremStep_of_ordinary _ _ _ ha hb (Opnd.ordinary_of_nonzero hna) (Opnd.ordinary_of_nonzero hnb),
    if_neg (by simp [hza, hzb]), if_neg (by simp [hden]), if_neg (by simp [hza, hzb])]

/-- The remainder of a reduction, after DE for a denormal operand. -/
theorem leavesRemainder_reduction (n : Npx) (a b : Opnd) (j : BitVec 3) (neg : Bool) {r : RemStep} (hr : r.Fits) :
    n.LeavesRemainder (((n.noteDenormal a b).remInto j neg r).setReduction r.quotient) j neg (r.rem * 2 ^ r.k)
      (denormalFlag a b) := by
  obtain ⟨z, tiny, htiny, hzero, himg, hw, hf⟩ := Npx.LeavesRemainder.after (n.sameStack_noteDenormal a b)
    (n.flagged_noteDenormal a b) (leavesRemainder_remInto (n.noteDenormal a b) j neg hr)
  rw [List.append_nil] at hf
  cases r.quotient <;> exact ⟨z, tiny, htiny, hzero, himg, hw, Npx.flagged_setCC_setC1.mpr hf⟩

/-- Settles O49: the remainder is an integer in the smaller unit of the operands, and short enough to be delivered
exactly. -/
theorem remainder : Obligations.Remainder := by
  unfold Obligations.Remainder
  intro i pre s a b hi h ha hb hna hnb hden
  obtain ⟨t, nearest, hmode, he, hnpx⟩ : ∃ t nearest,
      (if i = .fprem pre then RC.chop else .nearest) = (if nearest then .nearest else .chop) ∧
      exec i s = .next t ∧ t.npx = fpremStep nearest s.draws s.npx := by
    rcases hi with rfl | rfl
    · obtain ⟨t, ht⟩ := exec_numReg_of_ready (i := .fprem pre) rfl rfl rfl h
      exact ⟨t, false, by simp, ht⟩
    · obtain ⟨t, ht⟩ := exec_numReg_of_ready (i := .fprem1 pre) rfl rfl rfl h
      exact ⟨t, true, by simp, ht⟩
  have hnumx := (proper_of_stOpnd ha).nonzero hna
  have hnumy := (proper_of_stOpnd hb).nonzero hnb
  have hx := inFormat_valOf hnumx
  have hy := inFormat_valOf hnumy
  have hleaves := leavesRemainder_reduction s.npx a b (s.npx.phys 0) (extSign a.img)
    (r := remStep nearest (valOf a.img) (valOf b.img))
  refine ⟨t, he, ?_⟩
  dsimp only
  rw [hmode, hnpx, fpremStep_of_numbers nearest _ _ ha hb hna hnb hden, ← log2_valOf_eq hnumx, ← log2_valOf_eq hnumy]
  by_cases hdist : (valOf a.img).log2 - (valOf b.img).log2 < 64
  · obtain ⟨q, hq, hround, hreal⟩ := remStep_complete_real hx hy nearest hdist
    rw [hq]
    obtain ⟨z, tiny, hz⟩ := hq ▸ hleaves (fits_complete hx hy nearest hdist)
    exact ⟨_, z, tiny, fun _ => ⟨q, hround, hreal, rfl, rfl, rfl, rfl⟩, fun hge => absurd hdist (not_lt.mpr hge), hz⟩
  · obtain ⟨N, hmin, hmax, hq, hreal⟩ := remStep_incomplete_real nearest hdist
    rw [hq]
    obtain ⟨z, tiny, hz⟩ := hq ▸ hleaves (fits_incomplete hx hy nearest hdist)
    exact ⟨_, z, tiny, fun hlt => absurd hlt hdist, fun _ => ⟨N, hmin, hmax, hreal, rfl, rfl, rfl, rfl⟩, hz⟩

end Sys2Proof.Machine
end

section
/-! Rules that check their operands, where the computation is one exact or one rounded result (R153, R174). -/

namespace Sys2Proof.Machine

section
variable {n m : Npx} {oa ob : Option Opnd} {invalid : Opnd → Opnd → Bool} {p : StIndex} {k d : Nat}
  {g : Opnd → Opnd → Npx → Npx} (hm : n.CheckedRule m oa ob invalid (n.phys p) k d g) {a b : Opnd} (ha : oa = some a)
  (hb : ob = some b) (hoa : a.ordinary = true) (hob : b.ordinary = true) (h : invalid a b = false)
  (hden : n.denormalOk a b = true)
include hm ha hb hoa hob h hden

/-- The computation is an exact result. -/
theorem Npx.CheckedRule.answered_exactInto {x : Ext} (hg : ∀ n : Npx, g a b n = n.exactInto (n.phys p) k x) :
    n.Answered m (n.phys p) x k (denormalFlag a b) false := by
  have hanswer := (n.noteDenormal a b).answered_exactInto (n.phys p) x k
  rw [← Npx.noteDenormal_phys n a b, ← hg, Npx.noteDenormal_phys] at hanswer
  exact hm.answered_exact ha hb hoa hob h hden hanswer

/-- The computation is a rounded result. -/
theorem Npx.CheckedRule.answered_deliverInto {r : Npx → Delivered}
    (hg : ∀ n : Npx, g a b n = n.deliverInto (n.phys p) k (r n)) :
    let r' := r (n.noteDenormal a b)
    n.Answered m (n.phys p) r'.img k (denormalFlag a b ++ r'.exceptions) r'.c1 := by
  have hanswer := (n.noteDenormal a b).answered_deliverInto (n.phys p) k (r (n.noteDenormal a b))
  rw [← Npx.noteDenormal_phys n a b, ← hg, Npx.noteDenormal_phys] at hanswer
  exact hm.answered ha hb hoa hob h hden hanswer

end

end Sys2Proof.Machine
end

section
/-! FPATAN on zeros and infinities (R306): a zero, or a multiple of pi by the quadrant. -/

namespace Sys2Proof.Machine

/-! ### The quadrant (R306) -/

section
variable {y x : Opnd}

/-- A zero `y`, or a number beside an infinite `x`: the angle is a zero or pi. -/
theorem atanCase_axis (h : y.cls = .zero ∧ x.ordinary = true ∨ y.nonzero = true ∧ x.cls = .infinity) :
    atanCase y x = if x.neg then .multiple constPi else .zero := by
  rcases h with ⟨hy, -⟩ | ⟨hy, hx⟩
  · simp [atanCase, Opnd.isZero, hy]
  · simp [atanCase, Opnd.isZero, Opnd.isInf, Opnd.cls_of_nonzero hy, hx]

theorem atanCase_right_angle
    (h : x.cls = .zero ∧ (y.nonzero = true ∨ y.cls = .infinity) ∨ y.cls = .infinity ∧ x.finite = true) :
    atanCase y x = .multiple constHalfPi := by
  rcases h with ⟨hx, hy | hy⟩ | ⟨hy, hx⟩
  · simp [atanCase, Opnd.isZero, Opnd.cls_of_nonzero hy, hx]
  · simp [atanCase, Opnd.isZero, hy, hx]
  · simp [atanCase, Opnd.isZero, Opnd.isInf, hy, ((Opnd.finite_iff x).mp hx).2]

theorem atanCase_diagonal (hy : y.cls = .infinity) (hx : x.cls = .infinity) :
    atanCase y x = .multiple (if x.neg then constThreeQuarterPi else constQuarterPi) := by
  simp [atanCase, Opnd.isZero, Opnd.isInf, hy, hx]

end

/-! ### The answer (R306) -/

/-- An image with a sign. -/
def withSign (neg : Bool) (z : Ext) : Ext := if neg then extNeg z else z

theorem withSign_zero (neg : Bool) : withSign neg 0 = extZero neg := by
  cases neg <;> rfl

/-- The case that `atanCase` selects has the special value `z`. -/
inductive SpecialAtan (rc : RC) (y x : Opnd) : Ext → Prop
  | zero : atanCase y x = .zero → SpecialAtan rc y x 0
  | multiple (k : RC → Ext) : atanCase y x = .multiple k → SpecialAtan rc y x (k rc)

theorem Npx.CheckedRule.wrote_special {n m : Npx} {d : Nat} {y x : Opnd} {z : Ext}
    (hm : n.CheckedRule m (n.stOpnd 1) (n.stOpnd 0) (fun _ _ => false) (n.phys 1) 1 d fpatanRule)
    (hy : n.stOpnd 1 = some y) (hx : n.stOpnd 0 = some x) (hoy : y.ordinary = true) (hox : x.ordinary = true)
    (hden : n.denormalOk y x = true) (hz : SpecialAtan n.rc y x z) :
    n.Wrote m (n.phys 1) (withSign (extSign y.img) z) 1 := by
  cases hz with
  | zero hcase =>
    obtain ⟨hw, -⟩ := hm.answered_exactInto hy hx hoy hox rfl hden (x := extZero y.neg) fun n => by
      simp only [fpatanRule, hcase]
    rwa [withSign_zero]
  | multiple k hcase =>
    obtain ⟨hw, -⟩ := hm.answered_deliverInto hy hx hoy hox rfl hden (r := fun n => deliverConstant n.rc y.neg k)
      fun n => by simp only [fpatanRule, hcase]
    rwa [Npx.noteDenormal_rc] at hw

/-- Settles O52: each case is a branch of `atanCase`, and RC selects the image of the multiple of pi. -/
theorem arctangentSpecialValues : Obligations.ArctangentSpecialValues := by
  unfold Obligations.ArctangentSpecialValues
  intro pre s x y z h hx hy hden up neg hcase
  obtain ⟨t, he, hnpx⟩ := exec_numReg_of_ready (i := .fpatan pre) rfl rfl rfl h
  have hrule := checkedRule_fpatan s.draws s.npx
  rw [← hnpx] at hrule
  have hwrote (hox : x.ordinary = true) (hoy : y.ordinary = true) (hz : SpecialAtan s.npx.rc y x z) :=
    hrule.wrote_special hy hx hoy hox hden hz
  have hord : y.cls = .zero ∧ x.ordinary = true ∨ y.nonzero = true ∧ x.cls = .infinity →
      x.ordinary = true ∧ y.ordinary = true := by
    rintro (⟨hyz, hox⟩ | ⟨hyn, hxi⟩)
    · exact ⟨hox, Opnd.ordinary_of_zero hyz⟩
    · exact ⟨Opnd.ordinary_of_infinity hxi, Opnd.ordinary_of_nonzero hyn⟩
  refine ⟨t, he, ?_⟩
  rcases hcase with ⟨haxis, hneg, hz⟩ | ⟨haxis, hneg, hhigh, hlow⟩ | ⟨hright, hhigh, hlow⟩ |
    ⟨hyi, hxi, hneg, hhigh, hlow⟩ | ⟨hyi, hxi, hneg, hhigh, hlow⟩
  · obtain ⟨hox, hoy⟩ := hord haxis
    exact hwrote hox hoy (hz ▸ .zero ((atanCase_axis haxis).trans (if_neg hneg)))
  · obtain ⟨hox, hoy⟩ := hord haxis
    exact hwrote hox hoy (eq_byNearestUp hhigh hlow ▸ .multiple constPi ((atanCase_axis haxis).trans (if_pos hneg)))
  · obtain ⟨hox, hoy⟩ : x.ordinary = true ∧ y.ordinary = true := by
      rcases hright with ⟨hxz, hy | hyi⟩ | ⟨hyi, hxf⟩
      · exact ⟨Opnd.ordinary_of_zero hxz, Opnd.ordinary_of_nonzero hy⟩
      · exact ⟨Opnd.ordinary_of_zero hxz, Opnd.ordinary_of_infinity hyi⟩
      · exact ⟨Opnd.ordinary_of_finite hxf, Opnd.ordinary_of_infinity hyi⟩
    exact hwrote hox hoy (eq_byNearestUp hhigh hlow ▸ .multiple constHalfPi (atanCase_right_angle hright))
  · exact hwrote (Opnd.ordinary_of_infinity hxi) (Opnd.ordinary_of_infinity hyi)
      (eq_byNearestUp hhigh hlow ▸
        .multiple constQuarterPi ((atanCase_diagonal hyi hxi).trans (congrArg _ (if_neg hneg))))
  · exact hwrote (Opnd.ordinary_of_infinity hxi) (Opnd.ordinary_of_infinity hyi)
      (eq_byNearestUp hhigh hlow ▸
        .multiple constThreeQuarterPi ((atanCase_diagonal hyi hxi).trans (congrArg _ (if_pos hneg))))

end Sys2Proof.Machine
end

section
/-! FYL2X, FYL2XP1 and F2XM1 on the operands that have an exact result, or none (R307 to R309). -/

namespace Sys2Proof.Machine

/-! ### Comparing a number with 1 -/

@[simp] theorem valOne_real : valOne.real = 1 := by
  simp [valOne, Val.real, signOf]

theorem Val.real_abs (v : Val) : v.abs.real = |v.real| := by
  rw [Val.abs_real]
  simp [Val.abs, Val.real, signOf]

theorem compareVal_valOne_lt_iff (v : Val) : compareVal v valOne = .lt ↔ v.real < 1 := by
  obtain ⟨hlt, hgt, heq⟩ := compareVal_eq v valOne
  rw [valOne_real] at hlt hgt heq
  refine ⟨fun h => ?_, hlt⟩
  rcases lt_trichotomy v.real 1 with h1 | h1 | h1
  · exact h1
  · exact absurd (h.symm.trans (heq h1)) nofun
  · exact absurd (h.symm.trans (hgt h1)) nofun

/-- A normal number has the integer bit of its significand set. -/
theorem normal_fields {x : Ext} (h : classOf x = .normal) :
    (valOf x).k = (extExp x).toNat - 16446 ∧ (valOf x).m.log2 = 63 := by
  have hfields : (extExp x).toNat ≠ 0 ∧ (extSig x).getLsbD 63 = true := by grind [classOf]
  obtain ⟨he, hm⟩ := hfields
  rw [getLsbD_63_iff] at hm
  refine ⟨?_, (Nat.log2_eq_iff (show (extSig x).toNat ≠ 0 by omega)).mpr ⟨hm, (extSig x).isLt⟩⟩
  simp only [valOf, if_neg he]
  omega

/-- Zeros and denormals have the least exponent. -/
theorem k_of_tiny {x : Ext} (h : classOf x = .zero ∨ classOf x = .denormal) : (valOf x).k = -16445 := by
  have he : (extExp x).toNat = 0 := by grind [classOf]
  simp [valOf, he]

/-- The image of 1 or -1. -/
def extUnit (neg : Bool) : Ext := mkExt neg 0x3FFF 0x8000000000000000

theorem extUnit_false : extUnit false = extOne := by decide

@[simp] theorem classOf_extUnit (neg : Bool) : classOf (extUnit neg) = .normal := by
  cases neg <;> decide

@[simp] theorem extReal_extUnit (neg : Bool) : extReal (extUnit neg) = signOf neg := by
  have he : (0x3FFF : BitVec 15).toNat = 16383 := rfl
  have hm : (0x8000000000000000 : BitVec 64).toNat = 2 ^ 63 := rfl
  rw [extUnit, extReal_mkExt, he, hm, mul_assoc]
  norm_num

theorem signOf_inj {a b : Bool} (h : signOf a = signOf b) : a = b := by
  by_contra hne
  have hab : a = !b := Bool.eq_not.mpr hne
  cases b <;> norm_num [hab, signOf] at h

/-- The only numbers of magnitude 1 are the images of 1 and -1. -/
theorem eq_extUnit {x : Ext} (h : classOf x = .normal ∨ classOf x = .denormal) {neg : Bool}
    (h1 : extReal x = signOf neg) : x = extUnit neg := by
  have habs : |extReal x| = 1 := by rw [h1, signOf_abs]
  have hlog : (valOf x).log2 = 0 := by
    rw [log2_valOf_eq h, habs, floorLog2, Real.logb_one, Int.floor_zero]
  have hm := log2_significand_le h
  rw [Val.log2] at hlog
  have hnormal : classOf x = .normal := h.resolve_right fun hd => by
    have := k_of_tiny (.inr hd)
    omega
  obtain ⟨hk, hm63⟩ := normal_fields hnormal
  have hexp : extExp x = 0x3FFF := BitVec.eq_of_toNat_eq (show _ = 16383 by omega)
  have hsig : extSig x = 0x8000000000000000 := by
    have hmul : ((valOf x).m : ℝ) * 2 ^ (valOf x).k = 1 := by rwa [← Val.abs_real]
    rw [show (valOf x).k = -(63 : ℕ) by omega, zpow_neg, zpow_natCast, mul_inv_eq_one₀ (by positivity)] at hmul
    exact BitVec.eq_of_toNat_eq (show (valOf x).m = 2 ^ 63 by exact_mod_cast hmul)
  have himg : x = extUnit (extSign x) := by rw [extUnit, ← hsig, ← hexp, mkExt_fields]
  have hsign : signOf (extSign x) = signOf neg := by rw [← h1, himg, extReal_extUnit, ← himg]
  rw [himg, signOf_inj hsign]

/-- An operand is 1 when its image is. -/
theorem nonzero_and_extReal_eq_one_iff {n : Npx} {i : StIndex} {a : Opnd} (ha : n.stOpnd i = some a) :
    a.nonzero = true ∧ extReal a.img = 1 ↔ a.img = extOne := by
  rw [← extUnit_false]
  constructor
  · rintro ⟨hnz, h1⟩
    exact eq_extUnit ((proper_of_stOpnd ha).nonzero hnz) h1
  · intro himg
    have hcls : a.cls = .normal := by rw [cls_of_stOpnd ha, himg, classOf_extUnit]
    exact ⟨by simp [Opnd.nonzero, hcls], by rw [himg, extReal_extUnit]; rfl⟩

/-! ### FYL2X (R308) -/

/-- The exact special values of FYL2X (R308); `below` says that `x` is below 1. -/
inductive SpecialLog (y x : Opnd) : Ext → Prop
  | ofZero : x.cls = .zero → y.cls = .infinity → SpecialLog y x (extInf (!y.neg))
  | ofInfinity : x.cls = .infinity → SpecialLog y x (extInf y.neg)
  | infinite (below : Bool) : x.nonzero = true → y.cls = .infinity → (below = true ↔ extReal x.img < 1) →
      SpecialLog y x (extInf (y.neg ^^ below))
  | ofOne : x.nonzero = true → x.img = extOne → y.cls ≠ .infinity → SpecialLog y x (extZero y.neg)
  | zero (below : Bool) : x.nonzero = true → x.img ≠ extOne → y.cls = .zero → (below = true ↔ extReal x.img < 1) →
      SpecialLog y x (extZero (y.neg ^^ below))

theorem compareVal_valOne_beq {x : Ext} {below : Bool} (h : below = true ↔ extReal x < 1) :
    (compareVal (valOf x) valOne == .lt) = below := by
  rw [Bool.eq_iff_iff, beq_iff_eq, compareVal_valOne_lt_iff, h]
  rfl

section
variable {y x : Opnd} (d : Nat) (n : Npx)

theorem fyl2xRule_special {z : Ext} (h : SpecialLog y x z) : fyl2xRule y x d n = n.exactInto (n.phys 1) 1 z := by
  cases h with
  | ofZero hx hy => simp [fyl2xRule, Opnd.isZero, Opnd.isInf, hx, hy]
  | ofInfinity hx => simp [fyl2xRule, Opnd.isZero, Opnd.isInf, hx]
  | infinite below hx hy hb =>
    simp [fyl2xRule, Opnd.isZero, Opnd.isInf, Opnd.cls_of_nonzero hx, hy, compareVal_valOne_beq hb]
  | ofOne hx h1 hy => simp [fyl2xRule, Opnd.isZero, Opnd.isInf, Opnd.cls_of_nonzero hx, hy, h1]
  | zero below hx h1 hy hb =>
    simp [fyl2xRule, Opnd.isZero, Opnd.isInf, Opnd.cls_of_nonzero hx, hy, h1, compareVal_valOne_beq hb]

/-- The logarithm of zero (R165, R308). -/
theorem respondedTo_fyl2xRule_zero (hx : x.cls = .zero) (hy : y.cls ≠ .infinity) :
    n.RespondedTo (fyl2xRule y x d n) .ze [.ze] (n.phys 1) (extInf (!y.neg)) 1 := by
  have hrule : fyl2xRule y x d n =
      if ((n.signal .ze).setC1 false).masked .ze then
        Npx.pops 1 (((n.signal .ze).setC1 false).setReg (n.phys 1) (extInf (!y.neg)))
      else (n.signal .ze).setC1 false := by
    simp [fyl2xRule, Opnd.isZero, Opnd.isInf, hx, hy]
  rw [hrule]
  exact n.respondedTo_signal ..

end

theorem fyl2xInvalid_iff {n : Npx} {i : StIndex} {y x : Opnd} (hx : n.stOpnd i = some x) :
    fyl2xInvalid y x = true ↔
      (extSign x.img = true ∧ x.cls ≠ .zero) ∨ (x.cls = .zero ∧ y.cls = .zero) ∨ (x.cls = .infinity ∧ y.cls = .zero) ∨
        ((x.nonzero = true ∧ extReal x.img = 1) ∧ y.cls = .infinity) := by
  rw [nonzero_and_extReal_eq_one_iff hx]
  simp [fyl2xInvalid, Opnd.isZero, Opnd.isInf, Opnd.neg, or_assoc]

/-! ### FYL2XP1 (R309) -/

/-- The range test on 1 and a magnitude, both in the unit `u`. -/
theorem inRange_iff {a b : ℤ} {r u : ℝ} (hu : 0 < u) (ha : a * u = 1) (hb : b * u = r) :
    0 < a - b ∧ a * a < 2 * ((a - b) * (a - b)) ↔ r < (2 - Real.sqrt 2) / 2 := by
  have hdiff : ((a - b : ℤ) : ℝ) * u = 1 - r := by rw [← ha, ← hb]; push_cast; ring
  have hpos : 0 < a - b ↔ 0 < 1 - r := by
    rw [← hdiff, mul_pos_iff_of_pos_right hu, Int.cast_pos]
  have hsq : a * a < 2 * ((a - b) * (a - b)) ↔ 1 < 2 * (1 - r) ^ 2 := by
    have h1 : (1 : ℝ) = (a * a : ℤ) * (u * u) := by push_cast; linear_combination (-1 - a * u) * ha
    rw [← hdiff, h1, show 2 * (((a - b : ℤ) : ℝ) * u) ^ 2 = (2 * ((a - b) * (a - b)) : ℤ) * (u * u) by push_cast; ring,
      mul_lt_mul_iff_left₀ (by positivity), Int.cast_lt]
  have h2 : Real.sqrt 2 ^ 2 = 2 := Real.sq_sqrt (by norm_num)
  have h0 : 0 < Real.sqrt 2 := by positivity
  rw [hpos, hsq]
  constructor
  · rintro ⟨h1, hlt⟩
    nlinarith
  · intro hlt
    exact ⟨by linarith, by nlinarith⟩

/-- The range test on integers is the one on the real numbers. -/
theorem ylog2xp1InRange_iff (v : Val) : ylog2xp1InRange v = true ↔ |v.real| < (2 - Real.sqrt 2) / 2 := by
  have hone := valOne.scaled_real (min_le_left valOne.k v.abs.k)
  have habs := v.abs.scaled_real (min_le_right valOne.k v.abs.k)
  rw [valOne_real] at hone
  rw [Val.real_abs] at habs
  rw [← inRange_iff (by positivity) hone habs]
  exact (Bool.and_eq_true_iff).trans (and_congr decide_eq_true_iff decide_eq_true_iff)

section
variable {y x : Opnd} (d : Nat) (n : Npx)

theorem fyl2xp1Rule_zero (hx : x.cls = .zero) :
    fyl2xp1Rule y x d n = n.exactInto (n.phys 1) 1 (extZero (extSign x.img ^^ extSign y.img)) := by
  simp [fyl2xp1Rule, Opnd.isZero, hx, signXor, Opnd.neg]

/-- In its range FYL2XP1 computes, or answers an infinity for an infinite `y`. -/
theorem fyl2xp1Rule_inRange (hx : x.nonzero = true) (hr : |extReal x.img| < (2 - Real.sqrt 2) / 2) :
    fyl2xp1Rule y x d n =
      if y.cls = .infinity then n.exactInto (n.phys 1) 1 (extInf (extSign x.img ^^ extSign y.img))
      else n.deliverInto (n.phys 1) 1 (n.ylog2xp1 y.img x.img) := by
  have hrange : ylog2xp1InRange (valOf x.img) = true := (ylog2xp1InRange_iff _).mpr hr
  simp [fyl2xp1Rule, Opnd.isZero, Opnd.isInf, Opnd.cls_of_nonzero hx, hrange, signXor, Opnd.neg]

end

/-! ### F2XM1 (R307) -/

section
variable {a : Opnd} (d : Nat) (n : Npx)

theorem f2xm1Rule_zero (h : a.cls = .zero) : f2xm1Rule a d n = n.exactInto (n.phys 0) 0 a.img := by
  simp [f2xm1Rule, Opnd.isZero, h]

variable (h : a.nonzero = true)
include h

theorem f2xm1Rule_one {neg : Bool} (h1 : a.img = extUnit neg) :
    f2xm1Rule a d n = n.exactInto (n.phys 0) 0 (if neg then 0xBFFE8000000000000000 else extOne) := by
  have hcmp : compareVal (valOf a.img).abs valOne = .eq := by
    obtain ⟨-, -, heq⟩ := compareVal_eq (valOf a.img).abs valOne
    refine heq ?_
    rw [Val.real_abs, valOne_real, ← extReal, h1, extReal_extUnit, signOf_abs]
  have hneg : a.neg = neg := by rw [Opnd.neg, h1, extUnit, extSign_mkExt]
  simp [f2xm1Rule, Opnd.isZero, Opnd.isInf, Opnd.cls_of_nonzero h, hcmp, hneg]

theorem f2xm1Rule_inRange (h1 : |extReal a.img| < 1) :
    f2xm1Rule a d n = n.deliverInto (n.phys 0) 0 (n.transc1 .exp2m1 a.img) := by
  have hcmp : compareVal (valOf a.img).abs valOne = .lt :=
    (compareVal_valOne_lt_iff _).mpr (by rw [Val.real_abs]; exact h1)
  simp [f2xm1Rule, Opnd.isZero, Opnd.isInf, Opnd.cls_of_nonzero h, hcmp]

end

/-- Settles O53: the special values are branches of the rules, and `compareVal` and the range test compare the real
numbers. -/
theorem logarithmSpecialValues : Obligations.LogarithmSpecialValues := by
  unfold Obligations.LogarithmSpecialValues
  refine ⟨fun pre s x y h hx hy hox hoy => ?_, fun pre s x y h hx hy hden => ?_, fun pre s a z h ha hden hz => ?_⟩
  · obtain ⟨t, he, hnpx⟩ := exec_numReg_of_ready (i := .fyl2x pre) rfl rfl rfl h
    have hrule := checkedRule_fyl2x s.draws s.npx
    rw [← hnpx] at hrule
    have hone := nonzero_and_extReal_eq_one_iff hx
    refine ⟨t, he, fun hinv => hrule.of_invalidPair hy hx hoy hox ((fyl2xInvalid_iff hx).mpr hinv),
      fun hvalid hden => ?_⟩
    have hvalid' : fyl2xInvalid y x = false := by rwa [← Bool.not_eq_true, fyl2xInvalid_iff hx]
    refine ⟨fun hxz hyn => ?_, fun z hz => ?_⟩
    · have hresponse := respondedTo_fyl2xRule_zero s.draws (s.npx.noteDenormal y x) hxz (Opnd.cls_of_nonzero hyn).2
      rw [Npx.noteDenormal_phys] at hresponse
      exact hrule.respondedTo hy hx hoy hox hvalid' hden hresponse
    · have hspecial : SpecialLog y x z := by
        rcases hz with ⟨hxz, hyi, rfl⟩ | ⟨hxi, rfl⟩ | ⟨hxn, hyi, hgt, rfl⟩ | ⟨hxn, hyi, hlt, rfl⟩ | ⟨h1, rfl⟩ |
          ⟨hxn, h1, hyz, hgt, rfl⟩ | ⟨hxn, hyz, hlt, rfl⟩
        · exact .ofZero hxz hyi
        · exact .ofInfinity hxi
        · simpa [Opnd.neg] using SpecialLog.infinite false hxn hyi (by simpa using hgt.le)
        · simpa [Opnd.neg] using SpecialLog.infinite true hxn hyi (by simpa using hlt)
        · exact .ofOne h1.1 (hone.mp h1) fun hyi => hvalid (.inr (.inr (.inr ⟨h1, hyi⟩)))
        · simpa [Opnd.neg] using SpecialLog.zero false hxn (fun himg => h1 (hone.mpr himg)) hyz (by simpa using hgt.le)
        · simpa [Opnd.neg] using
            SpecialLog.zero true hxn (fun himg => hlt.ne (hone.mpr himg).2) hyz (by simpa using hlt)
      exact hrule.answered_exactInto hy hx hoy hox hvalid' hden fun n => fyl2xRule_special s.draws n hspecial
  · obtain ⟨t, he, hnpx⟩ := exec_numReg_of_ready (i := .fyl2xp1 pre) rfl rfl rfl h
    have hrule := checkedRule_fyl2xp1 s.draws s.npx
    rw [← hnpx] at hrule
    refine ⟨t, he, fun hxz hyi => ?_, fun hxz hyf => ?_, fun hxn hr hyi => ?_⟩
    · exact hrule.of_invalidPair hy hx (Opnd.ordinary_of_infinity hyi) (Opnd.ordinary_of_zero hxz)
        (by simp [Opnd.isZero, Opnd.isInf, hxz, hyi])
    · exact hrule.answered_exactInto hy hx (Opnd.ordinary_of_finite hyf) (Opnd.ordinary_of_zero hxz)
        (by simp [Opnd.isInf, ((Opnd.finite_iff y).mp hyf).2]) hden fun n => fyl2xp1Rule_zero s.draws n hxz
    · exact hrule.answered_exactInto hy hx (Opnd.ordinary_of_infinity hyi) (Opnd.ordinary_of_nonzero hxn)
        (by simp [Opnd.isZero, Opnd.cls_of_nonzero hxn]) hden
        fun n => (fyl2xp1Rule_inRange s.draws n hxn hr).trans (if_pos hyi)
  · obtain ⟨t, he, hnpx⟩ := exec_numReg_of_ready (i := .f2xm1 pre) rfl rfl rfl h
    have hrule := checkedRule_f2xm1 s.draws s.npx
    rw [← hnpx] at hrule
    have hanswered (hoa : a.ordinary = true) (hd : a.cls ≠ .denormal)
        (hg : ∀ n : Npx, f2xm1Rule a s.draws n = n.exactInto (n.phys 0) 0 z) :
        s.npx.Answered t.npx (s.npx.phys 0) z 0 [] false :=
      denormalFlag_of_normal hd hd ▸ hrule.answered_exactInto ha ha hoa hoa rfl hden hg
    have hunit {neg : Bool} (hnz : a.nonzero = true) (h1 : extReal a.img = signOf neg)
        (hz : z = if neg then 0xBFFE8000000000000000 else extOne) :
        s.npx.Answered t.npx (s.npx.phys 0) z 0 [] false := by
      have himg := eq_extUnit ((proper_of_stOpnd ha).nonzero hnz) h1
      have hd : a.cls ≠ .denormal := by rw [cls_of_stOpnd ha, himg, classOf_extUnit]; decide
      exact hanswered (Opnd.ordinary_of_nonzero hnz) hd fun n => hz ▸ f2xm1Rule_one s.draws n hnz himg
    refine ⟨t, he, ?_⟩
    rcases hz with ⟨hcls, rfl⟩ | ⟨hnz, h1, hz⟩ | ⟨hnz, h1, hz⟩
    · exact hanswered (Opnd.ordinary_of_zero hcls) (by simp [hcls]) fun n => f2xm1Rule_zero s.draws n hcls
    · exact hunit (neg := false) hnz h1 hz
    · exact hunit (neg := true) hnz h1 hz

end Sys2Proof.Machine
end

section
/-! FSIN, FCOS, FSINCOS and FPTAN (R301 to R305): one rule for the four, and the response to the operands that have no
computed result. -/

namespace Sys2Proof.Machine

/-! ### One result, or two (R301 to R305) -/

section
variable (n : Npx) {m : Npx} (d : Nat) {l : List Exc} {fault : Bool} {x : Ext} {y : Option Ext}

/-- The top takes `x`; a `y` is pushed. -/
def Npx.putResult (n : Npx) (x : Ext) : Option Ext → Npx
  | none => n.setReg (n.phys 0) x
  | some y => n.pairInto x y

/-- The top took `x`; a `y` was pushed. -/
def Npx.TookResult (n m : Npx) (x : Ext) : Option Ext → Prop
  | none => n.Wrote m (n.phys 0) x 0
  | some y => n.WrotePushed m x y

-- The condition bits that an instruction leaves undefined do not matter (R37).
@[simp] theorem Npx.tookResult_drawC30 : n.TookResult (m.drawC30 d) x y ↔ n.TookResult m x y := by
  cases y <;> exact Iff.rfl

@[simp] theorem Npx.tookResult_drawC2 : n.TookResult (m.drawC2 d) x y ↔ n.TookResult m x y := by
  cases y <;> exact Iff.rfl

@[simp] theorem Npx.flagged_drawC30 : n.Flagged (m.drawC30 d) l fault ↔ n.Flagged m l fault := by
  have hflag (e : Exc) : (m.drawC30 d).sw.flag e = m.sw.flag e := by cases e <;> rfl
  simp only [Npx.Flagged, hflag, Npx.drawC30_sf, Npx.drawC30_cw]

@[simp] theorem Npx.flagged_setC2 (b : Bool) : n.Flagged (m.setC2 b) l fault ↔ n.Flagged m l fault := by
  have hflag (e : Exc) : (m.setC2 b).sw.flag e = m.sw.flag e := by cases e <;> rfl
  simp only [Npx.Flagged, hflag, Npx.setC2_sf, Npx.setC2_cw]

@[simp] theorem Npx.flagged_drawC2 : n.Flagged (m.drawC2 d) l fault ↔ n.Flagged m l fault := n.flagged_setC2 _

@[simp] theorem Npx.flagged_drawC1 : n.Flagged (m.drawC1 d) l fault ↔ n.Flagged m l fault := by
  simp only [Npx.Flagged, Npx.drawC1, Npx.flag_setC1, Npx.setC1_sf, Npx.setC1_cw]

@[simp] theorem Npx.sameStack_drawC30 : n.SameStack (m.drawC30 d) ↔ n.SameStack m := Iff.rfl

@[simp] theorem Npx.stopped_drawC30 : n.Stopped (m.drawC30 d) l ↔ n.Stopped m l := by
  simp only [Npx.Stopped, Npx.sameStack_drawC30, Npx.flagged_drawC30, Npx.drawC30_c1]

variable {n}

@[simp] theorem Npx.putResult_sw_c1 : (n.putResult x y).sw.c1 = n.sw.c1 := by
  cases y <;> rfl

@[simp] theorem Npx.putResult_sw_c2 : (n.putResult x y).sw.c2 = n.sw.c2 := by
  cases y <;> rfl

theorem Npx.SameStack.tookResult_iff {m' : Npx} (hs : n.SameStack m) : m.TookResult m' x y ↔ n.TookResult m' x y := by
  cases y with
  | none =>
    have hphys : m.phys 0 = n.phys 0 := by
      obtain ⟨-, -, htop⟩ := hs
      rw [Npx.phys, Npx.phys, htop]
    rw [Npx.TookResult, Npx.TookResult, hphys, hs.wrote_iff]
  | some y => exact hs.wrotePushed_iff

theorem Npx.tookResult_putResult (hs : n.SameStack m) (x : Ext) (y : Option Ext) :
    n.TookResult (m.putResult x y) x y := by
  rw [← hs.tookResult_iff]
  cases y with
  | none => exact m.wrote_pops_setReg 0 x (m.phys 0)
  | some y => exact m.wrotePushed_pairInto x y

theorem Npx.flagged_putResult (hf : n.Flagged m l fault) (x : Ext) (y : Option Ext) :
    n.Flagged (m.putResult x y) l fault := by
  cases y with
  | none => exact hf
  | some y =>
    have hpair := hf.trans (m.flagged_pairInto x y)
    rwa [List.append_nil, Bool.or_false] at hpair

end

/-! ### One rule for the four instructions (R301 to R305) -/

/-- FSIN, FCOS, FSINCOS, FPTAN. -/
inductive TrigOp
  | sin | cos | sincos | tan

/-- The instruction. -/
def TrigOp.instr (pre : List Prefix) : TrigOp → Instr
  | .sin => .fsin pre
  | .cos => .fcos pre
  | .sincos => .fsincos pre
  | .tan => .fptan pre

/-- Its rule in the model. -/
def TrigOp.rule : TrigOp → Nat → Npx → Npx
  | .sin => trigTop .sin id
  | .cos => trigTop .cos fun _ => extOne
  | .sincos => fsincos
  | .tan => fptan

/-- Whether it pushes a second result. -/
def TrigOp.pushes : TrigOp → Bool
  | .sin | .cos => false
  | .sincos | .tan => true

/-- What is pushed beside the NaN or the indefinite `x`. -/
def TrigOp.beside : TrigOp → Ext → Option Ext
  | .sin, _ | .cos, _ => none
  | .sincos, x => some x
  | .tan, _ => some extOne

/-- The exact results for the zero `x`. -/
def TrigOp.ofZero : TrigOp → Ext → Ext × Option Ext
  | .sin, x => (x, none)
  | .cos, _ => (extOne, none)
  | .sincos, x | .tan, x => (x, some extOne)

/-- The results for a number that is no zero. -/
def TrigOp.compute (o : TrigOp) (x : Ext) (n : Npx) : Npx :=
  let sin := n.transc1 .sin x
  let cos := n.transc1 .cos x
  let tan := n.transc1 .tan x
  match o with
  | .sin => n.deliverInto (n.phys 0) 0 sin
  | .cos => n.deliverInto (n.phys 0) 0 cos
  | .sincos => ((n.flagDelivered sin).flagDelivered cos).putResult sin.img (some cos.img)
  | .tan => (n.flagDelivered tan).putResult tan.img (some extOne)

/-- The operand and the room for the push, if there is one, are there. -/
def TrigOp.Runs (o : TrigOp) (n : Npx) (a : Opnd) : Prop :=
  n.stOpnd 0 = some a ∧ (o.pushes = true → n.canPush = true)

section
variable (o : TrigOp) (d : Nat) (n : Npx)

theorem TrigOp.exec_of_ready {pre : List Prefix} {s : State} (h : s.ready (o.instr pre) = true) :
    ∃ t, exec (o.instr pre) s = .next t ∧ t.npx = o.rule s.draws s.npx := by
  cases o with
  | sin | cos | sincos | tan => exact exec_numReg_of_ready rfl rfl rfl h

/-- The branches of the four rules for an operand that is there. -/
theorem TrigOp.rule_of_runs {a : Opnd} (h : o.Runs n a) : o.rule d n =
    Npx.drawC30 (d := d)
      (if a.isInvalid = true ∨ a.cls = .infinity then
        if n.masked .ie then
          (((n.signal .ie).setC1 false).putResult (nanResult a a) (o.beside (nanResult a a))).drawC2 d
        else (n.signal .ie).setC1 false
      else if a.isNan then ((n.setC1 false).putResult (nanResult a a) (o.beside (nanResult a a))).drawC2 d
      else if n.denormalOk a a = false then (n.noteDenormal a a).setC1 false
      else if a.tooLarge then ((n.noteDenormal a a).setC2 true).drawC1 d
      else if a.cls = .zero then
        ((((n.noteDenormal a a).setC2 false).setC1 false).putResult (o.ofZero a.img).1 (o.ofZero a.img).2)
      else o.compute a.img ((n.noteDenormal a a).setC2 false)) := by
  obtain ⟨ha, hroom⟩ := h
  have hinv : (a.isInvalid || a.isInf) = true ↔ a.isInvalid = true ∨ a.cls = .infinity := by simp [Opnd.isInf]
  have hden : ((a.cls == .denormal) && !n.masked .de) = true ↔ n.denormalOk a a = false := by
    rw [Npx.denormalOk_eq_false_iff]
    simp
  have hnote : n.signalIf (a.cls == .denormal) .de = n.noteDenormal a a := by
    rw [Npx.noteDenormal, Bool.or_self]
  cases o with
  | sin | cos =>
    simp only [TrigOp.rule, trigTop, ha, trigRule, hinv, hnote, Npx.setC1_masked, Npx.signal_masked,
      Npx.noteDenormal_masked, hden, Opnd.isZero, beq_iff_eq, nanResult_self]
    rfl
  | sincos | tan =>
    simp only [TrigOp.rule, fsincos, fptan, ha, hroom rfl, trigRule, hinv, hnote, Npx.setC1_masked, Npx.signal_masked,
      Npx.noteDenormal_masked, hden, Opnd.isZero, beq_iff_eq, nanResult_self]
    rfl

end

/-! ### Large operands (R301) -/

section
variable {a : Opnd} (hcls : a.cls = classOf a.img) (hfinite : a.finite = true)
include hcls hfinite

theorem Opnd.normal_of_tooLarge (h : a.tooLarge = true) : a.cls = .normal := by
  have hclass : a.cls = .normal ∨ classOf a.img = .zero ∨ classOf a.img = .denormal := by
    rw [← hcls]
    simpa [Opnd.finite, or_comm, or_left_comm] using hfinite
  refine hclass.resolve_right fun htiny => ?_
  have hk := k_of_tiny htiny
  have hm := log2_le_of_lt (c := 63) (extSig a.img).isLt
  have hlog : 63 ≤ ((extSig a.img).toNat.log2 : ℤ) + (valOf a.img).k := decide_eq_true_iff.mp h
  omega

/-- The operands that the instructions do not reduce (R301). -/
theorem Opnd.tooLarge_iff : a.tooLarge = true ↔ (2 : ℝ) ^ 63 ≤ |extReal a.img| := by
  rcases eq_or_ne (valOf a.img).m 0 with h0 | h0
  · have hreal : extReal a.img = 0 := by simp [extReal, Val.real, h0]
    refine iff_of_false (fun h => ?_) (by rw [hreal]; norm_num)
    have hnormal : classOf a.img = .normal := hcls ▸ Opnd.normal_of_tooLarge hcls hfinite h
    exact significand_ne_zero (.inl hnormal) h0
  · have hpos : 0 < |extReal a.img| := by
      rw [extReal, Val.abs_real]
      positivity
    rw [Opnd.tooLarge, decide_eq_true_iff, Val.log2_eq_floorLog2 h0, ← extReal, floorLog2, Int.le_floor,
      Real.le_logb_iff_rpow_le one_lt_two hpos]
    norm_num

end

/-! ### Operands without a computed result (R301 to R303, R305) -/

theorem Npx.noteDenormal_of_not_denormal (n : Npx) {a : Opnd} (h : a.cls ≠ .denormal) : n.noteDenormal a a = n := by
  simp [Npx.noteDenormal, Npx.signalIf, h]

theorem Npx.unchanged (n : Npx) : n.SameStack n ∧ n.Flagged n [] false := by
  simp [Npx.SameStack, Npx.Flagged]

section
variable {o : TrigOp} {n : Npx} {a : Opnd} (d : Nat) (h : o.Runs n a)
include h

theorem TrigOp.invalid_response (hinv : a.isInvalid = true ∨ a.cls = .infinity) :
    let m := o.rule d n
    n.Flagged m [.ie] false ∧ m.sw.c1 = false ∧
      (n.masked .ie = true → n.TookResult m (nanResult a a) (o.beside (nanResult a a))) ∧
      (n.masked .ie = false → n.SameStack m) := by
  obtain ⟨hs, hf, hc⟩ := n.stopped_signal .ie
  rw [o.rule_of_runs d n h, if_pos hinv]
  cases n.masked .ie with
  | true => simp [Npx.flagged_putResult hf, Npx.tookResult_putResult hs]
  | false => simp [hf, hs]

theorem TrigOp.quiet_response (hcls : a.cls = .qnan) :
    let m := o.rule d n
    n.Flagged m [] false ∧ n.TookResult m (nanResult a a) (o.beside (nanResult a a)) := by
  have hs : n.SameStack (n.setC1 false) := ⟨rfl, rfl, rfl⟩
  rw [o.rule_of_runs d n h, if_neg (by simp [Opnd.isInvalid, hcls]), if_pos (by simp [Opnd.isNan, hcls])]
  simp [Npx.flagged_putResult (n.flagged_setC1 false), Npx.tookResult_putResult hs]

/-- The branches for a number. -/
theorem TrigOp.rule_of_finite (hfinite : a.finite = true) : o.rule d n =
    Npx.drawC30 (d := d)
      (if n.denormalOk a a = false then (n.noteDenormal a a).setC1 false
      else if a.tooLarge then ((n.noteDenormal a a).setC2 true).drawC1 d
      else if a.cls = .zero then
        ((((n.noteDenormal a a).setC2 false).setC1 false).putResult (o.ofZero a.img).1 (o.ofZero a.img).2)
      else o.compute a.img ((n.noteDenormal a a).setC2 false)) := by
  obtain ⟨hord, hinf⟩ := (Opnd.finite_iff a).mp hfinite
  obtain ⟨hinv, hnan⟩ := Opnd.not_nan_of_ordinary hord
  rw [o.rule_of_runs d n h, if_neg (by simp [hinv, hinf]), if_neg (by simp [hnan])]

theorem TrigOp.denormal_response (hden : n.denormalOk a a = false) :
    n.Stopped (o.rule d n) [.de] := by
  have hd : a.cls = .denormal := by simpa using (Npx.denormalOk_eq_false_iff.mp hden).1
  have hnote : n.noteDenormal a a = n.signal .de := by simp [Npx.noteDenormal, Npx.signalIf, hd]
  rw [TrigOp.rule_of_finite d h (by simp [Opnd.finite, hd]), if_pos hden, hnote, Npx.stopped_drawC30]
  exact n.stopped_signal .de

theorem TrigOp.large_response (hfinite : a.finite = true) (hlarge : (2 : ℝ) ^ 63 ≤ |extReal a.img|) :
    let m := o.rule d n
    n.SameStack m ∧ n.Flagged m [] false ∧ m.sw.c2 = true := by
  have hcls := cls_of_stOpnd h.1
  have htoo := (Opnd.tooLarge_iff hcls hfinite).mpr hlarge
  have hnd : a.cls ≠ .denormal := by simp [Opnd.normal_of_tooLarge hcls hfinite htoo]
  obtain ⟨hden, -⟩ := n.pass_of_not_denormal hnd
  rw [TrigOp.rule_of_finite d h hfinite, if_neg (by simp [hden]), if_pos htoo, n.noteDenormal_of_not_denormal hnd]
  obtain ⟨hs, hf⟩ := n.unchanged
  exact ⟨hs, by simpa using hf, rfl⟩

theorem TrigOp.zero_response (hz : a.cls = .zero) :
    let m := o.rule d n
    n.TookResult m (o.ofZero a.img).1 (o.ofZero a.img).2 ∧ n.Flagged m [] false ∧ m.sw.c2 = false ∧
      m.sw.c1 = false := by
  have hfinite := Opnd.finite_of_zero hz
  have hsmall : ¬a.tooLarge = true := fun htoo => by
    have := Opnd.normal_of_tooLarge (cls_of_stOpnd h.1) hfinite htoo
    simp [hz] at this
  have hnd : a.cls ≠ .denormal := by simp [hz]
  obtain ⟨hden, -⟩ := n.pass_of_not_denormal hnd
  have hs : n.SameStack ((n.setC2 false).setC1 false) := ⟨rfl, rfl, rfl⟩
  have hf : n.Flagged ((n.setC2 false).setC1 false) [] false :=
    (n.flagged_setC2 false).mpr n.unchanged.2 |>.trans ((n.setC2 false).flagged_setC1 false)
  rw [TrigOp.rule_of_finite d h hfinite, if_neg (by simp [hden]), if_neg hsmall, if_pos hz,
    n.noteDenormal_of_not_denormal hnd]
  simp [Npx.flagged_putResult hf, Npx.tookResult_putResult hs]

end

/-! ### Stack faults (R173, R303, R305) -/

section
variable {o : TrigOp} {n : Npx} (d : Nat)

theorem TrigOp.empty_response (hpush : o.pushes = false) (h : n.stOpnd 0 = none) :
    n.UnderflowRule (o.rule d n) (n.phys 0) 0 := by
  have hrule : o.rule d n = Npx.drawC30 (d := d)
      (if n.masked .ie then (n.underflowInto (n.phys 0) 0).drawC2 d else n.underflowInto (n.phys 0) 0) := by
    cases o with
    | sin | cos => simp only [TrigOp.rule, trigTop, h]
    | sincos | tan => cases hpush
  obtain ⟨hf, hc, hw, hs⟩ := n.underflowRule_underflowInto 0 (n.phys 0)
  rw [hrule, Npx.UnderflowRule, Npx.flagged_drawC30, Npx.drawC30_c1]
  cases hm : n.masked .ie with
  | true => exact ⟨(n.flagged_drawC2 d).mpr hf, hc, fun _ => hw hm, nofun⟩
  | false => exact ⟨hf, hc, nofun, fun _ => hs hm⟩

/-- What is pushed in response to a stack fault: where there is no room, the indefinite. -/
def TrigOp.besideFault (room : Bool) : TrigOp → Ext
  | .tan => if room then extOne else indefinite
  | _ => indefinite

/-- The instructions that push, and what they push beside a NaN and after a fault. -/
theorem TrigOp.pushing {i : Instr} {pre : List Prefix} (hi : i = .fptan pre ∨ i = .fsincos pre) :
    ∃ o : TrigOp, i = o.instr pre ∧ o.pushes = true ∧
      (∀ x, o.beside x = some (if i = .fptan pre then extOne else x)) ∧ o.besideFault false = indefinite ∧
      o.besideFault true = if i = .fptan pre then extOne else indefinite := by
  rcases hi with rfl | rfl
  · exact ⟨.tan, rfl, rfl, fun _ => by rw [if_pos rfl]; rfl, rfl, (if_pos rfl).symm⟩
  · exact ⟨.sincos, rfl, rfl, fun _ => by rw [if_neg nofun]; rfl, rfl, (if_neg nofun).symm⟩

theorem TrigOp.fault_response (hpush : o.pushes = true) (h : n.stOpnd 0 = none ∨ n.canPush = false) :
    let m := o.rule d n
    n.Flagged m [.ie] true ∧ (n.stOpnd 0 ≠ none → m.sw.c1 = true) ∧ (n.canPush = true → m.sw.c1 = false) ∧
      (n.masked .ie = true → n.WrotePushed m indefinite (o.besideFault n.canPush)) ∧
      (n.masked .ie = false → n.SameStack m) := by
  have hrule : o.rule d n = (trigPairFault (o.besideFault n.canPush) d n).drawC30 d := by
    cases o with
    | sin | cos => cases hpush
    | sincos | tan =>
      simp only [TrigOp.rule, fsincos, fptan]
      split
      · next ha hroom => rcases h with h | h <;> simp_all
      · rfl
  obtain ⟨hs, hf⟩ := n.pairFault_spec d
  have hfull (hne : n.stOpnd 0 ≠ none) :=
    n.pairFault_c1_of_full d (h.resolve_left hne) (Npx.isEmpty_of_stOpnd _ hne)
  have hroom := n.pairFault_c1_of_room d
  have hpair := Npx.tookResult_putResult hs indefinite (some (o.besideFault n.canPush))
  have hflags := Npx.flagged_putResult hf indefinite (some (o.besideFault n.canPush))
  dsimp only
  rw [hrule, trigPairFault, Npx.flagged_drawC30, Npx.drawC30_c1]
  cases n.masked .ie with
  | true => exact ⟨(n.flagged_drawC2 d).mpr hflags, hfull, hroom, fun _ => hpair, nofun⟩
  | false => exact ⟨hf, hfull, hroom, nofun, fun _ => hs⟩

end

/-! ### The instructions (R301 to R305) -/

/-- Settles O51: the four instructions are the cases of `TrigOp`, and each kind of operand has its branch of the rule
that they share. -/
theorem trigonometricSpecialCases : Obligations.TrigonometricSpecialCases := by
  unfold Obligations.TrigonometricSpecialCases
  refine ⟨⟨fun i pre s a hi h ha hfinite hlarge => ?_, fun pre s a ha hz => ?_⟩,
    fun i pre s h => ⟨fun hi => ?_, fun hi => ?_⟩⟩
  · obtain ⟨o, rfl, hroom⟩ : ∃ o : TrigOp, i = o.instr pre ∧ (o.pushes = true → s.npx.canPush = true) := by
      rcases hi with rfl | rfl | ⟨rfl | rfl, hroom⟩
      · exact ⟨.sin, rfl, nofun⟩
      · exact ⟨.cos, rfl, nofun⟩
      · exact ⟨.tan, rfl, fun _ => hroom⟩
      · exact ⟨.sincos, rfl, fun _ => hroom⟩
    obtain ⟨t, he, hnpx⟩ := o.exec_of_ready h
    exact ⟨t, he, hnpx ▸ TrigOp.large_response s.draws ⟨ha, hroom⟩ hfinite hlarge⟩
  · have hexec (o : TrigOp) (h : s.ready (o.instr pre) = true) (hroom : o.pushes = true → s.npx.canPush = true) :
        ∃ t, exec (o.instr pre) s = .next t ∧ s.npx.TookResult t.npx (o.ofZero a.img).1 (o.ofZero a.img).2 ∧
          s.npx.Flagged t.npx [] false ∧ t.npx.sw.c2 = false ∧ t.npx.sw.c1 = false := by
      obtain ⟨t, he, hnpx⟩ := o.exec_of_ready h
      exact ⟨t, he, hnpx ▸ TrigOp.zero_response s.draws ⟨ha, hroom⟩ hz⟩
    refine ⟨fun h => hexec .sin h nofun, fun h => hexec .cos h nofun, fun i hi h hroom => ?_⟩
    rcases hi with rfl | rfl
    · exact hexec .tan h fun _ => hroom
    · exact hexec .sincos h fun _ => hroom
  · obtain ⟨o, rfl, hpush, hbeside⟩ : ∃ o : TrigOp, i = o.instr pre ∧ o.pushes = false ∧ ∀ x, o.beside x = none := by
      rcases hi with rfl | rfl
      · exact ⟨.sin, rfl, rfl, fun _ => rfl⟩
      · exact ⟨.cos, rfl, rfl, fun _ => rfl⟩
    obtain ⟨t, he, hnpx⟩ := o.exec_of_ready h
    refine ⟨t, he, hnpx ▸ TrigOp.empty_response s.draws hpush, fun a ha => ?_⟩
    have hruns : o.Runs s.npx a := ⟨ha, by simp [hpush]⟩
    have hinvalid := TrigOp.invalid_response s.draws hruns
    have hquiet := TrigOp.quiet_response s.draws hruns
    rw [hbeside, ← hnpx] at hinvalid hquiet
    exact ⟨hinvalid, fun hcls => (hquiet hcls).symm, fun _ hden => hnpx ▸ TrigOp.denormal_response s.draws hruns hden⟩
  · obtain ⟨o, rfl, hpush, hbeside, hfull, hroom⟩ := TrigOp.pushing hi
    obtain ⟨t, he, hnpx⟩ := o.exec_of_ready h
    refine ⟨t, he, fun hfault => ?_, fun a ha hcan => ?_⟩
    · obtain ⟨hf, hc1, hc0, hw, hs⟩ := TrigOp.fault_response (n := s.npx) s.draws hpush hfault
      rw [← hnpx] at hf hc1 hc0 hw hs
      refine ⟨hf, hc1, hc0, hs, fun hcan hm => ?_, fun hcan hm => ?_⟩
      · have hpushed := hw hm
        rwa [Npx.canPush, hcan, hfull] at hpushed
      · have hpushed := hw hm
        rwa [Npx.canPush, hcan, hroom] at hpushed
    · have hruns : o.Runs s.npx a := ⟨ha, fun _ => hcan⟩
      have hinvalid := TrigOp.invalid_response s.draws hruns
      have hquiet := TrigOp.quiet_response s.draws hruns
      rw [hbeside, ← hnpx] at hinvalid hquiet
      exact ⟨hinvalid, hquiet, fun _ hden => hnpx ▸ TrigOp.denormal_response s.draws hruns hden⟩

end Sys2Proof.Machine
end

section
/-! The results that the transcendental instructions compute (R300 to R309): numbers of the format, and always inexact
but for FYL2X. -/

namespace Sys2Proof.Machine

/-! ### Numbers of the format -/

/-- A Zero, Denormal or Normal image (R142). -/
def IsNumber (x : Ext) : Prop := classOf x = .zero ∨ classOf x = .denormal ∨ classOf x = .normal

theorem isNumber_extUnit (neg : Bool) : IsNumber (extUnit neg) := .inr (.inr (classOf_extUnit neg))

theorem isNumber_of_isImage {x : Ext} {neg : Bool} {y : ℝ} (hy : 0 ≤ y) (h : IsImage x neg y) : IsNumber x := by
  obtain ⟨-, -, hzero, hdenormal, hnormal⟩ := h
  rcases hy.eq_or_lt with h0 | h0
  · exact .inl (hzero h0.symm)
  · rcases lt_or_ge y (2 ^ (-16382 : ℤ)) with h1 | h1
    · exact .inr (.inl (hdenormal h0 h1))
    · exact .inr (.inr (hnormal h1))

theorem IsImage.normal {x : Ext} {neg : Bool} {y : ℝ} (h : IsImage x neg y) (hy : 2 ^ (-16382 : ℤ) ≤ y) :
    classOf x = .normal := by
  obtain ⟨-, -, -, -, hnormal⟩ := h
  exact hnormal hy

/-- A number below the least normal one is a denormal, with a clear integer bit. -/
theorem fields_of_tiny {x : Ext} (h : classOf x = .normal ∨ classOf x = .denormal)
    (htiny : |extReal x| < 2 ^ (-16382 : ℤ)) : extExp x = 0 ∧ x.getLsbD 63 = false := by
  rw [extReal, Val.abs_real] at htiny
  have hlog := (natCast_mul_lt_two_zpow_iff (significand_ne_zero h) _ _).mp htiny
  have hdenormal : classOf x = .denormal := h.resolve_left fun hn => by
    obtain ⟨hk, hm⟩ := normal_fields hn
    have he : (extExp x).toNat ≠ 0 := by grind [classOf]
    omega
  have hk := k_of_tiny (.inr hdenormal)
  have he : (extExp x).toNat = 0 := by grind [classOf]
  refine ⟨BitVec.eq_of_toNat_eq he, ?_⟩
  have hbit : x.getLsbD 63 = (extSig x).getLsbD 63 := by simp [extSig]
  have hm : (valOf x).m < 2 ^ 63 := (Nat.log2_lt (significand_ne_zero h)).mp (by omega)
  rw [hbit, ← Bool.not_eq_true, getLsbD_63_iff, not_le]
  exact hm

/-! ### Inexact results (R300, R302, R167) -/

section
variable (n : Npx) (f : Transc1) (x : Ext)

theorem deliverInexact_pe (um : Bool) (x : Ext) (c : Bool) : (deliverInexact um x c).pe = true := by
  unfold deliverInexact
  split <;> rfl

theorem deliverInexact_masked (x : Ext) (c : Bool) :
    (deliverInexact true x c).img = x ∧ ((deliverInexact true x c).ue = true ↔ classOf x = .denormal) := by
  unfold deliverInexact
  split
  · next h => simp [h]
  · next h => simp [h]

theorem transc1_pe : (n.transc1 f x).pe = true := deliverInexact_pe ..

theorem transc1_isNumber (hm : n.masked .ue = true) : IsNumber (n.transc1 f x).img := by
  rw [Npx.transc1, hm, (deliverInexact_masked ..).1]
  split
  · exact .inr (.inl (classOf_tinyImage _))
  · exact classOf_finiteImage _

/-- The sine of a tiny number (R302). -/
theorem transc1_sin_tiny (hm : n.masked .ue = true) (h : classOf x = .normal ∨ classOf x = .denormal)
    (htiny : |extReal x| < 2 ^ (-16382 : ℤ)) :
    classOf (n.transc1 .sin x).img = .denormal ∧ (n.transc1 .sin x).ue = true := by
  obtain ⟨he, hbit⟩ := fields_of_tiny h htiny
  have htest : (Transc1.sin == .sin && extExp x == 0 && !x.getLsbD 63) = true := by rw [he, hbit]; rfl
  obtain ⟨himg, hue⟩ := deliverInexact_masked (tinyImage (Config.transc1 .sin x n.rc).img)
    (Config.transc1 .sin x n.rc).roundup
  simp only [Npx.transc1, hm, htest, if_true, himg, hue]
  exact ⟨classOf_tinyImage _, classOf_tinyImage _⟩

theorem transc2_pe (f : Transc2) (y : Ext) : (n.transc2 f y x).pe = true := deliverInexact_pe ..

theorem transc2_isNumber (f : Transc2) (y : Ext) (hm : n.masked .ue = true) : IsNumber (n.transc2 f y x).img := by
  rw [Npx.transc2, hm, (deliverInexact_masked ..).1]
  exact classOf_finiteImage _

/-- A nonzero `y` leaves no choice to FYL2XP1 (R309). -/
theorem ylog2xp1_of_nonzero {y : Ext} (hy : classOf y ≠ .zero) : n.ylog2xp1 y x = n.transc2 .ylog2xp1 y x := by
  simp [Npx.ylog2xp1, hy]

end

/-! ### The exceptions of a result -/

section
variable (n : Npx) (r : Delivered)

theorem contains_if (b : Bool) (e e' : Exc) : (if b then [e] else []).contains e' = (b && decide (e' = e)) := by
  cases b <;> simp

theorem Delivered.contains_exceptions : r.exceptions.contains .oe = r.oe ∧ r.exceptions.contains .ue = r.ue ∧
    r.exceptions.contains .pe = r.pe := by
  simp only [Delivered.exceptions, List.contains_append, contains_if]
  refine ⟨?_, ?_, ?_⟩ <;> simp

/-- A flag other than DE after a result. -/
theorem Npx.Flagged.delivered {n m : Npx} {a b : Opnd} {r : Delivered}
    (h : n.Flagged m (denormalFlag a b ++ r.exceptions) false) :
    m.sw.oe = (n.sw.oe || r.oe) ∧ m.sw.ue = (n.sw.ue || r.ue) ∧ m.sw.pe = (n.sw.pe || r.pe) := by
  obtain ⟨hflag, -, -⟩ := h
  obtain ⟨hoe, hue, hpe⟩ := r.contains_exceptions
  have hde (e : Exc) (he : e ≠ .de) : (denormalFlag a b).contains e = false := by
    unfold denormalFlag
    split <;> simp [he]
  have hother (e : Exc) (he : e ≠ .de) : m.sw.flag e = (n.sw.flag e || r.exceptions.contains e) := by
    rw [hflag, List.contains_append, hde e he, Bool.false_or]
  exact ⟨hoe ▸ hother .oe nofun, hue ▸ hother .ue nofun, hpe ▸ hother .pe nofun⟩

end

end Sys2Proof.Machine
end

section
/-! The result of FYL2X on numbers (R308): its delivery with the tests for overflow and underflow. -/

namespace Sys2Proof.Machine

/-! ### A rounded y·log2(x) -/

theorem classOf_extInf (neg : Bool) : classOf (extInf neg) = .infinity := by
  cases neg <;> decide

theorem classOf_maxFinite (neg : Bool) : classOf (maxFinite neg 64) = .normal := by
  cases neg <;> decide

/-- `r` is a rounding to 64 bits of the magnitude `x`, with the sign `neg`, in the range of the exponents of
y·log2(x); when `r` is tiny and inexact, so is the denormalization of `x`; when it is exact, it is the value `V`. -/
structure LogRounding (rc : RC) (V : ℝ) (neg : Bool) (x : Mag) (r : Rounded) : Prop where
  pos : 0 < x.real
  q_ne : r.q ≠ 0
  q_le : r.q ≤ 2 ^ 64
  least : -16510 ≤ r.log2
  greatest : r.log2 ≤ 16400
  log2_le : x.log2 ≤ r.log2
  inexact : r.log2 < -16382 → r.inexact = true → (roundAt rc neg x (-16382 - (64 : ℕ) + 1)).inexact = true
  exact : r.inexact = false → r.real = x.real ∧ signOf neg * x.real = V

/-- What FYL2X delivers for the exact value `V`: an overflow that is masked, a Normal whose exponent is moved when an
overflow or underflow is unmasked, or a number rounded at the least exponent (R153, R166, R167). -/
inductive LogDelivered (om um : Bool) (V : ℝ) (D : Delivered) : Prop
  | overflow : om = true → classOf D.img = .infinity ∨ classOf D.img = .normal → D.oe = true → D.ue = false →
      D.pe = true → LogDelivered om um V D
  | normal : classOf D.img = .normal → (D.oe = true → om = false) → (D.ue = true → um = false) →
      (D.ue = true → |extReal D.img| < 2 ^ (24576 - 16382 : ℤ)) →
      (D.pe = false → extReal D.img =
        V * if D.ue = true then 2 ^ (24576 : ℤ) else if D.oe = true then 2 ^ (-24576 : ℤ) else 1) →
      LogDelivered om um V D
  | tiny : um = true → IsNumber D.img → D.oe = false → D.ue = D.pe → (D.pe = false → extReal D.img = V) →
      LogDelivered om um V D

section
variable {rc : RC} {V : ℝ} {neg : Bool} {x : Mag} {r : Rounded} (h : LogRounding rc V neg x r)
include h

/-- A rounded value whose exponent, moved by `k`, is in the range of the format. -/
theorem LogRounding.isImage_moved {k : ℤ} (hmin : -16382 ≤ r.log2 + k) (hmax : r.log2 + k ≤ 16383) :
    IsImage (encodeExt neg r.q (r.t + k)) neg (r.real * 2 ^ k) ∧ classOf (encodeExt neg r.q (r.t + k)) = .normal := by
  have hsum : r.log2 + k = r.q.log2 + (r.t + k) := by rw [Rounded.log2, add_assoc]
  rw [hsum] at hmin hmax
  have himg := isImage_encodeExt neg (q := r.q) (t := r.t + k)
    ⟨fun _ => hmax, fun _ _ => dvd_of_le_two_pow h.q_le, fun _ hlt => absurd hmin (not_le.mpr hlt)⟩
  have hle := (zpow_le_zpow_right₀ (one_le_two (α := ℝ)) hmin).trans (two_zpow_log2_le_natCast_mul h.q_ne (r.t + k))
  rw [Rounded.real, mul_assoc, ← zpow_add₀ two_ne_zero]
  exact ⟨himg, himg.normal hle⟩

theorem LogRounding.real_moved {k : ℤ} (hmin : -16382 ≤ r.log2 + k) (hmax : r.log2 + k ≤ 16383)
    (hexact : r.inexact = false) : extReal (encodeExt neg r.q (r.t + k)) = V * 2 ^ k := by
  obtain ⟨⟨-, hreal, -⟩, -⟩ := h.isImage_moved hmin hmax
  obtain ⟨hr, hV⟩ := h.exact hexact
  rw [hreal, hr, ← mul_assoc, hV]

/-- The delivery of a rounded y·log2(x) in each range of its exponent. -/
theorem LogRounding.delivered (om um : Bool) (d : Nat) :
    LogDelivered om um V (deliverRounded rc om um neg x 64 r d) := by
  have hleast := h.least
  have hgreatest := h.greatest
  unfold deliverRounded
  split
  · next hover =>
    cases om with
    | true =>
      rw [if_pos rfl]
      refine .overflow rfl ?_ rfl rfl rfl
      cases overflowToInf rc neg with
      | true => exact .inl (classOf_extInf neg)
      | false => exact .inr (classOf_maxFinite neg)
    | false =>
      have hmin : -16382 ≤ r.log2 + -24576 := by omega
      have hmax : r.log2 + -24576 ≤ 16383 := by omega
      have hadj : adjusted neg r (-24576) d = encodeExt neg r.q (r.t + -24576) := if_pos ⟨hmin, hmax⟩
      rw [if_neg Bool.false_ne_true, hadj]
      exact .normal (h.isImage_moved hmin hmax).2 (fun _ => rfl) nofun nofun (h.real_moved hmin hmax)
  · next hover =>
    split
    · next htiny =>
      cases um with
      | true =>
        have hx : x.log2 < -16382 := h.log2_le.trans_lt htiny
        have himg := isImage_encodeExt neg (representable_roundAt_tiny h.pos rc neg (p := 64) (c := 63) (emin := -16382)
          (emax := 16383) le_rfl (by norm_num) (by norm_num) hx)
        have hinexact := roundAt_inexact_iff h.pos rc neg (-16382 - (64 : ℕ) + 1)
        have hlost := h.inexact htiny
        rw [if_pos rfl]
        dsimp only
        split
        · next hi =>
          refine .tiny rfl (isNumber_of_isImage (by positivity) himg) rfl rfl nofun
        · next hi =>
          have hexact : r.inexact = false := by
            rw [← Bool.not_eq_true]
            exact fun hr => hi (hlost hr)
          have hreal := not_not.mp (hinexact.not.mp hi)
          refine .tiny rfl (isNumber_of_isImage (by positivity) himg) rfl hexact.symm fun _ => ?_
          obtain ⟨-, himg, -⟩ := himg
          rw [Rounded.real] at hreal
          exact himg.trans (hreal ▸ (h.exact hexact).2)
      | false =>
        have hmin : -16382 ≤ r.log2 + 24576 := by omega
        have hmax : r.log2 + 24576 ≤ 16383 := by omega
        have hadj : adjusted neg r 24576 d = encodeExt neg r.q (r.t + 24576) := if_pos ⟨hmin, hmax⟩
        rw [if_neg Bool.false_ne_true, hadj]
        refine .normal (h.isImage_moved hmin hmax).2 nofun (fun _ => rfl) (fun _ => ?_) (h.real_moved hmin hmax)
        obtain ⟨⟨-, hreal, -⟩, -⟩ := h.isImage_moved hmin hmax
        rw [hreal, Rounded.real, mul_assoc, ← zpow_add₀ two_ne_zero, abs_mul, signOf_abs, one_mul,
          abs_of_pos (by have := h.q_ne; positivity)]
        exact (natCast_mul_lt_two_zpow_iff h.q_ne _ _).mpr (by rw [Rounded.log2] at htiny; omega)
    · next htiny =>
      have hmin : -16382 ≤ r.log2 + 0 := by omega
      have hmax : r.log2 + 0 ≤ 16383 := by omega
      have hclass := (h.isImage_moved hmin hmax).2
      have hreal := h.real_moved hmin hmax
      rw [add_zero] at hclass hreal
      exact .normal hclass nofun nofun nofun hreal

end

/-! ### The two kinds of results (R308, assumption 21) -/

/-- A drawn result, which is inexact. -/
theorem logRounding_drawn (rc : RC) (V : ℝ) (v : TranscLog) : LogRounding rc V v.neg (logMag v) (logRounded v) := by
  obtain ⟨hmin, hmax⟩ := logExponent_bounds v
  have hlog := logRounded_log2 v
  have hfrac := v.frac.isLt
  obtain ⟨N, hmag, hodd, hlo, hhi⟩ : ∃ N : ℕ, logMag v = .ratio N 1 (logExponent v - 65) ∧ N % 2 = 1 ∧ 0 < N ∧
      N < 2 ^ 66 := by
    have ht : (logRounded v).t - 2 = logExponent v - 65 := sub_sub ..
    have hq : (logRounded v).q = 2 ^ 63 + v.frac.toNat := rfl
    refine ⟨if v.roundup then 4 * (logRounded v).q - 1 else 4 * (logRounded v).q + 1, by rw [← ht]; rfl, ?_⟩
    split <;> omega
  have hreal : (logMag v).real = N * 2 ^ (logExponent v - 65) := by
    rw [hmag, Mag.real_ratio, Nat.cast_one, div_one]
  have hpos : 0 < (logMag v).real := by rw [hreal]; positivity
  refine ⟨hpos, ?_, ?_, by omega, by omega, ?_, fun htiny _ => ?_, nofun⟩
  · simp only [logRounded]; omega
  · simp only [logRounded]; omega
  · rw [Mag.log2_eq hpos, hreal, floorLog2_natCast_mul hlo.ne', hlog]
    have := log2_le_of_lt (c := 65) hhi
    omega
  · rw [roundAt_inexact_iff hpos, hreal]
    intro heq
    obtain ⟨s, hs⟩ : ∃ s : ℕ, (-16382 - (64 : ℕ) + 1 : ℤ) = logExponent v - 65 + (s + 1 : ℕ) :=
      ⟨(-16382 - (64 : ℕ) - (logExponent v - 65)).toNat, by omega⟩
    have ht : (roundAt rc v.neg (logMag v) (-16382 - (64 : ℕ) + 1)).t = logExponent v - 65 + (s + 1 : ℕ) := hs
    rw [Rounded.real, ht, zpow_add₀ two_ne_zero, mul_left_comm, mul_comm (N : ℝ)] at heq
    have hN := mul_left_cancel₀ (by positivity) heq
    rw [zpow_natCast] at hN
    have hN' : (roundAt rc v.neg (logMag v) (-16382 - (64 : ℕ) + 1)).q * 2 ^ (s + 1) = N := by exact_mod_cast hN
    rw [pow_succ, ← mul_assoc] at hN'
    omega

theorem signOf_mul_natAbs (z : ℤ) : signOf (decide (z < 0)) * (z.natAbs : ℝ) = z := by
  rw [Nat.cast_natAbs]
  rcases lt_or_ge z 0 with h | h
  · simp [signOf, h, abs_of_neg h]
  · simp [signOf, h.not_gt, abs_of_nonneg h]

/-- The exact value when `x` is a power of two. -/
theorem exactLog_spec {y x e : Val} (he : exactLog y x = some e) (hpos : x.neg = false) :
    x.real = 2 ^ x.log2 ∧ e.real = y.real * Real.logb 2 x.real ∧ e.m = y.m * x.log2.natAbs ∧ e.k = y.k := by
  unfold exactLog at he
  split at he
  · next hpow =>
    cases he
    have hreal : x.real = 2 ^ x.log2 := by
      rw [Val.real, hpos, signOf, if_neg Bool.false_ne_true, one_mul, Val.log2, zpow_add₀ two_ne_zero, zpow_natCast]
      congr 1
      exact_mod_cast hpow.symm
    refine ⟨hreal, ?_, rfl, rfl⟩
    rw [hreal, ← Real.rpow_intCast, Real.logb_rpow two_pos (by norm_num), ← signOf_mul_natAbs x.log2, Val.real,
      Val.real, signOf_xor]
    push_cast
    ring
  · cases he

/-- A number rounded to 64 bits has the exponent of the number, or the next one. -/
theorem log2_roundTo_le {x : Mag} (hx : 0 < x.real) (rc : RC) (neg : Bool) :
    (roundTo rc neg x 64).log2 ≤ x.log2 + 1 := by
  have hq := log2_le_of_lt (c := 64) ((roundTo_q_le hx rc neg (p := 64)).trans_lt (by norm_num))
  have ht : (roundTo rc neg x 64).t = x.log2 - (64 : ℕ) + 1 := rfl
  rw [Rounded.log2, ht]
  omega

/-- The exact value, rounded. -/
theorem logRounding_exact (rc : RC) {y x : Ext} {e : Val} (hy : classOf y = .normal ∨ classOf y = .denormal)
    (hx : classOf x = .normal ∨ classOf x = .denormal) (hpos : extSign x = false) (hne : extReal x ≠ 1)
    (he : exactLog (valOf y) (valOf x) = some e) :
    LogRounding rc (extReal y * Real.logb 2 (extReal x)) e.neg e.mag (roundTo rc e.neg e.mag 64) := by
  obtain ⟨hpow, hreal, hm, hk⟩ := exactLog_spec he hpos
  obtain ⟨hy0, hylt, hykmin, hykmax⟩ := inFormat_valOf hy
  obtain ⟨hxlt, hxkmin, hxkmax⟩ := valOf_bounds hx
  have hlog0 : (valOf x).log2 ≠ 0 := fun h0 => hne (by rw [extReal, hpow, h0, zpow_zero])
  have hlog : (valOf x).log2.natAbs < 2 ^ 15 := by
    have hxm := log2_significand_le hx
    rw [Val.log2]
    omega
  have hm0 : e.m ≠ 0 := by
    rw [hm]
    exact Nat.mul_ne_zero hy0 (Int.natAbs_ne_zero.mpr hlog0)
  have hmlog : e.m.log2 ≤ 78 := by
    refine log2_le_of_lt (c := 78) ?_
    rw [hm]
    exact (Nat.mul_lt_mul'' hylt hlog).trans_eq (by norm_num)
  have hmag : e.mag.real = e.m * 2 ^ e.k := by rw [Val.mag, Mag.real_ratio, Nat.cast_one, div_one]
  have hx : 0 < e.mag.real := by rw [hmag]; positivity
  have hexp : e.mag.log2 = e.m.log2 + e.k := by rw [Mag.log2_eq hx, hmag, floorLog2_natCast_mul hm0]
  have hlo := log2_le_log2_roundTo hx rc e.neg (p := 64) (by norm_num)
  have hhi := log2_roundTo_le hx rc e.neg
  refine ⟨hx, roundTo_q_ne_zero hx rc e.neg (by norm_num), roundTo_q_le hx rc e.neg, by omega, by omega, hlo,
    fun htiny hi => ?_, fun hi => ⟨?_, ?_⟩⟩
  · by_contra hden
    rw [roundAt_inexact_iff hx, not_not] at hden
    obtain ⟨hi', -⟩ := roundTo_of_exact_tiny hx rc e.neg (hlo.trans_lt htiny) hden
    exact absurd (hi.symm.trans hi') nofun
  · rwa [← Bool.not_eq_true, roundTo, roundAt_inexact_iff hx, not_not] at hi
  · rw [hmag, ← mul_assoc]
    exact hreal

/-- FYL2X of a positive number other than 1 and a nonzero number (R308). -/
theorem logDelivered_ylog2x (n : Npx) {y x : Ext} (d : Nat) (hy : classOf y = .normal ∨ classOf y = .denormal)
    (hx : classOf x = .normal ∨ classOf x = .denormal) (hpos : extSign x = false) (hne : extReal x ≠ 1) :
    LogDelivered (n.masked .oe) (n.masked .ue) (extReal y * Real.logb 2 (extReal x)) (n.ylog2x y x d) := by
  rcases n.ylog2x_cases y x d with ⟨e, he, -, heq⟩ | ⟨v, heq⟩
  · rw [heq]
    exact (logRounding_exact n.rc hy hx hpos hne he).delivered ..
  · rw [heq]
    exact (logRounding_drawn n.rc _ v).delivered ..

section
variable {om um : Bool} {V : ℝ} {D : Delivered}

/-- Overflow and underflow masked. -/
theorem LogDelivered.masked (h : LogDelivered true true V D) :
    (IsNumber D.img ∨ classOf D.img = .infinity ∧ D.oe = true) ∧
      (D.pe = false → IsNumber D.img ∧ extReal D.img = V) ∧
      (D.pe = true → classOf D.img = .zero ∨ classOf D.img = .denormal → D.ue = true) := by
  cases h with
  | overflow _ hcls hoe hue hpe =>
    refine ⟨?_, fun h => absurd (hpe.symm.trans h) nofun, fun _ h => ?_⟩
    · exact hcls.elim (fun hc => .inr ⟨hc, hoe⟩) fun hc => .inl (.inr (.inr hc))
    · rcases hcls with hc | hc <;> simp [hc] at h
  | normal hcls hoe hue _ hreal =>
    have hoe' : D.oe = false := Bool.eq_false_iff.mpr fun h => absurd (hoe h) nofun
    have hue' : D.ue = false := Bool.eq_false_iff.mpr fun h => absurd (hue h) nofun
    refine ⟨.inl (.inr (.inr hcls)), fun hpe => ⟨.inr (.inr hcls), ?_⟩, fun _ h => by simp [hcls] at h⟩
    simpa [hoe', hue'] using hreal hpe
  | tiny _ hnum _ hue hreal => exact ⟨.inl hnum, fun hpe => ⟨hnum, hreal hpe⟩, fun hpe _ => hue.trans hpe⟩

/-- Underflow unmasked. -/
theorem LogDelivered.unmasked (h : LogDelivered om false V D) :
    (classOf D.img = .normal ∨ classOf D.img = .infinity ∧ om = true ∧ D.oe = true) ∧
      (D.ue = false ∨ |extReal D.img| < 2 ^ (24576 - 16382 : ℤ)) ∧
      (D.pe = true ∨ extReal D.img =
        V * if D.ue = true then 2 ^ (24576 : ℤ) else if D.oe = true then 2 ^ (-24576 : ℤ) else 1) := by
  cases h with
  | overflow hom hcls hoe hue hpe => exact ⟨hcls.symm.imp_right fun hc => ⟨hc, hom, hoe⟩, .inl hue, .inl hpe⟩
  | normal hcls _ _ hlt hreal =>
    refine ⟨.inl hcls, ?_, ?_⟩
    · exact (Bool.eq_false_or_eq_true D.ue).symm.imp_right hlt
    · exact (Bool.eq_false_or_eq_true D.pe).imp_right hreal
  | tiny hum => cases hum

end

end Sys2Proof.Machine
end

section
/-! The transcendental instructions on numbers in their ranges (R300 to R309). -/

namespace Sys2Proof.Machine

/-! ### FSIN, FCOS, FSINCOS, FPTAN (R301 to R305) -/

/-- The results for a number that is no zero. -/
def TrigOp.results (o : TrigOp) (x : Ext) (n : Npx) : Ext × Option Ext :=
  match o with
  | .sin => ((n.transc1 .sin x).img, none)
  | .cos => ((n.transc1 .cos x).img, none)
  | .sincos => ((n.transc1 .sin x).img, some (n.transc1 .cos x).img)
  | .tan => ((n.transc1 .tan x).img, some extOne)

section
variable (n : Npx) (r : Delivered)

theorem Npx.sameStack_flagDelivered : n.SameStack (n.flagDelivered r) := by
  simp [Npx.SameStack]

theorem Npx.flagDelivered_pe : (n.flagDelivered r).sw.pe = (n.sw.pe || r.pe) := by
  obtain ⟨hflag, -, -⟩ := n.flagged_flagDelivered r
  obtain ⟨-, -, hpe⟩ := r.contains_exceptions
  exact hpe ▸ hflag .pe

theorem Npx.flagDelivered_ue : (n.flagDelivered r).sw.ue = (n.sw.ue || r.ue) := by
  obtain ⟨hflag, -, -⟩ := n.flagged_flagDelivered r
  obtain ⟨-, hue, -⟩ := r.contains_exceptions
  exact hue ▸ hflag .ue

end

section
variable (o : TrigOp) (x : Ext) (n : Npx)

theorem TrigOp.tookResult_compute : n.TookResult (o.compute x n) (o.results x n).1 (o.results x n).2 := by
  cases o with
  | sin | cos => exact (n.answered_deliverInto ..).1
  | tan =>
    exact Npx.tookResult_putResult (n.sameStack_flagDelivered (n.transc1 .tan x)) (n.transc1 .tan x).img (some extOne)
  | sincos =>
    have hs := (n.sameStack_flagDelivered (n.transc1 .sin x)).trans (Npx.sameStack_flagDelivered _ (n.transc1 .cos x))
    exact Npx.tookResult_putResult hs (n.transc1 .sin x).img (some (n.transc1 .cos x).img)

/-- The flags of the computed results; those of FSINCOS come from both. -/
theorem TrigOp.sw_compute : (o.compute x n).sw.pe = true ∧ (o.compute x n).sw.c2 = n.sw.c2 := by
  cases o with
  | sin | cos | tan =>
    refine ⟨?_, ?_⟩
    · exact (Npx.flagDelivered_pe ..).trans (by rw [transc1_pe, Bool.or_true])
    · exact Npx.flagDelivered_c2 ..
  | sincos =>
    refine ⟨?_, ?_⟩
    · exact (Npx.flagDelivered_pe ..).trans (by rw [transc1_pe, Bool.or_true])
    · exact (Npx.flagDelivered_c2 ..).trans (Npx.flagDelivered_c2 ..)

theorem TrigOp.isNumber_results (hm : n.masked .ue = true) :
    IsNumber (o.results x n).1 ∧ ∀ y, (o.results x n).2 = some y → IsNumber y := by
  cases o with
  | sin | cos => exact ⟨transc1_isNumber _ _ _ hm, nofun⟩
  | tan =>
    refine ⟨transc1_isNumber _ _ _ hm, fun y hy => ?_⟩
    cases hy
    exact isNumber_extUnit false
  | sincos =>
    refine ⟨transc1_isNumber _ _ _ hm, fun y hy => ?_⟩
    cases hy
    exact transc1_isNumber _ _ _ hm

/-- The sine of a tiny number is tiny (R302). -/
theorem TrigOp.tiny_compute (hm : n.masked .ue = true) (h : classOf x = .normal ∨ classOf x = .denormal)
    (htiny : |extReal x| < 2 ^ (-16382 : ℤ)) (ho : o = .sin ∨ o = .sincos) :
    classOf (o.results x n).1 = .denormal ∧ (o.compute x n).sw.ue = true := by
  obtain ⟨himg, hue⟩ := transc1_sin_tiny n x hm h htiny
  rcases ho with rfl | rfl
  · exact ⟨himg, (Npx.flagDelivered_ue ..).trans (by rw [hue, Bool.or_true])⟩
  · refine ⟨himg, (Npx.flagDelivered_ue ..).trans ?_⟩
    rw [Npx.flagDelivered_ue, hue, Bool.or_true, Bool.true_or]

end

/-- One of the four instructions on a number in its range. -/
theorem TrigOp.number_response {o : TrigOp} {pre : List Prefix} {s : State} {a : Opnd}
    (h : s.ready (o.instr pre) = true) (hruns : o.Runs s.npx a) (hnz : a.nonzero = true)
    (hden : s.npx.denormalOk a a = true) (hsmall : |extReal a.img| < (2 : ℝ) ^ 63) (hm : s.npx.masked .ue = true) :
    ∃ t n', exec (o.instr pre) s = .next t ∧ n'.masked .ue = true ∧
      s.npx.TookResult t.npx (o.results a.img n').1 (o.results a.img n').2 ∧
      (t.npx.sw.c2 = false ∧ t.npx.sw.pe = true) ∧
      (|extReal a.img| < 2 ^ (-16382 : ℤ) → o = .sin ∨ o = .sincos →
        classOf (o.results a.img n').1 = .denormal ∧ t.npx.sw.ue = true) := by
  obtain ⟨t, he, hnpx⟩ := o.exec_of_ready h
  have hfinite : a.finite = true := (Opnd.finite_iff a).mpr ⟨Opnd.ordinary_of_nonzero hnz, (Opnd.cls_of_nonzero hnz).2⟩
  have hrange : ¬a.tooLarge = true := by
    rw [Opnd.tooLarge_iff (cls_of_stOpnd hruns.1) hfinite]
    exact not_le.mpr hsmall
  rw [TrigOp.rule_of_finite _ hruns hfinite, if_neg (by simp [hden]), if_neg hrange,
    if_neg (Opnd.cls_of_nonzero hnz).1] at hnpx
  have hs : s.npx.SameStack ((s.npx.noteDenormal a a).setC2 false) := s.npx.sameStack_noteDenormal a a
  have hm' : ((s.npx.noteDenormal a a).setC2 false).masked .ue = true := by simpa using hm
  obtain ⟨hpe, hc2⟩ := o.sw_compute a.img ((s.npx.noteDenormal a a).setC2 false)
  refine ⟨t, _, he, hm', ?_, ?_, fun htiny ho => ?_⟩
  · rw [hnpx, Npx.tookResult_drawC30]
    exact hs.tookResult_iff.mp (o.tookResult_compute ..)
  · rw [hnpx]
    exact ⟨hc2, hpe⟩
  · obtain ⟨hcls, hue⟩ := o.tiny_compute a.img _ hm' ((proper_of_stOpnd hruns.1).nonzero hnz) htiny ho
    exact ⟨hcls, by rw [hnpx]; exact hue⟩

/-! ### F2XM1, FPATAN, FYL2XP1, FYL2X (R306 to R309) -/

theorem Npx.denormalOk_of_masked {n : Npx} (h : n.masked .de = true) (a b : Opnd) : n.denormalOk a b = true := by
  simp [Npx.denormalOk, h]

theorem fyl2xInvalid_of_positive {y x : Opnd} (hx : x.nonzero = true) (hy : y.nonzero = true)
    (hpos : extSign x.img = false) : fyl2xInvalid y x = false := by
  simp [fyl2xInvalid, Opnd.isZero, Opnd.isInf, Opnd.neg, hpos, Opnd.cls_of_nonzero hx, Opnd.cls_of_nonzero hy]

section
variable {s : State} {pre : List Prefix} {x y : Opnd} (hx : s.npx.stOpnd 0 = some x) (hnx : x.nonzero = true)
  (hde : s.npx.masked .de = true)
include hx hnx hde

theorem f2xm1_result (h : s.ready (.f2xm1 pre) = true) (hue : s.npx.masked .ue = true) (hr : |extReal x.img| ≤ 1) :
    ∃ t z, exec (.f2xm1 pre) s = .next t ∧ IsNumber z ∧ s.npx.Wrote t.npx (s.npx.phys 0) z 0 ∧
      (|extReal x.img| < 1 → t.npx.sw.pe = true) := by
  obtain ⟨t, he, hnpx⟩ := exec_numReg_of_ready (i := .f2xm1 pre) rfl rfl rfl h
  have hrule := checkedRule_f2xm1 s.draws s.npx
  rw [← hnpx] at hrule
  have hox := Opnd.ordinary_of_nonzero hnx
  have hok := Npx.denormalOk_of_masked hde x x
  rcases hr.lt_or_eq with hlt | h1
  · obtain ⟨hw, hf, -⟩ := hrule.answered_deliverInto hx hx hox hox rfl hok fun n => f2xm1Rule_inRange s.draws n hnx hlt
    obtain ⟨-, -, hpe⟩ := hf.delivered
    exact ⟨t, _, he, transc1_isNumber _ _ _ (by simpa using hue), hw, fun _ => by rw [hpe, transc1_pe, Bool.or_true]⟩
  · obtain ⟨neg, hreal⟩ : ∃ neg, extReal x.img = signOf neg := by
      rcases eq_or_eq_neg_of_abs_eq h1 with h1 | h1
      · exact ⟨false, h1⟩
      · exact ⟨true, h1⟩
    have himg := eq_extUnit ((proper_of_stOpnd hx).nonzero hnx) hreal
    obtain ⟨hw, -⟩ := hrule.answered_exactInto hx hx hox hox rfl hok fun n => f2xm1Rule_one s.draws n hnx himg
    refine ⟨t, _, he, .inr (.inr ?_), hw, fun hlt => absurd h1 hlt.ne⟩
    cases neg <;> decide

variable (hy : s.npx.stOpnd 1 = some y) (hny : y.nonzero = true)
include hy hny

theorem fpatan_result (h : s.ready (.fpatan pre) = true) (hue : s.npx.masked .ue = true) :
    ∃ t z, exec (.fpatan pre) s = .next t ∧ IsNumber z ∧ s.npx.Wrote t.npx (s.npx.phys 1) z 1 ∧
      t.npx.sw.pe = true := by
  obtain ⟨t, he, hnpx⟩ := exec_numReg_of_ready (i := .fpatan pre) rfl rfl rfl h
  have hrule := checkedRule_fpatan s.draws s.npx
  rw [← hnpx] at hrule
  have hcase : atanCase y x = .computed := by
    simp [atanCase, Opnd.isZero, Opnd.isInf, Opnd.cls_of_nonzero hnx, Opnd.cls_of_nonzero hny]
  obtain ⟨hw, hf, -⟩ := hrule.answered_deliverInto hy hx (Opnd.ordinary_of_nonzero hny) (Opnd.ordinary_of_nonzero hnx)
    rfl (Npx.denormalOk_of_masked hde y x) (r := fun n => n.transc2 .atan2 y.img x.img) fun n => by
      simp only [fpatanRule, hcase]
  obtain ⟨-, -, hpe⟩ := hf.delivered
  exact ⟨t, _, he, transc2_isNumber _ _ _ _ (by simpa using hue), hw, by rw [hpe, transc2_pe, Bool.or_true]⟩

theorem fyl2xp1_result (h : s.ready (.fyl2xp1 pre) = true) (hue : s.npx.masked .ue = true)
    (hr : |extReal x.img| < (2 - Real.sqrt 2) / 2) :
    ∃ t z, exec (.fyl2xp1 pre) s = .next t ∧ IsNumber z ∧ s.npx.Wrote t.npx (s.npx.phys 1) z 1 ∧
      t.npx.sw.pe = true := by
  obtain ⟨t, he, hnpx⟩ := exec_numReg_of_ready (i := .fyl2xp1 pre) rfl rfl rfl h
  have hrule := checkedRule_fyl2xp1 s.draws s.npx
  rw [← hnpx] at hrule
  obtain ⟨hzero, hinf⟩ := Opnd.cls_of_nonzero hny
  rw [cls_of_stOpnd hy] at hzero
  obtain ⟨hw, hf, -⟩ := hrule.answered_deliverInto hy hx (Opnd.ordinary_of_nonzero hny) (Opnd.ordinary_of_nonzero hnx)
    (by simp [Opnd.isZero, Opnd.cls_of_nonzero hnx]) (Npx.denormalOk_of_masked hde y x)
    fun n => (fyl2xp1Rule_inRange s.draws n hnx hr).trans (if_neg hinf)
  obtain ⟨-, -, hpe⟩ := hf.delivered
  rw [ylog2xp1_of_nonzero _ _ hzero] at hw hpe
  exact ⟨t, _, he, transc2_isNumber _ _ _ _ (by simpa using hue), hw, by rw [hpe, transc2_pe, Bool.or_true]⟩

variable (h : s.ready (.fyl2x pre) = true) (hpos : extSign x.img = false)
include h hpos

/-- FYL2X of a positive number other than 1 and a nonzero number delivers what `LogDelivered` says (R308). -/
theorem fyl2x_result (hne : extReal x.img ≠ 1) : ∃ t D, exec (.fyl2x pre) s = .next t ∧
    LogDelivered (s.npx.masked .oe) (s.npx.masked .ue) (extReal y.img * Real.logb 2 (extReal x.img)) D ∧
    s.npx.Wrote t.npx (s.npx.phys 1) D.img 1 ∧ t.npx.sw.oe = (s.npx.sw.oe || D.oe) ∧
    t.npx.sw.ue = (s.npx.sw.ue || D.ue) ∧ t.npx.sw.pe = (s.npx.sw.pe || D.pe) := by
  obtain ⟨t, he, hnpx⟩ := exec_numReg_of_ready (i := .fyl2x pre) rfl rfl rfl h
  have hrule := checkedRule_fyl2x s.draws s.npx
  rw [← hnpx] at hrule
  have hzx := Opnd.cls_of_nonzero hnx
  have hzy := Opnd.cls_of_nonzero hny
  have hne' : x.img ≠ extOne := fun himg => hne ((nonzero_and_extReal_eq_one_iff hx).mpr himg).2
  have hvalid := fyl2xInvalid_of_positive hnx hny hpos
  obtain ⟨hw, hf, -⟩ := hrule.answered_deliverInto hy hx (Opnd.ordinary_of_nonzero hny) (Opnd.ordinary_of_nonzero hnx)
    hvalid (Npx.denormalOk_of_masked hde y x) (r := fun n => n.ylog2x y.img x.img s.draws) fun n => by
      simp [fyl2xRule, Opnd.isZero, Opnd.isInf, hzx, hzy, hne']
  have hlog := logDelivered_ylog2x (s.npx.noteDenormal y x) s.draws ((proper_of_stOpnd hy).nonzero hny)
    ((proper_of_stOpnd hx).nonzero hnx) hpos hne
  rw [Npx.noteDenormal_masked, Npx.noteDenormal_masked] at hlog
  exact ⟨t, _, he, hlog, hw, hf.delivered⟩

/-- FYL2X of 1 is exact (R308). -/
theorem fyl2x_one (h1 : extReal x.img = 1) : ∃ t, exec (.fyl2x pre) s = .next t ∧
    s.npx.Wrote t.npx (s.npx.phys 1) (extZero (extSign y.img)) 1 ∧ t.npx.sw.pe = s.npx.sw.pe := by
  obtain ⟨t, he, hnpx⟩ := exec_numReg_of_ready (i := .fyl2x pre) rfl rfl rfl h
  have hrule := checkedRule_fyl2x s.draws s.npx
  rw [← hnpx] at hrule
  have hvalid := fyl2xInvalid_of_positive hnx hny hpos
  obtain ⟨hw, ⟨hflag, -⟩, -⟩ := hrule.answered_exactInto hy hx (Opnd.ordinary_of_nonzero hny)
    (Opnd.ordinary_of_nonzero hnx) hvalid (Npx.denormalOk_of_masked hde y x) fun n =>
      fyl2xRule_special s.draws n
        (.ofOne hnx ((nonzero_and_extReal_eq_one_iff hx).mp ⟨hnx, h1⟩) (Opnd.cls_of_nonzero hny).2)
  refine ⟨t, he, hw, (hflag .pe).trans ?_⟩
  unfold denormalFlag
  split <;> simp [StatusWord.flag]

end

/-- The places of OE, UE and PE in SW[5:0] (R30). -/
theorem StatusWord.flags_getLsbD (w : StatusWord) :
    w.flags.getLsbD 3 = w.oe ∧ w.flags.getLsbD 4 = w.ue ∧ w.flags.getLsbD 5 = w.pe := by
  simp only [StatusWord.flags, BitVec.getLsbD_append, BitVec.getLsbD_ofBool]
  exact ⟨rfl, rfl, rfl⟩

theorem StatusWord.flag_of_flags_eq_zero {w : StatusWord} (h : w.flags = 0) :
    w.oe = false ∧ w.ue = false ∧ w.pe = false := by
  obtain ⟨hoe, hue, hpe⟩ := w.flags_getLsbD
  rw [h] at hoe hue hpe
  exact ⟨hoe.symm, hue.symm, hpe.symm⟩

/-- Settles O54: the opaque functions answer numbers, always inexact but for FYL2X, whose result is delivered as
`LogDelivered` says. -/
theorem transcendentalResults : Obligations.TranscendentalResults := by
  unfold Obligations.TranscendentalResults
  refine ⟨fun i pre s a h ha hnz hden hsmall _ hue => ?_, fun i pre s x h hx hnx hoe hue hde => ?_,
    fun pre s x y h hx hy hnx hny hpos hne hde hue => ?_⟩
  · have hresult (o : TrigOp) (h : s.ready (o.instr pre) = true) (hroom : o.pushes = true → s.npx.canPush = true) :=
      TrigOp.number_response h ⟨ha, hroom⟩ hnz hden hsmall hue
    refine ⟨?_, ?_, ?_⟩
    · rintro (rfl | rfl)
      · obtain ⟨t, n', he, hm, hw, hdone, htiny⟩ := hresult .sin h nofun
        exact ⟨t, _, he, (TrigOp.isNumber_results .sin _ _ hm).1, hw, hdone, fun _ hsm => htiny hsm (.inl rfl)⟩
      · obtain ⟨t, n', he, hm, hw, hdone, -⟩ := hresult .cos h nofun
        exact ⟨t, _, he, (TrigOp.isNumber_results .cos _ _ hm).1, hw, hdone, nofun⟩
    · rintro rfl hroom
      obtain ⟨t, n', he, hm, hw, hdone, -⟩ := hresult .tan h fun _ => hroom
      exact ⟨t, _, he, (TrigOp.isNumber_results .tan _ _ hm).1, hw, hdone⟩
    · rintro rfl hroom
      obtain ⟨t, n', he, hm, hw, hdone, htiny⟩ := hresult .sincos h fun _ => hroom
      obtain ⟨hsin, hcos⟩ := TrigOp.isNumber_results .sincos a.img n' hm
      exact ⟨t, _, _, he, hsin, hcos _ rfl, hw, hdone, fun hsm => htiny hsm (.inr rfl)⟩
  · refine ⟨?_, fun y hy hny => ⟨?_, ?_⟩⟩
    · rintro rfl hr
      exact f2xm1_result hx hnx hde h hue hr
    · rintro (rfl | ⟨rfl, hr⟩)
      · exact fpatan_result hx hnx hde hy hny h hue
      · exact fyl2xp1_result hx hnx hde hy hny h hue hr
    · rintro rfl hpos
      by_cases h1 : extReal x.img = 1
      · obtain ⟨t, he, hw, hpe⟩ := fyl2x_one hx hnx hde hy hny h hpos h1
        have himg := isImage_extZero (extSign y.img)
        have hnum := isNumber_of_isImage le_rfl himg
        obtain ⟨-, hreal, -⟩ := himg
        refine ⟨t, _, he, .inl hnum, hw, fun _ _ => ⟨hnum, ?_⟩,
          fun hs ht => absurd (ht.symm.trans (hpe.trans hs)) nofun⟩
        rw [hreal, h1, Real.logb_one, mul_zero, mul_zero]
      · obtain ⟨t, D, he, hD, hw, hoe', hue', hpe'⟩ := fyl2x_result hx hnx hde hy hny h hpos h1
        rw [hoe, hue] at hD
        obtain ⟨hcls, hexact, htiny⟩ := hD.masked
        refine ⟨t, D.img, he, hcls.imp_right fun ⟨hinf, hDoe⟩ => ⟨hinf, by rw [hoe', hDoe, Bool.or_true]⟩, hw,
          fun hs ht => ?_, fun hs ht hz => ?_⟩
        · rw [hpe', hs, Bool.false_or] at ht
          exact hexact ht
        · rw [hpe', hs, Bool.false_or] at ht
          rw [hue', htiny ht hz, Bool.or_true]
  · obtain ⟨t, D, he, hD, hw, hoe', hue', hpe'⟩ := fyl2x_result hx hnx hde hy hny h hpos hne
    rw [hue] at hD
    obtain ⟨hcls, htiny, hexact⟩ := hD.unmasked
    refine ⟨t, D.img, he, hw, ?_, fun hflags => ?_⟩
    · exact hcls.imp_right fun ⟨hinf, hom, hDoe⟩ => ⟨hinf, hom, by rw [hoe', hDoe, Bool.or_true]⟩
    · obtain ⟨hso, hsu, hsp⟩ := StatusWord.flag_of_flags_eq_zero hflags
      rw [hoe', hue', hpe', hso, hsu, hsp, Bool.false_or, Bool.false_or, Bool.false_or]
      exact ⟨htiny, hexact⟩

end Sys2Proof.Machine
end

section
/-! An administrative instruction that is ready runs its rule (R320, R361), and the status word, control word and tag
word read by bits (R24, R30, R42). -/

namespace Sys2Proof.Machine

/-! ### Entering an administrative instruction that is ready (R320, R361) -/

section
variable {i : Instr} {s : State} {k : EscKind}

/-- Administrative instructions keep the pointers (R360). -/
theorem State.startEsc_of_administrative (hk : k.numeric = false) (op : BitVec 11) (r : Option MemRef) :
    s.startEsc k op r = s := by
  simp [State.startEsc, hk]

@[simp] theorem fstcwKind_numeric (p : Params) : (fstcwKind p).numeric = false := by
  unfold fstcwKind
  split <;> rfl

/-- An administrative register form that is ready applies its rule. -/
theorem exec_adminReg_of_ready {pre : List Prefix} {grp : BitVec 3} {b2 : Byte} {body : State → State}
    (runs : exec i s = s.regForm k pre grp b2 body) (hk : k.numeric = false) (hw : k.waiting = i.waits s.params)
    (hi : i.isWait = false) (h : s.ready i = true) : ∃ len, exec i s = .next (s.finish len (body s)) := by
  have hrun : s.escEntry k.waiting = .run := hw ▸ s.entry_of_ready hi h
  exact ⟨pre.length + 2, by rw [runs, State.regForm, State.escReg_run hrun, State.startEsc_of_administrative hk]⟩

/-- An administrative memory form that is ready applies its rule to its operand. -/
theorem exec_adminMem_of_ready {pre : List Prefix} {grp reg : BitVec 3} {m : MemArg} {n : Nat} {w : Bool}
    {body : MemRef → State → State} {r : MemRef} (runs : exec i s = s.memForm k pre grp reg m n w body)
    (hk : k.numeric = false) (hw : k.waiting = i.waits s.params) (parts : i.parts = (pre, 2, some m))
    (hu : i.operandUse (s.operandSize pre) = some ⟨n, w⟩) (hn : n = 2 ∨ 4 ≤ n) (h : s.ready i = true)
    (hr : s.operandRef i = some r) : ∃ len, exec i s = .next (s.finish len (body r s)) := by
  have ho : s.operand i = some (effectiveAddress s.cpu pre m, ⟨n, w⟩) := by
    rw [s.operand_of_parts parts, hu, Option.map_some]
  obtain rfl : effectiveAddress s.cpu pre m = r := by
    simpa [State.operandRef, Instr.memArg?, Instr.prefixes, parts] using hr
  obtain ⟨hallow, hfault⟩ := s.operand_of_ready h ho
  have hrun : s.escEntry k.waiting = .run := hw ▸ s.entry_of_ready (isWait_eq_false_of_operandUse hu) h
  refine ⟨pre.length + 2 + m.tail.length, ?_⟩
  rw [runs, State.memForm, State.escMem_run hrun hn hallow hfault, State.startEsc_of_administrative hk]

end

/-! ### The status word and the control word by bits (R30 to R33, R42 to R45) -/

section
variable (n : Npx) (d : Nat) (e : Exc)

@[simp] theorem Npx.flag_drawCC : (n.drawCC d).sw.flag e = n.sw.flag e := by cases e <;> rfl

@[simp] theorem Npx.flag_setTop (a : BitVec 3) : (n.setTop a).sw.flag e = n.sw.flag e := by cases e <;> rfl

@[simp] theorem Npx.flag_free (a : BitVec 3) : (n.free a).sw.flag e = n.sw.flag e := rfl

@[simp] theorem Npx.isEmpty_drawCC (j : BitVec 3) : (n.drawCC d).isEmpty j = n.isEmpty j := rfl

theorem Npx.sameStack_drawCC : n.SameStack (n.drawCC d) := ⟨rfl, rfl, rfl⟩

theorem Npx.flagged_drawCC : n.Flagged (n.drawCC d) [] false := by simp [Npx.Flagged]

/-- The place of an exception's flag in SW[5:0] and of its mask in CW[5:0] (R30, R42). -/
def Exc.place : Exc → Nat
  | .ie => 0
  | .de => 1
  | .ze => 2
  | .oe => 3
  | .ue => 4
  | .pe => 5

theorem Exc.exists_place {k : Nat} (hk : k < 6) : ∃ e : Exc, e.place = k := by
  interval_cases k
  exacts [⟨.ie, rfl⟩, ⟨.de, rfl⟩, ⟨.ze, rfl⟩, ⟨.oe, rfl⟩, ⟨.ue, rfl⟩, ⟨.pe, rfl⟩]

theorem Exc.place_lt : e.place < 6 := by cases e <;> decide

theorem StatusWord.flags_place (w : StatusWord) : w.flags.getLsbD e.place = w.flag e := by
  simp only [StatusWord.flags, BitVec.getLsbD_append, BitVec.getLsbD_ofBool]
  cases e <;> rfl

theorem Npx.masks_place : n.masks.getLsbD e.place = n.masked e := by
  cases e <;> simp [Npx.masks, Exc.place, Npx.masked]

/-- ES: some flag is set whose exception is not masked (R33). -/
theorem Npx.es_iff : n.es = true ↔ ∃ e, n.sw.flag e = true ∧ n.masked e = false := by
  have hbit (e : Exc) : (n.sw.flags &&& ~~~n.masks).getLsbD e.place = (n.sw.flag e && !n.masked e) := by
    rw [BitVec.getLsbD_and, BitVec.getLsbD_not, StatusWord.flags_place, Npx.masks_place, decide_eq_true e.place_lt,
      Bool.true_and]
  rw [Npx.es, bne_iff_ne]
  constructor
  · intro hne
    by_contra hno
    refine hne (BitVec.eq_of_getLsbD_eq fun k hk => ?_)
    obtain ⟨e, rfl⟩ := Exc.exists_place hk
    simpa [hbit] using not_exists.mp hno e
  · rintro ⟨e, hf, hm⟩ h0
    simpa [h0, hf, hm] using hbit e

/-- The bits that a load of the control word leaves (R44, R45). -/
theorem getLsbD_readbackCw (p : CwReadback) (v : BitVec 16) {k : Nat} (hk : k < 16) :
    (readbackCw p v).getLsbD k =
      if k = 6 then true else if 13 ≤ k ∨ k = 7 then p == .asWritten && v.getLsbD k else v.getLsbD k := by
  cases p
  all_goals
    simp only [readbackCw]
    interval_cases k <;> simp

end

/-! ### The status word as it is loaded (R30, R41) -/

/-- The bits of the status word other than ES and B are those of the word it was loaded from. -/
theorem getLsbD_packStatus_loadStatus (v : BitVec 16) (es : Bool) {k : Nat} (hk : k < 16) (h7 : k ≠ 7)
    (h15 : k ≠ 15) : (packStatus (loadStatus v) es).getLsbD k = v.getLsbD k := by
  simp only [packStatus, StatusWord.flags, loadStatus, BitVec.getLsbD_append, BitVec.getLsbD_ofBool,
    BitVec.getLsbD_extractLsb']
  interval_cases k
  any_goals rfl
  · exact absurd rfl h7
  · exact absurd rfl h15

/-- A stored status word loads as it was (R30, R41). -/
theorem loadStatus_packStatus (w : StatusWord) (es : Bool) : loadStatus (packStatus w es) = w := by
  have htop : (packStatus w es).extractLsb' 11 3 = w.top := by
    ext i hi
    simp only [packStatus, StatusWord.flags, BitVec.getElem_extractLsb', BitVec.getLsbD_append, BitVec.getLsbD_ofBool]
    interval_cases i <;> rfl
  cases w
  simp only [loadStatus, htop]
  simp only [packStatus, StatusWord.flags, BitVec.getLsbD_append, BitVec.getLsbD_ofBool]
  rfl

/-! ### The tag word as it is loaded (R24, R25) -/

/-- The tag of an empty register is no other register's (R24, R25). -/
theorem tagOf_ne_empty (x : Ext) : tagOf x ≠ 3 := by
  unfold tagOf
  split <;> decide

/-- A tag word tells the empty registers (R25). -/
theorem tagEmpty_tagWord (n : Npx) (k : BitVec 3) : tagEmpty n.tagWord k.toNat = n.isEmpty k := by
  have htag : n.tagWord.extractLsb' (2 * k.toNat) 2 = if n.isEmpty k then 3 else tagOf (n.reg k) := by
    obtain ⟨k, hk⟩ := k
    interval_cases k
    all_goals
      ext i hi
      simp only [Npx.tagWord, BitVec.getElem_extractLsb', BitVec.getLsbD_append]
      interval_cases i <;> rfl
  rw [tagEmpty, htag]
  cases n.isEmpty k with
  | true => rfl
  | false => exact beq_false_of_ne (tagOf_ne_empty _)

/-- The NPX by its registers, tags, status word and control word. -/
theorem Npx.ext_reg {n m : Npx} (hreg : ∀ k, n.reg k = m.reg k) (hempty : ∀ k, n.isEmpty k = m.isEmpty k)
    (hsw : n.sw = m.sw) (hcw : n.cw = m.cw) : n = m := by
  have hregs : n.regs = m.regs := Vector.ext fun k hk => hreg (BitVec.ofNatLT k hk)
  have hemptys : n.empty = m.empty := Vector.ext fun k hk => hempty (BitVec.ofNatLT k hk)
  cases n
  simp_all

end Sys2Proof.Machine
end

section
/-! The bytes of an operand (R72, R73): words and register images inside it. -/

namespace Sys2Proof.Machine

theorem Memory.readList_append (m : Memory) (as bs : List Nat) :
    m.readList (as ++ bs) = m.readList as + 256 ^ as.length * m.readList bs := by
  induction as with
  | nil => simp [Memory.readList]
  | cons a as ih =>
    simp only [List.cons_append, Memory.readList, ih, List.length_cons]
    ring

theorem Memory.readList_lt (m : Memory) (as : List Nat) : m.readList as < 256 ^ as.length := by
  induction as with
  | nil => simp [Memory.readList]
  | cons a as ih =>
    have := (m.read a).isLt
    simp only [Memory.readList, List.length_cons, pow_succ']
    omega

/-- The `len` bytes at an offset of a number of `n` bytes. -/
theorem Memory.readList_slice (m : Memory) (f : Nat → Nat) {off len n : Nat} (h : off + len ≤ n) :
    m.readList ((List.range len).map fun k => f (off + k)) =
      m.readList ((List.range n).map f) / 256 ^ off % 256 ^ len := by
  obtain ⟨rest, rfl⟩ := Nat.exists_eq_add_of_le h
  have hsplit : (List.range (off + len + rest)).map f = (List.range off).map f ++
      (((List.range len).map fun k => f (off + k)) ++ (List.range rest).map fun k => f (off + len + k)) := by
    simp [List.range_add, Function.comp_def]
  have hlow := m.readList_lt ((List.range off).map f)
  have hmid := m.readList_lt ((List.range len).map fun k => f (off + k))
  simp only [List.length_map, List.length_range] at hlow hmid
  rw [hsplit, Memory.readList_append, Memory.readList_append, List.length_map, List.length_range, List.length_map,
    List.length_range, Nat.add_mul_div_left _ _ (by positivity), Nat.div_eq_of_lt hlow, zero_add,
    Nat.add_mul_mod_self_left, Nat.mod_eq_of_lt hmid]

section
variable (t : State) (r : MemRef) {off n : Nat}

theorem State.wordAt_eq (h : off + 2 ≤ n) : t.wordAt r off = BitVec.ofNat 16 (t.readOperand r n >>> (8 * off)) := by
  have hs := t.mem.readList_slice (t.cpu.segs.address r) h
  rw [Nat.shiftRight_eq_div_pow, pow_mul]
  refine (congrArg (BitVec.ofNat 16) hs).trans ?_
  exact BitVec.eq_of_toNat_eq (by simp [State.readOperand, Segments.addresses])

theorem State.imageAt_eq (h : off + 10 ≤ n) :
    t.imageAt r off = BitVec.ofNat 80 (t.readOperand r n >>> (8 * off)) := by
  rw [State.imageAt, t.mem.readList_slice (t.cpu.segs.address r) h, Nat.shiftRight_eq_div_pow, pow_mul]
  exact BitVec.eq_of_toNat_eq (by simp [State.readOperand, Segments.addresses])

theorem State.readOperand_of_le (h : off ≤ n) : t.readOperand r off = t.readOperand r n % 256 ^ off := by
  have hs := t.mem.readList_slice (t.cpu.segs.address r) (off := 0) ((zero_add off).trans_le h)
  simpa [State.readOperand, Segments.addresses] using hs

end

end Sys2Proof.Machine
end

section
/-! FNINIT, the transfers of the status word and the control word, and the register stack (R325 to R331, R345 to
R349). -/

namespace Sys2Proof.Machine

/-! ### FNINIT (R325) -/

@[simp] theorem Npx.init_es (n : Npx) : n.init.es = false := by
  have h : n.init.es = ((zeroStatus.flags &&& ~~~initControl.extractLsb' 0 6) != 0) := rfl
  rw [h]
  decide

@[simp] theorem Npx.init_statusWord (n : Npx) : n.init.statusWord = 0 := by
  have h : packStatus zeroStatus false = 0 := by decide
  rw [Npx.statusWord, Npx.init_es]
  exact h

@[simp] theorem Npx.init_isEmpty (n : Npx) (k : BitVec 3) : n.init.isEmpty k = true := by
  simp [Npx.isEmpty, Npx.init]

@[simp] theorem Npx.init_tagWord (n : Npx) : n.init.tagWord = 0xFFFF := by
  simp only [Npx.tagWord, Npx.init_isEmpty, if_true]
  rfl

/-- Settles O55: FNINIT applies `State.init`. -/
theorem fninitLeavesInitialState : Obligations.Initialize := by
  unfold Obligations.Initialize
  intro pre s h
  obtain ⟨_, he⟩ := exec_adminReg_of_ready (exec_finit pre s) rfl rfl rfl h
  exact ⟨_, he, rfl, s.npx.init_statusWord, s.npx.init_tagWord, s.npx.init_isEmpty, rfl, rfl, s.npx.init_es⟩

/-! ### The register stack (R345 to R349) -/

/-- FINCSTP and FDECSTP write TOP, clear C1 and leave the other condition bits undefined (R345, R346). -/
theorem Npx.setTop_leaves (n : Npx) (a : BitVec 3) (d : Nat) :
    let m := ((n.setTop a).setC1 false).drawC320 d
    m.sw.top = a ∧ m.regs = n.regs ∧ m.empty = n.empty ∧ n.Flagged m [] false ∧ m.sw.c1 = false := by
  simp [Npx.Flagged]

/-- FNOP and its aliases, when ready, leave the condition code undefined (92 D12, D14). -/
theorem exec_nop_of_ready {i : Instr} {pre : List Prefix} {s : State}
    (hi : i = .fnop pre ∨ i = .feni pre ∨ i = .fdisi pre ∨ i = .fsetpm pre) (h : s.ready i = true) :
    ∃ t, exec i s = .next t ∧ t.npx = s.npx.drawCC s.draws := by
  rcases hi with rfl | rfl | rfl | rfl
  all_goals exact exec_numReg_of_ready (f := nopRule) rfl rfl rfl h

/-- Settles O57: each one is a numeric register form, whose rule writes TOP, a tag or the condition code only. -/
theorem stackManagement : Obligations.StackManagement := by
  unfold Obligations.StackManagement
  refine ⟨fun pre s => ⟨fun h => ?_, fun h => ?_⟩, fun pre k s h => ?_, fun i pre s hi h => ?_⟩
  · obtain ⟨t, he, hn⟩ := exec_numReg_of_ready (i := .fincstp pre) rfl rfl rfl h
    exact ⟨t, he, hn ▸ s.npx.setTop_leaves _ _⟩
  · obtain ⟨t, he, hn⟩ := exec_numReg_of_ready (i := .fdecstp pre) rfl rfl rfl h
    exact ⟨t, he, hn ▸ s.npx.setTop_leaves _ _⟩
  · obtain ⟨t, he, hn⟩ := exec_numReg_of_ready (i := .ffreeSti pre k) rfl rfl rfl h
    refine ⟨t, he, hn ▸ rfl, hn ▸ rfl, fun j => ?_, ?_⟩
    · rw [hn, Npx.isEmpty_drawCC, Npx.isEmpty_free, Npx.phys]
      grind
    · simp [hn, Npx.Flagged]
  · obtain ⟨t, he, hn⟩ := exec_nop_of_ready hi h
    exact ⟨t, he, hn ▸ s.npx.sameStack_drawCC _, hn ▸ s.npx.flagged_drawCC _⟩

/-! ### The status word and the control word in memory (R327 to R331) -/

/-- A word stored to an operand is read back from it, whatever the instruction then leaves in the NPX. -/
theorem State.wordAt_storeWord (s : State) (r : MemRef) (len : Nat) (v : BitVec 16) :
    (s.finish len (s.writeOperand r 2 v.toNat).drawCC).wordAt r 0 = v := by
  have h : (s.finish len (s.writeOperand r 2 v.toNat).drawCC).readOperand r 2 = v.toNat :=
    s.readOperand_writeOperand r (by norm_num) v.isLt
  rw [State.wordAt_eq _ r (le_refl 2), h]
  simp

/-- Settles O56: what is stored is read back from the operand, and FLDCW loads the operand by `readbackCw`. -/
theorem statusAndControlTransfers : Obligations.StatusAndControlTransfers := by
  unfold Obligations.StatusAndControlTransfers
  refine ⟨?_, fun pre m s r h hr => ?_⟩
  · rintro i pre m s h (rfl | rfl | rfl)
    · obtain ⟨len, he⟩ := exec_adminReg_of_ready (exec_fstswAx pre s) rfl rfl rfl h
      exact ⟨_, he, s.npx.sameStack_drawCC _, s.npx.flagged_drawCC _, rfl, fun _ => rfl, nofun⟩
    · obtain ⟨len, he⟩ := exec_adminMem_of_ready (exec_fstsw pre m s) rfl rfl rfl rfl (.inl rfl) h rfl
      refine ⟨_, he, s.npx.sameStack_drawCC _, s.npx.flagged_drawCC _, rfl, nofun,
        fun r hr => ⟨fun _ => ?_, nofun⟩⟩
      obtain rfl := Option.some.inj hr
      exact s.wordAt_storeWord _ len _
    · obtain ⟨len, he⟩ := exec_adminMem_of_ready (exec_fstcw pre m s) (fstcwKind_numeric _) (fstcwKind_waiting _)
        rfl rfl (.inl rfl) h rfl
      refine ⟨_, he, s.npx.sameStack_drawCC _, s.npx.flagged_drawCC _, rfl, nofun,
        fun r hr => ⟨nofun, fun _ => ?_⟩⟩
      obtain rfl := Option.some.inj hr
      exact s.wordAt_storeWord _ len _
  · obtain ⟨len, he⟩ := exec_adminMem_of_ready (exec_fldcw pre m s) rfl rfl rfl rfl (.inl rfl) h hr
    refine ⟨_, he, fun k hk => ?_, s.npx.sameStack_drawCC _, fun e => ?_, rfl, rfl, ?_⟩
    · exact getLsbD_readbackCw _ _ hk
    · exact s.npx.flag_drawCC _ e
    · rw [Npx.es_iff]
      exact exists_congr fun e => and_congr_left' (by rw [← s.npx.flag_drawCC s.draws e]; rfl)

end Sys2Proof.Machine
end

section
/-! The environment and full-state images in memory (R335, R338): what a store leaves in the operand, word by word, and
what a load takes from it. -/

namespace Sys2Proof.Machine

/-! ### Fields of an image (R335) -/

theorem packFields_lt (w : Nat) (l : List (BitVec w)) : packFields w l < 2 ^ (w * l.length) := by
  induction l with
  | nil => simp [packFields]
  | cons f fs ih =>
    have hf := f.isLt
    simp only [packFields, List.length_cons, Nat.mul_succ, pow_add]
    nlinarith

/-- Each field is read back from the image. -/
theorem fieldOf_packFields {w : Nat} {l : List (BitVec w)} {k : Nat} {f : BitVec w} (h : l[k]? = some f) :
    fieldOf w (packFields w l) k = f := by
  induction l generalizing k with
  | nil => cases h
  | cons g gs ih =>
    have hg := g.isLt
    cases k with
    | zero =>
      obtain rfl := Option.some.inj h
      exact BitVec.eq_of_toNat_eq (by simp [fieldOf, packFields, Nat.mod_eq_of_lt hg])
    | succ k =>
      have hshift : packFields w (g :: gs) >>> (w * (k + 1)) = packFields w gs >>> (w * k) := by
        rw [Nat.mul_succ, add_comm, Nat.shiftRight_add, Nat.shiftRight_eq_div_pow _ w, packFields,
          Nat.add_mul_div_left _ _ (by positivity), Nat.div_eq_of_lt hg, zero_add]
      rw [fieldOf, hshift]
      exact ih (by simpa using h)

/-- The bits of a number from bit `a` on. -/
theorem extractLsb'_ofNat {w : Nat} (v a : Nat) {l : Nat} (h : a + l ≤ w) :
    (BitVec.ofNat w v).extractLsb' a l = BitVec.ofNat l (v >>> a) := by
  ext i hi
  have haw : a + i < w := by omega
  simp [BitVec.getElem_eq_testBit_toNat, Nat.testBit_mod_two_pow, haw, hi]

/-- A doubleword is its two words. -/
theorem halves_append (f : BitVec 32) : f.extractLsb' 16 16 ++ f.extractLsb' 0 16 = f :=
  (BitVec.extractLsb'_append_extractLsb'_eq_extractLsb' rfl).trans (BitVec.extractLsb'_eq_self (x := f))

/-- The number of bytes from one field of an environment to the next (R335). -/
def envStep (z : Size) : Nat := if z = .s16 then 2 else 4

section
variable (t : State) (r : MemRef) {n k : Nat}

/-- A word inside a 32-bit field of an operand. -/
theorem State.wordAt_eq_extractLsb' {j : Nat} (hj : j ≤ 2) (h : 4 * k + 4 ≤ n) :
    t.wordAt r (4 * k + j) = (fieldOf 32 (t.readOperand r n) k).extractLsb' (8 * j) 16 := by
  rw [t.wordAt_eq r (n := n) (by omega), fieldOf, extractLsb'_ofNat _ _ (by omega), ← Nat.shiftRight_add]
  congr 2
  ring

/-- A 32-bit field of an operand is two words. -/
theorem State.fieldOf_readOperand (h : 4 * k + 4 ≤ n) :
    fieldOf 32 (t.readOperand r n) k = t.wordAt r (4 * k + 2) ++ t.wordAt r (4 * k) := by
  have hlow : t.wordAt r (4 * k) = (fieldOf 32 (t.readOperand r n) k).extractLsb' 0 16 :=
    t.wordAt_eq_extractLsb' r (j := 0) (Nat.zero_le 2) h
  rw [hlow, t.wordAt_eq_extractLsb' r (le_refl 2) h]
  exact (halves_append _).symm

/-- The word fields of an environment at the start of an operand. -/
theorem State.envWord_readOperand (z : Size) (h : envSize z ≤ n) (hk : k < 7) :
    envWord z (t.readOperand r n) k = t.wordAt r (k * envStep z) := by
  cases z with
  | s16 =>
    have hn : k * 2 + 2 ≤ n := by simp only [envSize] at h; omega
    rw [envStep, if_pos rfl, t.wordAt_eq r hn]
    exact congrArg (fun a => BitVec.ofNat 16 (t.readOperand r n >>> a)) (by ring)
  | s32 =>
    have hn : 4 * k + 4 ≤ n := by simp only [envSize] at h; omega
    rw [envWord, t.fieldOf_readOperand r hn, BitVec.extractLsb'_append_eq_right, mul_comm]
    rfl

end

/-! ### What a store leaves in memory (R335, R337, R338, R340) -/

/-- The operand `r` holds the environment of the NPX `n` with the pointers `p`, in the format of `z` and `mode`: the
fields every format has, the selectors in protected mode, and what else each format holds of the pointers. -/
structure State.HoldsEnvironment (t : State) (r : MemRef) (z : Size) (mode : CpuMode) (n : Npx) (p : Pointers) :
    Prop where
  controlWord : t.wordAt r 0 = n.cw
  statusWord : t.wordAt r (envStep z) = n.statusWord
  tagWord : t.wordAt r (2 * envStep z) = n.tagWord
  fipLow : t.wordAt r (3 * envStep z) = p.fip.extractLsb' 0 16
  fdpLow : t.wordAt r (5 * envStep z) = p.fdp.extractLsb' 0 16
  selectors : mode = .protectedMode → t.wordAt r (4 * envStep z) = p.fcs ∧ t.wordAt r (6 * envStep z) = p.fds
  pointersHigh : z = .s32 → mode = .protectedMode →
    t.wordAt r 0x0E = p.fip.extractLsb' 16 16 ∧ t.wordAt r 0x16 = p.fdp.extractLsb' 16 16
  real32 : z = .s32 → mode ≠ .protectedMode →
    t.wordAt r 0x12 ++ t.wordAt r 0x10 = (0 : BitVec 4) ++ p.fip.extractLsb' 16 16 ++ (0 : BitVec 1) ++ p.fop ∧
    t.wordAt r 0x1A ++ t.wordAt r 0x18 = (0 : BitVec 4) ++ p.fdp.extractLsb' 16 16 ++ (0 : BitVec 12)
  real16 : z = .s16 → mode ≠ .protectedMode →
    t.wordAt r 0x08 = p.fip.extractLsb' 16 4 ++ (0 : BitVec 1) ++ p.fop ∧
    t.wordAt r 0x0C = p.fdp.extractLsb' 16 4 ++ (0 : BitVec 12)

/-- A 32-bit field that ends in `w`. -/
theorem envWord_s32 {l : List (BitVec 32)} {k : Nat} {u w : BitVec 16} (h : l[k]? = some (u ++ w)) :
    envWord .s32 (packFields 32 l) k = w := by
  rw [envWord, fieldOf_packFields h, BitVec.extractLsb'_append_eq_right]

theorem usesRealFormat_eq_false {mode : CpuMode} (h : mode = .protectedMode) : usesRealFormat mode = false := by
  rw [h]; rfl

theorem usesRealFormat_eq_true {mode : CpuMode} (h : mode ≠ .protectedMode) : usesRealFormat mode = true := by
  cases mode with
  | protectedMode => exact absurd rfl h
  | realAddress => rfl
  | virtual8086 => rfl

/-- The fields that every format has, at the same places. -/
theorem envImage_common (real : Bool) (z : Size) (n : Npx) (p : Pointers) (d : Nat) :
    envWord z (envImage real z n p d) 0 = n.cw ∧ envWord z (envImage real z n p d) 1 = n.statusWord ∧
    envWord z (envImage real z n p d) 2 = n.tagWord ∧
    envWord z (envImage real z n p d) 3 = p.fip.extractLsb' 0 16 ∧
    envWord z (envImage real z n p d) 5 = p.fdp.extractLsb' 0 16 := by
  cases z with
  | s16 =>
    cases real
    all_goals
      exact ⟨fieldOf_packFields rfl, fieldOf_packFields rfl, fieldOf_packFields rfl, fieldOf_packFields rfl,
        fieldOf_packFields rfl⟩
  | s32 =>
    cases real with
    | false =>
      refine ⟨envWord_s32 rfl, envWord_s32 rfl, envWord_s32 rfl, ?_, ?_⟩
      · exact congrArg (BitVec.extractLsb' 0 16) (fieldOf_packFields rfl)
      · exact congrArg (BitVec.extractLsb' 0 16) (fieldOf_packFields rfl)
    | true => exact ⟨envWord_s32 rfl, envWord_s32 rfl, envWord_s32 rfl, envWord_s32 rfl, envWord_s32 rfl⟩

/-- A stored 32-bit field is two words of the operand. -/
theorem State.field_of_image32 {t : State} {r : MemRef} {n k : Nat} {l : List (BitVec 32)} {f : BitVec 32}
    (h : t.readOperand r n = packFields 32 l) (hk : 4 * k + 4 ≤ n) (hf : l[k]? = some f) :
    t.wordAt r (4 * k + 2) ++ t.wordAt r (4 * k) = f := by
  rw [← t.fieldOf_readOperand r hk, h, fieldOf_packFields hf]

/-- A stored environment image, field by field (Figures 2.3 to 2.6). -/
theorem State.holdsEnvironment_of_image {t : State} {r : MemRef} {z : Size} {mode : CpuMode} {n : Npx} {p : Pointers}
    {d : Nat} (h : t.readOperand r (envSize z) = envImage (usesRealFormat mode) z n p d) :
    t.HoldsEnvironment r z mode n p := by
  have hword {k : Nat} (hk : k < 7) {w : BitVec 16}
      (hw : envWord z (envImage (usesRealFormat mode) z n p d) k = w) : t.wordAt r (k * envStep z) = w := by
    rw [← t.envWord_readOperand r z le_rfl hk, h, hw]
  obtain ⟨hcw, hsw, htag, hfip, hfdp⟩ := envImage_common (usesRealFormat mode) z n p d
  refine ⟨?_, ?_, hword (by norm_num) htag, hword (by norm_num) hfip, hword (by norm_num) hfdp, fun hm => ?_,
    fun hz hm => ?_, fun hz hm => ?_, fun hz hm => ?_⟩
  · simpa using hword (by norm_num) hcw
  · simpa using hword (by norm_num) hsw
  · refine ⟨hword (by norm_num) ?_, hword (by norm_num) ?_⟩
    all_goals
      rw [usesRealFormat_eq_false hm]
      cases z
      · exact fieldOf_packFields rfl
      · exact envWord_s32 rfl
  · rw [hz, usesRealFormat_eq_false hm] at h
    have h3 : t.wordAt r 0x0E ++ t.wordAt r 0x0C = p.fip := State.field_of_image32 h (k := 3) (by decide) rfl
    have h5 : t.wordAt r 0x16 ++ t.wordAt r 0x14 = p.fdp := State.field_of_image32 h (k := 5) (by decide) rfl
    rw [← h3, ← h5]
    exact ⟨BitVec.extractLsb'_append_eq_left.symm, BitVec.extractLsb'_append_eq_left.symm⟩
  · rw [hz, usesRealFormat_eq_true hm] at h
    exact ⟨(State.field_of_image32 h (k := 4) (by decide) rfl).trans (BitVec.append_assoc ..).symm,
      State.field_of_image32 h (k := 6) (by decide) rfl⟩
  · rw [hz, usesRealFormat_eq_true hm] at hword
    have h4 : t.wordAt r (4 * 2) = p.fip.extractLsb' 16 4 ++ ((0 : BitVec 1) ++ p.fop) :=
      hword (by norm_num) (fieldOf_packFields rfl)
    have h6 : t.wordAt r (6 * 2) = p.fdp.extractLsb' 16 4 ++ (0 : BitVec 12) :=
      hword (by norm_num) (fieldOf_packFields rfl)
    exact ⟨h4.trans (BitVec.append_assoc ..).symm, h6⟩

/-- An image of whole bytes fits them. -/
theorem packFields_lt_bytes {w : Nat} (l : List (BitVec w)) {n : Nat} (h : w * l.length = 8 * n) :
    packFields w l < 256 ^ n :=
  calc packFields w l < 2 ^ (w * l.length) := packFields_lt w l
    _ = 256 ^ n := by rw [h, pow_mul]; norm_num

theorem envImage_lt (real : Bool) (z : Size) (n : Npx) (p : Pointers) (d : Nat) :
    envImage real z n p d < 256 ^ envSize z := by
  cases z with
  | s16 => cases real <;> exact packFields_lt_bytes _ rfl
  | s32 => cases real <;> exact packFields_lt_bytes _ rfl

theorem stackImage_lt (n : Npx) : stackImage n < 256 ^ 80 := packFields_lt_bytes _ rfl

/-- Field `k` of the stack image is ST(k) (R338). -/
theorem fieldOf_stackImage (n : Npx) (k : BitVec 3) : fieldOf 80 (stackImage n) k.toNat = n.reg (n.sw.top + k) := by
  refine fieldOf_packFields ?_
  obtain ⟨k, hk⟩ := k
  interval_cases k <;> rfl

/-- A full-state image in two parts: the environment, and the registers behind it (R338). -/
theorem stateImage_split (real : Bool) (z : Size) (n : Npx) (p : Pointers) (d : Nat) :
    stateImage real z n p d < 256 ^ stateSize z ∧
    stateImage real z n p d % 256 ^ envSize z = envImage real z n p d ∧
    stateImage real z n p d >>> (8 * envSize z) = stackImage n := by
  have henv := envImage_lt real z n p d
  have hstack := stackImage_lt n
  rw [Nat.shiftRight_eq_div_pow, stateImage, stateSize, pow_add, pow_mul, show 2 ^ 8 = 256 from rfl]
  refine ⟨?_, ?_, ?_⟩
  · nlinarith
  · rw [Nat.add_mul_mod_self_left, Nat.mod_eq_of_lt henv]
  · rw [Nat.add_mul_div_left _ _ (by positivity), Nat.div_eq_of_lt henv, zero_add]

/-- The registers behind the environment of an operand (R338). -/
theorem State.imageAt_readOperand (t : State) (r : MemRef) (z : Size) (k : BitVec 3) :
    t.imageAt r (envSize z + 10 * k.toNat) =
      fieldOf 80 (t.readOperand r (stateSize z) >>> (8 * envSize z)) k.toNat := by
  have hk := k.isLt
  have hn : envSize z + 10 * k.toNat + 10 ≤ stateSize z := by
    simp only [stateSize]
    omega
  rw [t.imageAt_eq r hn, fieldOf, ← Nat.shiftRight_add]
  congr 2
  ring

/-- What FNSAVE stored in the operand: the environment, and the registers in stack order (R338). -/
theorem State.holds_of_stateImage {t : State} {r : MemRef} {z : Size} {mode : CpuMode} {n : Npx} {p : Pointers}
    {d : Nat} (h : t.readOperand r (stateSize z) = stateImage (usesRealFormat mode) z n p d) :
    t.HoldsEnvironment r z mode n p ∧
      ∀ k : BitVec 3, t.imageAt r (envSize z + 10 * k.toNat) = n.reg (n.sw.top + k) := by
  obtain ⟨-, henv, hstack⟩ := stateImage_split (usesRealFormat mode) z n p d
  constructor
  · refine State.holdsEnvironment_of_image (d := d) ?_
    rw [t.readOperand_of_le r (Nat.le_add_right (envSize z) 80), ← henv, ← h]
    rfl
  · intro k
    rw [t.imageAt_readOperand, h, hstack, fieldOf_stackImage]

/-! ### What a load takes from memory (R25, R41, R336, R339) -/

/-- `u` has the control word, status word, tags and pointers that the environment in the operand `r` of `s` loads; a
pointer field the format does not hold stays. -/
structure State.LoadsEnvironment (s u : State) (r : MemRef) (z : Size) : Prop where
  controlWord : u.npx.cw = readbackCw s.params.cwReadback (s.wordAt r 0)
  statusWord : u.npx.sw = loadStatus (s.wordAt r (envStep z))
  tagWord : ∀ k : BitVec 3, u.npx.isEmpty k = tagEmpty (s.wordAt r (2 * envStep z)) k.toNat
  protected32 : z = .s32 → s.cpu.mode = .protectedMode →
    u.ptrs = { s.ptrs with fip := s.wordAt r 0x0E ++ s.wordAt r 0x0C, fcs := s.wordAt r 0x10,
                           fdp := s.wordAt r 0x16 ++ s.wordAt r 0x14, fds := s.wordAt r 0x18 }
  real32 : z = .s32 → s.cpu.mode ≠ .protectedMode →
    u.ptrs = { s.ptrs with fip := (s.wordAt r 0x12 ++ s.wordAt r 0x10).extractLsb' 12 16 ++ s.wordAt r 0x0C,
                           fop := (s.wordAt r 0x10).extractLsb' 0 11,
                           fdp := (s.wordAt r 0x1A ++ s.wordAt r 0x18).extractLsb' 12 16 ++ s.wordAt r 0x14 }
  protected16 : z = .s16 → s.cpu.mode = .protectedMode →
    u.ptrs = { s.ptrs with fip := (s.wordAt r 0x06).setWidth 32, fcs := s.wordAt r 0x08,
                           fdp := (s.wordAt r 0x0A).setWidth 32, fds := s.wordAt r 0x0C }
  real16 : z = .s16 → s.cpu.mode ≠ .protectedMode →
    u.ptrs = { s.ptrs with fip := ((s.wordAt r 0x08).extractLsb' 12 4 ++ s.wordAt r 0x06).setWidth 32,
                           fop := (s.wordAt r 0x08).extractLsb' 0 11,
                           fdp := ((s.wordAt r 0x0C).extractLsb' 12 4 ++ s.wordAt r 0x0A).setWidth 32 }

/-- Whatever the instruction loads into the registers, it loads the environment from the first bytes of its operand. -/
theorem State.loadsEnvironment_of_image {s u : State} {r : MemRef} {z : Size} {n : Nat} {regs : Vector Ext 8}
    (hn : envSize z ≤ n) (hnpx : u.npx = { loadEnvNpx s.params z (s.readOperand r n) s.npx with regs := regs })
    (hptrs : u.ptrs = loadPointers (usesRealFormat s.cpu.mode) z (s.readOperand r n) s.ptrs) :
    s.LoadsEnvironment u r z := by
  have hword {k : Nat} (hk : k < 7) : envWord z (s.readOperand r n) k = s.wordAt r (k * envStep z) :=
    s.envWord_readOperand r z hn hk
  have hfield (hz : z = .s32) {k : Nat} (hk : k < 7) :
      fieldOf 32 (s.readOperand r n) k = s.wordAt r (4 * k + 2) ++ s.wordAt r (4 * k) := by
    refine s.fieldOf_readOperand r ?_
    rw [hz, envSize] at hn
    omega
  refine ⟨?_, ?_, fun k => ?_, fun hz hm => ?_, fun hz hm => ?_, fun hz hm => ?_, fun hz hm => ?_⟩
  · simp [hnpx, loadEnvNpx, hword]
  · simp [hnpx, loadEnvNpx, hword]
  · simp [Npx.isEmpty, hnpx, loadEnvNpx, hword]
  · subst hz
    simp [hptrs, usesRealFormat_eq_false hm, loadPointers, hword, hfield, envStep]
  · subst hz
    simpa [hptrs, usesRealFormat_eq_true hm, loadPointers, hword, hfield, envStep] using
      BitVec.extractLsb'_append_eq_of_add_le (by decide)
  · subst hz
    simp [hptrs, usesRealFormat_eq_false hm, loadPointers, hword, envStep]
  · subst hz
    simp [hptrs, usesRealFormat_eq_true hm, loadPointers, hword, envStep]

/-- The registers are loaded in the order of the TOP that is loaded (R339). -/
theorem reg_loadStack (v : Nat) (n : Npx) (k : BitVec 3) :
    (loadStack v n).reg (n.sw.top + k) = fieldOf 80 v k.toNat := by
  have hk : BitVec.ofNat 3 (n.sw.top + k).toNat - n.sw.top = k := by
    rw [BitVec.ofNat_toNat, BitVec.setWidth_eq, add_sub_cancel_left]
  rw [Npx.reg, loadStack, Vector.getElem_ofFn, hk]

/-! ### The fields at their offsets in the two sizes (Figures 2.3 to 2.6) -/

section
variable {s t u : State} {r : MemRef} {z : Size} {mode : CpuMode} {n : Npx} {p : Pointers}

theorem envSize_eq (z : Size) : envSize z = if z = .s16 then 14 else 28 := by cases z <;> rfl

theorem State.HoldsEnvironment.common32 (h : t.HoldsEnvironment r z mode n p) (hz : z = .s32) :
    t.wordAt r 0x00 = n.cw ∧ t.wordAt r 0x04 = n.statusWord ∧ t.wordAt r 0x08 = n.tagWord ∧
      t.wordAt r 0x0C = p.fip.extractLsb' 0 16 ∧ t.wordAt r 0x14 = p.fdp.extractLsb' 0 16 := by
  subst hz
  exact ⟨h.controlWord, h.statusWord, h.tagWord, h.fipLow, h.fdpLow⟩

theorem State.HoldsEnvironment.common16 (h : t.HoldsEnvironment r z mode n p) (hz : z = .s16) :
    t.wordAt r 0x00 = n.cw ∧ t.wordAt r 0x02 = n.statusWord ∧ t.wordAt r 0x04 = n.tagWord ∧
      t.wordAt r 0x06 = p.fip.extractLsb' 0 16 ∧ t.wordAt r 0x0A = p.fdp.extractLsb' 0 16 := by
  subst hz
  exact ⟨h.controlWord, h.statusWord, h.tagWord, h.fipLow, h.fdpLow⟩

theorem State.HoldsEnvironment.protected32 (h : t.HoldsEnvironment r z mode n p) (hz : z = .s32)
    (hm : mode = .protectedMode) : t.wordAt r 0x0E = p.fip.extractLsb' 16 16 ∧ t.wordAt r 0x10 = p.fcs ∧
      t.wordAt r 0x16 = p.fdp.extractLsb' 16 16 ∧ t.wordAt r 0x18 = p.fds := by
  obtain ⟨hfip, hfdp⟩ := h.pointersHigh hz hm
  obtain ⟨hfcs, hfds⟩ := h.selectors hm
  subst hz
  exact ⟨hfip, hfcs, hfdp, hfds⟩

theorem State.HoldsEnvironment.protected16 (h : t.HoldsEnvironment r z mode n p) (hz : z = .s16)
    (hm : mode = .protectedMode) : t.wordAt r 0x08 = p.fcs ∧ t.wordAt r 0x0C = p.fds := by
  subst hz
  exact h.selectors hm

/-! ### The pointers after a store and a load (92 D11, assumption 29) -/

/-- A field of a real-address format holds the upper bits of a linear address and the opcode. -/
theorem extractLsb'_linearField {w : Nat} (hi : BitVec w) (fop : BitVec 11) :
    (hi ++ (0 : BitVec 1) ++ fop).extractLsb' 12 w = hi ∧ (hi ++ (0 : BitVec 1) ++ fop).extractLsb' 0 11 = fop :=
  ⟨(BitVec.extractLsb'_append_eq_of_le (by decide)).trans BitVec.extractLsb'_append_eq_left,
    BitVec.extractLsb'_append_eq_right⟩

variable (hh : t.HoldsEnvironment r z t.cpu.mode n p) (hu : t.LoadsEnvironment u r z)
  (h0 : t.ptrs = ⟨0, 0, 0, 0, 0⟩)
include hh hu h0

theorem State.HoldsEnvironment.restored_protected32 (hz : z = .s32) (hm : t.cpu.mode = .protectedMode) :
    u.ptrs = { p with fop := 0 } := by
  obtain ⟨hfip, hfcs, hfdp, hfds⟩ := hh.protected32 hz hm
  obtain ⟨-, -, -, hfip0, hfdp0⟩ := hh.common32 hz
  rw [hu.protected32 hz hm, hfip, hfip0, hfcs, hfdp, hfdp0, hfds, h0, halves_append, halves_append]

theorem State.HoldsEnvironment.restored_protected16 (hz : z = .s16) (hm : t.cpu.mode = .protectedMode) :
    u.ptrs = { p with fip := (p.fip.extractLsb' 0 16).setWidth 32, fdp := (p.fdp.extractLsb' 0 16).setWidth 32,
                      fop := 0 } := by
  obtain ⟨hfcs, hfds⟩ := hh.protected16 hz hm
  obtain ⟨-, -, -, hfip0, hfdp0⟩ := hh.common16 hz
  rw [hu.protected16 hz hm, hfip0, hfcs, hfdp0, hfds, h0]

theorem State.HoldsEnvironment.restored_real32 (hz : z = .s32) (hm : t.cpu.mode ≠ .protectedMode) :
    u.ptrs = { p with fcs := 0, fds := 0 } := by
  obtain ⟨hip, hdp⟩ := hh.real32 hz hm
  obtain ⟨-, -, -, hfip0, hfdp0⟩ := hh.common32 hz
  obtain ⟨-, hfop⟩ := extractLsb'_linearField ((0 : BitVec 4) ++ p.fip.extractLsb' 16 16) p.fop
  have hfip : ((0 : BitVec 4) ++ p.fip.extractLsb' 16 16 ++ (0 : BitVec 1) ++ p.fop).extractLsb' 12 16 =
      p.fip.extractLsb' 16 16 := by
    rw [BitVec.extractLsb'_append_eq_of_le (by decide), BitVec.extractLsb'_append_eq_of_le (by decide)]
    exact BitVec.extractLsb'_append_eq_right
  have hfop' : (t.wordAt r 0x10).extractLsb' 0 11 = p.fop := by
    rw [← hfop, ← hip]
    exact (BitVec.extractLsb'_append_eq_of_add_le (by decide)).symm
  have hfdp : ((0 : BitVec 4) ++ p.fdp.extractLsb' 16 16 ++ (0 : BitVec 12)).extractLsb' 12 16 =
      p.fdp.extractLsb' 16 16 :=
    (BitVec.extractLsb'_append_eq_of_le (le_refl 12)).trans BitVec.extractLsb'_append_eq_right
  rw [hu.real32 hz hm, hfop', hip, hdp, hfip, hfdp, hfip0, hfdp0, h0, halves_append, halves_append]

theorem State.HoldsEnvironment.restored_real16 (hz : z = .s16) (hm : t.cpu.mode ≠ .protectedMode) :
    u.ptrs = { fip := (p.fip.extractLsb' 0 20).setWidth 32, fcs := 0,
               fdp := (p.fdp.extractLsb' 0 20).setWidth 32, fds := 0, fop := p.fop } := by
  obtain ⟨hip, hdp⟩ := hh.real16 hz hm
  obtain ⟨-, -, -, hfip0, hfdp0⟩ := hh.common16 hz
  have hfdp : (p.fdp.extractLsb' 16 4 ++ (0 : BitVec 12)).extractLsb' 12 4 = p.fdp.extractLsb' 16 4 :=
    BitVec.extractLsb'_append_eq_left
  have hjoin (x : BitVec 32) : x.extractLsb' 16 4 ++ x.extractLsb' 0 16 = x.extractLsb' 0 20 :=
    BitVec.extractLsb'_append_extractLsb'_eq_extractLsb' rfl
  obtain ⟨hfip, hfop⟩ := extractLsb'_linearField (p.fip.extractLsb' 16 4) p.fop
  rw [hu.real16 hz hm, hip, hdp, hfip, hfop, hfdp, hfip0, hfdp0, h0, hjoin, hjoin]

end

end Sys2Proof.Machine
end

section
/-! FNSTENV, FLDENV, FNSAVE and FRSTOR (R336 to R340). -/

namespace Sys2Proof.Machine

/-! ### What the instructions leave -/

section
variable {pre : List Prefix} {m : MemArg} {s : State} {r : MemRef}

theorem envSize_bounds (z : Size) : 4 ≤ envSize z ∧ envSize z ≤ 2 ^ 16 := by cases z <;> decide

theorem stateSize_bounds (z : Size) : 4 ≤ stateSize z ∧ stateSize z ≤ 2 ^ 16 := by cases z <;> decide

/-- What FNSTENV leaves (R337). -/
theorem exec_fstenv_of_ready (h : s.ready (.fstenv pre m) = true) (hr : s.operandRef (.fstenv pre m) = some r) :
    ∃ t, exec (.fstenv pre m) s = .next t ∧
      t.HoldsEnvironment r (s.operandSize pre) s.cpu.mode s.npx s.ptrs ∧ t.npx = (maskAll s.npx).drawCC s.draws ∧
      t.ptrs = s.ptrs := by
  obtain ⟨hmin, hmax⟩ := envSize_bounds (s.operandSize pre)
  obtain ⟨len, he⟩ :=
    exec_adminMem_of_ready (exec_fstenv pre m s) rfl rfl rfl (operandUse_fstenv ..) (.inr hmin) h hr
  refine ⟨_, he, State.holdsEnvironment_of_image (d := s.draws) ?_, rfl, rfl⟩
  exact s.readOperand_writeOperand r hmax (envImage_lt ..)

theorem exec_fsave_of_ready (h : s.ready (.fsave pre m) = true) (hr : s.operandRef (.fsave pre m) = some r) :
    ∃ len, exec (.fsave pre m) s = .next (s.finish len (s.saveState (s.operandSize pre) r)) := by
  obtain ⟨hmin, -⟩ := stateSize_bounds (s.operandSize pre)
  exact exec_adminMem_of_ready (exec_fsave pre m s) rfl rfl rfl (operandUse_fsave ..) (.inr hmin) h hr

/-- What FNSAVE leaves in the operand (R340). -/
theorem State.saveState_holds (s : State) (len : Nat) (z : Size) (r : MemRef) :
    let t := s.finish len (s.saveState z r)
    t.HoldsEnvironment r z s.cpu.mode s.npx s.ptrs ∧
      ∀ k : BitVec 3, t.imageAt r (envSize z + 10 * k.toNat) = s.npx.reg (s.npx.sw.top + k) := by
  obtain ⟨-, hmax⟩ := stateSize_bounds z
  exact State.holds_of_stateImage (s.readOperand_writeOperand r hmax (stateImage_split ..).1)

/-- What FLDENV leaves (R336). -/
theorem exec_fldenv_of_ready (h : s.ready (.fldenv pre m) = true) (hr : s.operandRef (.fldenv pre m) = some r) :
    ∃ u, exec (.fldenv pre m) s = .next u ∧ s.LoadsEnvironment u r (s.operandSize pre) ∧
      u.npx.regs = s.npx.regs := by
  obtain ⟨hmin, -⟩ := envSize_bounds (s.operandSize pre)
  obtain ⟨len, he⟩ :=
    exec_adminMem_of_ready (exec_fldenv pre m s) rfl rfl rfl (operandUse_fldenv ..) (.inr hmin) h hr
  exact ⟨_, he, State.loadsEnvironment_of_image le_rfl rfl rfl, rfl⟩

/-- What FRSTOR leaves (R339). -/
theorem exec_frstor_of_ready (h : s.ready (.frstor pre m) = true) (hr : s.operandRef (.frstor pre m) = some r) :
    ∃ u, exec (.frstor pre m) s = .next u ∧ s.LoadsEnvironment u r (s.operandSize pre) ∧
      ∀ k : BitVec 3, u.npx.reg (u.npx.sw.top + k) = s.imageAt r (envSize (s.operandSize pre) + 10 * k.toNat) := by
  obtain ⟨hmin, -⟩ := stateSize_bounds (s.operandSize pre)
  obtain ⟨len, he⟩ :=
    exec_adminMem_of_ready (exec_frstor pre m s) rfl rfl rfl (operandUse_frstor ..) (.inr hmin) h hr
  refine ⟨_, he, State.loadsEnvironment_of_image (Nat.le_add_right _ 80) rfl rfl, fun k => ?_⟩
  rw [s.imageAt_readOperand]
  exact reg_loadStack _ _ k

end

/-! ### The statements -/

/-- Settles O58: the fields of the image that was stored are words of the operand, and the registers images in it. -/
theorem storeEnvironmentAndState : Obligations.StoreEnvironmentAndState := by
  unfold Obligations.StoreEnvironmentAndState
  intro i pre m s r hi h hr
  rcases hi with rfl | rfl
  · obtain ⟨t, he, hh, hn, hp⟩ := exec_fstenv_of_ready h hr
    refine ⟨t, he, hh.common32, hh.protected32, hh.real32, hh.common16, hh.protected16, hh.real16,
      fun _ => ?_, nofun⟩
    rw [hn]
    exact ⟨⟨rfl, rfl, rfl⟩, rfl, fun e => Npx.flag_drawCC _ _ e, rfl, hp⟩
  · obtain ⟨len, he⟩ := exec_fsave_of_ready h hr
    obtain ⟨hh, hregs⟩ := s.saveState_holds len (s.operandSize pre) r
    rw [envSize_eq] at hregs
    exact ⟨_, he, hh.common32, hh.protected32, hh.real32, hh.common16, hh.protected16, hh.real16, nofun,
      fun _ => ⟨hregs, rfl, s.npx.init_statusWord, s.npx.init_isEmpty, rfl, rfl⟩⟩

/-- The bits of the control word and of the status word after a load (R41, R44, R45). -/
theorem State.LoadsEnvironment.bits {s u : State} {r : MemRef} {z : Size} (hu : s.LoadsEnvironment u r z) :
    (∀ k < 16, u.npx.cw.getLsbD k =
      if k = 6 then true
      else if 13 ≤ k ∨ k = 7 then s.params.cwReadback == .asWritten && (s.wordAt r 0).getLsbD k
      else (s.wordAt r 0).getLsbD k) ∧
    (∀ k < 16, k ≠ 7 → k ≠ 15 → u.npx.statusWord.getLsbD k = (s.wordAt r (envStep z)).getLsbD k) := by
  refine ⟨fun k hk => ?_, fun k hk h7 h15 => ?_⟩
  · rw [hu.controlWord, getLsbD_readbackCw _ _ hk]
  · rw [Npx.statusWord, hu.statusWord, getLsbD_packStatus_loadStatus _ _ hk h7 h15]

/-- Settles O59: the fields that are loaded are words of the operand, and its images are the registers. -/
theorem loadEnvironmentAndState : Obligations.LoadEnvironmentAndState := by
  unfold Obligations.LoadEnvironmentAndState
  intro i pre m s r hi h hr
  rcases hi with rfl | rfl
  · obtain ⟨u, he, hu, hregs⟩ := exec_fldenv_of_ready h hr
    obtain ⟨hcw, hsw⟩ := hu.bits
    exact ⟨u, he, hcw, hsw, u.npx.es_iff, hu.tagWord, hu.protected32, hu.real32, hu.protected16, hu.real16,
      fun _ => hregs, nofun⟩
  · obtain ⟨u, he, hu, hregs⟩ := exec_frstor_of_ready h hr
    obtain ⟨hcw, hsw⟩ := hu.bits
    rw [envSize_eq] at hregs
    exact ⟨u, he, hcw, hsw, u.npx.es_iff, hu.tagWord, hu.protected32, hu.real32, hu.protected16, hu.real16,
      nofun, fun _ => hregs⟩

/-- Settles O60: what FRSTOR loads are the words and images that FNSAVE stored. -/
theorem saveThenRestore : Obligations.SaveThenRestore := by
  unfold Obligations.SaveThenRestore
  intro pre m s hinv h
  obtain ⟨len, he⟩ := exec_fsave_of_ready h rfl
  refine ⟨_, he, fun h' => ?_⟩
  obtain ⟨hh, himg⟩ := s.saveState_holds len (s.operandSize pre) (effectiveAddress s.cpu pre m)
  obtain ⟨u, he', hu, hregs⟩ := exec_frstor_of_ready h' rfl
  have hsw : u.npx.sw = s.npx.sw :=
    hu.statusWord.trans ((congrArg loadStatus hh.statusWord).trans (loadStatus_packStatus ..))
  have hcw : u.npx.cw = s.npx.cw :=
    hu.controlWord.trans ((congrArg (readbackCw s.params.cwReadback) hh.controlWord).trans hinv.control)
  have hempty (k : BitVec 3) : u.npx.isEmpty k = s.npx.isEmpty k :=
    (hu.tagWord k).trans ((congrArg (tagEmpty · k.toNat) hh.tagWord).trans (tagEmpty_tagWord ..))
  have hreg (k : BitVec 3) : u.npx.reg k = s.npx.reg k := by
    have hst := (hregs (k - s.npx.sw.top)).trans (himg (k - s.npx.sw.top))
    rwa [hsw, add_sub_cancel] at hst
  have hnpx : u.npx = s.npx := Npx.ext_reg hreg hempty hsw hcw
  exact ⟨u, he', hnpx, congrArg Npx.es hnpx, hh.restored_protected32 hu rfl, hh.restored_real32 hu rfl,
    hh.restored_protected16 hu rfl, hh.restored_real16 hu rfl⟩

end Sys2Proof.Machine
end

section
/-! Every way an instruction ends, by what step 2 of R361 finds for it (R350, R361), and what it leaves of the 80386. -/

namespace Sys2Proof.Machine

/-! ### What the 80386 and the board hold besides registers and memory -/

/-- The interrupts taken, EIP, the segment registers, and the request and the latches of the PC/AT connection. -/
structure HostPart where
  taken : List Taken
  eip : BitVec 32
  segs : Segments
  irq13 : Bool
  busyLatch : Bool
  pereqLatch : Bool

/-- The host's part of a state: what a rule of the NPX leaves as it was. -/
def State.hostPart (s : State) : HostPart := ⟨s.taken, s.cpu.eip, s.cpu.segs, s.irq13, s.busyLatch, s.pereqLatch⟩

theorem State.hostPart_startEsc (s : State) (k : EscKind) (op : BitVec 11) (r : Option MemRef) :
    (s.startEsc k op r).hostPart = s.hostPart := by
  simp [State.hostPart]

theorem hostPart_storeThen (n : Nat) (f : Nat → Npx → StoreEffect) (r : MemRef) (t : State) :
    (storeThen n f r t).hostPart = t.hostPart := by
  obtain ⟨-, hcpu, htaken, -, -, hbusy, hpereq, hirq, -⟩ := storeThen_rest n f r t
  simp only [State.hostPart, hcpu, htaken, hbusy, hpereq, hirq]

/-! ### Step 2 of R361 -/

/-- What step 2 of R361 finds for an instruction, WAIT included (R350, R376). -/
def State.entryOf (s : State) (i : Instr) : Entry :=
  if i.isWait then if s.cpu.ts && s.cpu.mp then .trap .deviceNotAvailable else s.waitEntry
  else s.escEntry (i.waits s.params)

section
variable {i : Instr} {s : State} {p : Params}

theorem waits_of_isWait (h : i.isWait = true) : i.waits p = true := by
  cases i with
  | wait pre => rfl
  | _ => cases h

theorem State.entryOf_of_not_available (h : s.available i = false) : s.entryOf i = .trap .deviceNotAvailable := by
  unfold State.available at h
  unfold State.entryOf
  split at h
  · next hi => rw [if_pos hi, if_pos (by rwa [Bool.not_eq_false'] at h)]
  · next hi => rw [if_neg hi, State.escEntry, if_pos (by rwa [Bool.not_eq_false'] at h)]

theorem State.entryOf_of_available (h : s.available i = true) :
    s.entryOf i = if i.waits s.params then s.waitEntry else .run := by
  unfold State.available at h
  unfold State.entryOf
  split at h
  · next hi =>
    rw [Bool.not_eq_true'] at h
    rw [if_pos hi, if_neg (ne_true_of_eq_false h), waits_of_isWait hi, if_pos rfl]
  · next hi =>
    rw [Bool.not_eq_true'] at h
    rw [if_neg hi, State.escEntry, if_neg (ne_true_of_eq_false h)]

/-- An instruction goes on if no interrupt 7, BUSY# or ERROR# stops it. -/
theorem State.entryOf_run_iff : s.entryOf i = .run ↔ s.available i = true ∧ s.proceeds i = true := by
  cases ha : s.available i with
  | false => simp [State.entryOf_of_not_available ha]
  | true =>
    rw [State.entryOf_of_available ha]
    cases hw : i.waits s.params <;> simp [State.proceeds, hw, State.waitEntry_run]

theorem State.errorIn_of_entryOf_trap (h : s.entryOf i = .trap .numericException) : s.errorIn = true := by
  cases ha : s.available i with
  | false => cases (State.entryOf_of_not_available ha).symm.trans h
  | true =>
    rw [State.entryOf_of_available ha] at h
    split at h
    · obtain ⟨-, herr, -⟩ := State.waitEntry_trap.mp h
      exact herr
    · cases h

end

/-! ### The ways an instruction ends -/

/-- The outcomes of an instruction, each with what brings it about; a rule that completes leaves the host's part. -/
inductive Executes (i : Instr) (s : State) : Result → Prop
  | trap (v : Interrupt) (entry : s.entryOf i = .trap v) : Executes i s (.next (s.takeInterrupt v s.here))
  | hold (entry : s.entryOf i = .hold) : Executes i s (.next s)
  | generalProtection (entry : s.entryOf i = .run) (operand : s.operandReady i = false) :
      Executes i s (.next (s.takeInterrupt .generalProtection s.here))
  | hostFault (entry : s.entryOf i = .run) (operand : s.operandReady i = false) :
      Executes i s (.fault .hostMemoryFault)
  | overrun (op : BitVec 11) (r : MemRef) (n : Nat) (w : Bool) (entry : s.entryOf i = .run)
      (operand : s.operandReady i = false) : Executes i s (.next (s.segmentOverrun op r n w))
  | refused (entry : s.entryOf i = .run) (reserved : i.reserved = true) (refuse : s.params.reservedEsc = .refuse) :
      Executes i s (.refused .reservedEncoding)
  | finish (t : State) (entry : s.entryOf i = .run) (host : t.hostPart = s.hostPart) :
      Executes i s (.next (s.finish i.length t))

section
variable {i : Instr} {s : State} {k : EscKind} {op : BitVec 11} {pre : List Prefix}

theorem isWait_eq_false_of_parts {m : Option MemArg} (parts : i.parts = (pre, 2, m)) : i.isWait = false := by
  cases i with
  | wait pre => cases parts
  | _ => rfl

theorem entryOf_of_parts {m : Option MemArg} (parts : i.parts = (pre, 2, m)) (hk : k.waiting = i.waits s.params) :
    s.entryOf i = s.escEntry k.waiting := by
  rw [State.entryOf, isWait_eq_false_of_parts parts, hk]
  rfl

theorem length_of_regParts (parts : i.parts = (pre, 2, none)) : i.length = pre.length + 2 := by
  simp [Instr.length, Instr.prefixes, Instr.memArg?, parts]

theorem length_of_memParts {m : MemArg} (parts : i.parts = (pre, 2, some m)) :
    i.length = pre.length + 2 + m.tail.length := by
  simp [Instr.length, Instr.prefixes, Instr.memArg?, parts, MemArg.tail_length]

/-- An operand is a word, or has a first doubleword (R75). -/
theorem operandUse_bytes {z : Size} {u : OperandUse} (h : i.operandUse z = some u) : u.bytes = 2 ∨ 4 ≤ u.bytes := by
  cases i with
  | fldenv pre m | fstenv pre m | frstor pre m | fsave pre m => cases z <;> cases h <;> decide
  | _ => cases h <;> decide

theorem executes_of_escReg {body : State → State} (he : s.entryOf i = s.escEntry k.waiting)
    (runs : exec i s = s.escReg k op i.length body) (hb : ∀ t, (body t).hostPart = t.hostPart) :
    Executes i s (exec i s) := by
  obtain ⟨v, hv, ho⟩ | ⟨hv, ho⟩ | ⟨hv, ho⟩ := State.escReg_cases runs.symm <;> rw [ho]
  · exact .trap v (he.trans hv)
  · exact .hold (he.trans hv)
  · exact .finish _ (he.trans hv) ((hb _).trans (s.hostPart_startEsc ..))

theorem executes_of_regForm {grp : BitVec 3} {b2 : Byte} {body : State → State} (parts : i.parts = (pre, 2, none))
    (hk : k.waiting = i.waits s.params) (runs : exec i s = s.regForm k pre grp b2 body)
    (hb : ∀ t, (body t).hostPart = t.hostPart) : Executes i s (exec i s) :=
  executes_of_escReg (entryOf_of_parts parts hk) (by rw [runs, State.regForm, length_of_regParts parts]) hb

theorem executes_of_memForm {grp reg : BitVec 3} {m : MemArg} {n : Nat} {w : Bool} {body : MemRef → State → State}
    (parts : i.parts = (pre, 2, some m)) (hu : i.operandUse (s.operandSize pre) = some ⟨n, w⟩)
    (hk : k.waiting = i.waits s.params) (runs : exec i s = s.memForm k pre grp reg m n w body)
    (hb : ∀ r t, (body r t).hostPart = t.hostPart) : Executes i s (exec i s) := by
  have he : s.entryOf i = s.escEntry k.waiting := entryOf_of_parts parts hk
  have hready : s.operandReady i = (s.cpu.segs.allowsBytes (effectiveAddress s.cpu pre m) n &&
      !s.launch.hostFaultOn (effectiveAddress s.cpu pre m) n w) := by
    simp [State.operandReady, s.operand_of_parts parts, hu]
  obtain ⟨v, hv, ho⟩ | ⟨hv, ho⟩ | ⟨hv, ⟨hstart, ho⟩ | ⟨-, hf, ho⟩ | ⟨-, -, hn, ho⟩ | ⟨-, -, ho⟩⟩ :=
    State.escMem_cases runs.symm <;> rw [ho]
  · exact .trap v (he.trans hv)
  · exact .hold (he.trans hv)
  · refine .generalProtection (he.trans hv) ?_
    have hn : s.cpu.segs.allowsBytes (effectiveAddress s.cpu pre m) n = false := by
      by_contra h
      rw [Segments.allowsBytes_start (operandUse_bytes hu) (eq_true_of_ne_false h)] at hstart
      cases hstart
    rw [hready, hn, Bool.false_and]
  · exact .hostFault (he.trans hv) (by rw [hready, hf, Bool.not_true, Bool.and_false])
  · exact .overrun _ _ _ _ (he.trans hv) (by rw [hready, hn, Bool.false_and])
  · rw [← length_of_memParts parts]
    exact .finish _ (he.trans hv) ((hb ..).trans (s.hostPart_startEsc ..))

theorem executes_of_escReserved (he : s.entryOf i = s.escEntry true) (hr : i.reserved = true)
    (runs : exec i s = s.escReserved op i.length) : Executes i s (exec i s) := by
  unfold State.escReserved at runs
  cases hp : s.params.reservedEsc with
  | draw =>
    rw [hp] at runs
    exact executes_of_escReg (k := numericKind) he runs fun _ => rfl
  | refuse =>
    rw [hp] at runs
    cases hv : s.escEntry true <;> simp only [hv] at runs <;> rw [runs]
    · exact .refused (he.trans hv) hr hp
    · exact .hold (he.trans hv)
    · exact .trap _ (he.trans hv)

theorem executes_wait (pre : List Prefix) (s : State) : Executes (.wait pre) s (exec (.wait pre) s) := by
  have he : s.entryOf (.wait pre) =
    if s.cpu.ts && s.cpu.mp then .trap .deviceNotAvailable else s.waitEntry := rfl
  rw [exec_wait, execWait]
  split
  · next h => exact .trap _ (by rw [he, if_pos h])
  · next h =>
    rw [if_neg h] at he
    cases hv : s.waitEntry with
    | trap v => exact .trap v (he.trans hv)
    | hold => exact .hold (he.trans hv)
    | run => exact .finish s (he.trans hv) rfl

end

/-- Every instruction ends in one of these ways, by its template. -/
theorem exec_executes (i : Instr) (s : State) : Executes i s (exec i s) := by
  cases template_of i with
  | numReg pre grp b2 f _ parts tabled runs =>
    exact executes_of_regForm parts (tabled.waits _).symm (runs s) fun _ => rfl
  | numLoad pre grp reg m n f _ parts tabled runs =>
    exact executes_of_memForm parts (tabled.operandUse _) (tabled.waits _).symm (runs s) fun _ _ => rfl
  | numStore pre grp reg m n f _ parts tabled runs =>
    exact executes_of_memForm parts (tabled.operandUse _) (tabled.waits _).symm (runs s) (hostPart_storeThen n f)
  | reservedReg pre grp b2 _ parts tabled runs =>
    exact executes_of_escReserved (op := grp ++ b2) (entryOf_of_parts (k := numericKind) parts (tabled.waits _).symm)
      tabled.reserved (by rw [runs, State.reservedReg, length_of_regParts parts])
  | reservedMem pre grp reg m _ parts tabled runs =>
    exact executes_of_escReserved (op := grp ++ m.modrm reg)
      (entryOf_of_parts (k := numericKind) parts (tabled.waits _).symm) tabled.reserved
      (by rw [runs, State.reservedMem, length_of_memParts parts])
  | finit pre => exact executes_of_regForm rfl rfl (exec_finit ..) fun _ => rfl
  | fclex pre => exact executes_of_regForm rfl rfl (exec_fclex ..) fun _ => rfl
  | fstswAx pre => exact executes_of_regForm rfl rfl (exec_fstswAx ..) fun _ => rfl
  | wait pre => exact executes_wait pre s
  | fldcw pre m => exact executes_of_memForm rfl rfl rfl (exec_fldcw ..) fun _ _ => rfl
  | fstcw pre m => exact executes_of_memForm rfl rfl (fstcwKind_waiting _) (exec_fstcw ..) fun _ _ => rfl
  | fstsw pre m => exact executes_of_memForm rfl rfl rfl (exec_fstsw ..) fun _ _ => rfl
  | fldenv pre m => exact executes_of_memForm rfl (operandUse_fldenv ..) rfl (exec_fldenv ..) fun _ _ => rfl
  | fstenv pre m => exact executes_of_memForm rfl (operandUse_fstenv ..) rfl (exec_fstenv ..) fun _ _ => rfl
  | frstor pre m => exact executes_of_memForm rfl (operandUse_frstor ..) rfl (exec_frstor ..) fun _ _ => rfl
  | fsave pre m => exact executes_of_memForm rfl (operandUse_fsave ..) rfl (exec_fsave ..) fun _ _ => rfl

section
variable {i : Instr} {s t : State} {v w : Interrupt}

theorem exec_of_trap (h : s.entryOf i = .trap v) : exec i s = .next (s.takeInterrupt v s.here) := by
  have hx := exec_executes i s
  generalize exec i s = o at hx ⊢
  cases hx with
  | trap v' h' => cases h.symm.trans h'; rfl
  | _ => simp_all

theorem exec_of_hold (h : s.entryOf i = .hold) : exec i s = .next s := by
  have hx := exec_executes i s
  generalize exec i s = o at hx ⊢
  cases hx with
  | hold => rfl
  | _ => simp_all

/-- An instruction that does not go on leaves the NPX registers. -/
theorem npx_of_not_run (h : s.entryOf i ≠ .run) (hx : exec i s = .next t) : t.npx = s.npx := by
  cases he : s.entryOf i with
  | run => exact absurd he h
  | hold => cases (exec_of_hold he).symm.trans hx; rfl
  | trap v => cases (exec_of_trap he).symm.trans hx; exact State.takeInterrupt_npx ..

/-! ### The interrupts taken (R361, R383) -/

theorem State.Took.vector_unique (h : s.Took t v) (h' : s.Took t w) : v = w := by
  obtain ⟨e, rfl, he⟩ := h
  obtain ⟨e', rfl, he'⟩ := h'
  rw [(List.cons.inj (he.symm.trans he')).1]

theorem State.TookHere.took (h : s.TookHere t v) : s.Took t v := by
  obtain ⟨ht, -⟩ := h
  exact ⟨_, rfl, ht⟩

theorem State.not_took_of_taken (h : t.taken = s.taken) : ¬ s.Took t v := by
  rintro ⟨e, -, he⟩
  exact List.cons_ne_self e s.taken (he.symm.trans h)

/-- An interrupt other than interrupt 9 is taken in place of the instruction: step 2 of R361 found it, or it is
interrupt 13 for the operand. -/
theorem exec_of_took (h : exec i s = .next t) (ht : s.Took t v) (hv : v ≠ .segmentOverrun) :
    t = s.takeInterrupt v s.here ∧ (s.entryOf i = .trap v ∨ v = .generalProtection) := by
  have hx := exec_executes i s
  rw [h] at hx
  cases hx with
  | trap v' entry =>
    obtain rfl := ht.vector_unique (s.tookHere_takeInterrupt v').took
    exact ⟨rfl, .inl entry⟩
  | generalProtection =>
    obtain rfl := ht.vector_unique (s.tookHere_takeInterrupt .generalProtection).took
    exact ⟨rfl, .inr rfl⟩
  | hold => exact absurd ht (State.not_took_of_taken rfl)
  | finish t _ host => exact absurd ht (State.not_took_of_taken (congrArg HostPart.taken host))
  | overrun op r n w => exact absurd (ht.vector_unique (s.took_segmentOverrun op r n w)) hv

end

end Sys2Proof.Machine
end

section
/-! Interrupts 7 and 16, entry and return, and the completion of an instruction that is ready (R361, R371, R374, R376,
R380, R383). -/

namespace Sys2Proof.Machine

/-- Settles O10: an instruction that is not available traps, and WAIT can only trap to interrupt 16 otherwise. -/
theorem interrupt7 : Obligations.Interrupt7 := by
  unfold Obligations.Interrupt7
  refine ⟨fun i s hi hx => ?_, fun pre s hts hmp => ?_, fun pre s t hx h ht => ?_⟩
  · have ha : s.available i = false := by simpa [State.available, hi, or_iff_not_imp_left] using hx
    exact ⟨_, exec_of_trap (State.entryOf_of_not_available ha), s.tookHere_takeInterrupt _⟩
  · have ha : s.available (.wait pre) = false := by simp [State.available, Instr.isWait, hts, hmp]
    exact ⟨_, exec_of_trap (State.entryOf_of_not_available ha), s.tookHere_takeInterrupt _⟩
  · have ha : s.available (.wait pre) = true := by rcases hx with hx | hx <;> simp [State.available, Instr.isWait, hx]
    obtain ⟨-, entry | h13⟩ := exec_of_took h ht nofun
    · obtain ⟨-, -, h16⟩ := State.waitEntry_trap.mp ((State.entryOf_of_available ha).symm.trans entry)
      cases h16
    · cases h13

/-! ### Interrupt 16 (R371, R380) -/

/-- The instructions that do not wait (R371, 90 C10). -/
theorem waits_eq_false_iff {i : Instr} {p : Params} : i.waits p = false ↔
    (∃ pre, i = .finit pre ∨ i = .fclex pre ∨ i = .fstswAx pre) ∨
    (∃ pre m, i = .fstsw pre m ∨ i = .fstenv pre m ∨ i = .fsave pre m ∨
      (i = .fstcw pre m ∧ p.fnstcwChecksError = false)) := by
  constructor
  · intro h
    cases template_of i with
    | numReg _ _ _ _ _ _ tabled => rw [tabled.waits] at h; cases h
    | numLoad _ _ _ _ _ _ _ _ tabled => rw [tabled.waits] at h; cases h
    | numStore _ _ _ _ _ _ _ _ tabled => rw [tabled.waits] at h; cases h
    | reservedReg _ _ _ _ _ tabled => rw [tabled.waits] at h; cases h
    | reservedMem _ _ _ _ _ _ tabled => rw [tabled.waits] at h; cases h
    | finit pre => exact .inl ⟨pre, .inl rfl⟩
    | fclex pre => exact .inl ⟨pre, .inr (.inl rfl)⟩
    | fstswAx pre => exact .inl ⟨pre, .inr (.inr rfl)⟩
    | fstsw pre m => exact .inr ⟨pre, m, .inl rfl⟩
    | fstenv pre m => exact .inr ⟨pre, m, .inr (.inl rfl)⟩
    | fsave pre m => exact .inr ⟨pre, m, .inr (.inr (.inl rfl))⟩
    | fstcw pre m => exact .inr ⟨pre, m, .inr (.inr (.inr ⟨rfl, h⟩))⟩
    | wait | fldcw | fldenv | frstor => cases h
  · rintro (⟨pre, rfl | rfl | rfl⟩ | ⟨pre, m, rfl | rfl | rfl | ⟨rfl, h⟩⟩)
    case inr.inr.inr.inr => exact h
    all_goals rfl

section
variable {i : Instr} {s : State} (hp : s.params.platform = .standard) (ha : s.available i = true)
  (hb : s.busyIn = false) (hes : s.npx.es = true)

include hp ha hb hes

/-- On the standard connection, with ES = 1 and BUSY# inactive, an instruction takes interrupt 16 if it waits (R380). -/
theorem State.entryOf_of_es : s.entryOf i = if i.waits s.params then .trap .numericException else .run := by
  have htrap : s.waitEntry = .trap .numericException :=
    State.waitEntry_trap.mpr ⟨hb, by simp [State.errorIn, hp, hes], rfl⟩
  rw [State.entryOf_of_available ha, htrap]

theorem exec_of_waits_of_es (hw : i.waits s.params = true) :
    exec i s = .next (s.takeInterrupt .numericException s.here) :=
  exec_of_trap (by rw [State.entryOf_of_es hp ha hb hes, if_pos hw])

theorem took_numericException_iff {t : State} (h : exec i s = .next t) :
    s.Took t .numericException ↔ i.waits s.params = true := by
  constructor
  · intro ht
    by_contra hw
    obtain ⟨-, entry | h13⟩ := exec_of_took h ht nofun
    · rw [State.entryOf_of_es hp ha hb hes, if_neg hw] at entry
      cases entry
    · cases h13
  · intro hw
    rw [exec_of_waits_of_es hp ha hb hes hw] at h
    cases h
    exact (s.tookHere_takeInterrupt _).took

end

/-- Settles O11: an instruction takes interrupt 16 if it waits, and the tables say which ones do not. -/
theorem interrupt16 : Obligations.Interrupt16 := by
  unfold Obligations.Interrupt16
  refine ⟨fun i s hp ha hw hb hes => ?_, fun i s t hp ha hb hes h => ?_⟩
  · refine ⟨_, exec_of_waits_of_es hp ha hb hes hw, s.tookHere_takeInterrupt _, fun hh => ?_⟩
    exact congrArg Cpu.eip (State.takeInterrupt_noHandler (v := .numericException) hh)
  · rw [took_numericException_iff hp ha hb hes h, ← waits_eq_false_iff, Bool.not_eq_false]

/-! ### Entry and return (R374, R383) -/

theorem State.takeInterrupt_cpu (s : State) (v : Interrupt) (ret : FarPtr) :
    (s.takeInterrupt v ret).cpu = match s.launch.handler v with
      | some h => { s.cpu with eip := h.eip, segs := { s.cpu.segs with cs := h.code } }
      | none => s.cpu := by
  unfold State.takeInterrupt
  cases s.launch.handler v <;> rfl

/-- A return undoes the entry. -/
theorem State.returnFromInterrupt_takeInterrupt (s : State) (v : Interrupt) :
    (s.takeInterrupt v s.here).returnFromInterrupt = s := by
  unfold State.takeInterrupt
  cases s.launch.handler v <;> rfl

/-- Settles O14: the interrupt was taken in place of the instruction (`exec_of_took`). -/
theorem entryAndReturn : Obligations.EntryAndReturn := by
  unfold Obligations.EntryAndReturn
  intro i s t v h ht hv
  obtain ⟨rfl, -⟩ := exec_of_took h ht.took hv
  exact ⟨s.takeInterrupt_cpu v _, s.returnFromInterrupt_takeInterrupt v⟩

/-! ### Completion (R361, R370) -/

/-- An instruction that is ready completes: of its outcomes, each other one needs what readiness excludes. -/
theorem exec_of_ready {i : Instr} {s : State} (h : s.ready i = true) :
    ∃ t, t.hostPart = s.hostPart ∧ exec i s = .next (s.finish i.length t) := by
  simp only [State.ready, Bool.and_eq_true, Bool.or_eq_true, Bool.not_eq_true', decide_eq_true_eq] at h
  obtain ⟨⟨⟨ha, hp⟩, ho⟩, hr⟩ := h
  have hrun := State.entryOf_run_iff.mpr ⟨ha, hp⟩
  have hx := exec_executes i s
  generalize exec i s = o at hx ⊢
  cases hx with
  | finish t _ host => exact ⟨t, host, rfl⟩
  | refused _ reserved refuse => simp_all
  | _ => simp_all

/-- Settles O16: what completes leaves the host's part but for EIP, and `State.finish` makes the signals inactive. -/
theorem everyInstructionCompletes : Obligations.EveryInstructionCompletes := by
  unfold Obligations.EveryInstructionCompletes
  intro i s h
  obtain ⟨t, host, he⟩ := exec_of_ready h
  refine ⟨_, he, congrArg HostPart.taken host, ?_, congrArg HostPart.segs host, rfl, rfl⟩
  rw [State.finish_eip, show t.cpu.eip = s.cpu.eip from congrArg HostPart.eip host]

end Sys2Proof.Machine
end

section
/-! The exception flags under the numeric instructions: the rule of each clears none (R34, R35). -/

namespace Sys2Proof.Machine

/-! ### Updates -/

section
variable (n : Npx) (d : Nat) (b : Bool) (x y : Ext) (e : Exc) (j : BitVec 3) (p : Nat)

@[simp] theorem Npx.flag_setC2 : (n.setC2 b).sw.flag e = n.sw.flag e := by cases e <;> rfl

@[simp] theorem Npx.flag_setCC (c3 c2 c0 : Bool) : (n.setCC c3 c2 c0).sw.flag e = n.sw.flag e := by cases e <;> rfl

@[simp] theorem Npx.flag_setClass (c : Cls) : (n.setClass c).sw.flag e = n.sw.flag e := by
  cases c <;> simp [Npx.setClass]

@[simp] theorem Npx.flag_setQuotient (q : Nat) : (n.setQuotient q).sw.flag e = n.sw.flag e := by simp [Npx.setQuotient]

@[simp] theorem Npx.flag_drawC30 : (n.drawC30 d).sw.flag e = n.sw.flag e := by cases e <;> rfl

@[simp] theorem Npx.flag_drawC2 : (n.drawC2 d).sw.flag e = n.sw.flag e := n.flag_setC2 _ e

@[simp] theorem Npx.flag_drawC1 : (n.drawC1 d).sw.flag e = n.sw.flag e := n.flag_setC1 _ e

@[simp] theorem Npx.flag_pushRaw : (n.pushRaw x).sw.flag e = n.sw.flag e := by simp [Npx.pushRaw]

@[simp] theorem Npx.flag_exactInto : (n.exactInto j p x).sw.flag e = n.sw.flag e := by simp [Npx.exactInto]

@[simp] theorem Npx.flag_pairInto : (n.pairInto x y).sw.flag e = n.sw.flag e := by simp [Npx.pairInto]

@[simp] theorem Npx.flag_fillEmpty : (n.fillEmpty j).sw.flag e = n.sw.flag e := by
  unfold Npx.fillEmpty
  split <;> simp

end

section
variable {n : Npx} {e : Exc} (h : n.sw.flag e = true) (d : Nat)

include h

/-! ### Shared operations -/

@[simp] theorem Npx.flagDelivered_flag (r : Delivered) : (n.flagDelivered r).sw.flag e = true := by
  simp [Npx.flagDelivered, h]

@[simp] theorem Npx.flagStored_flag (r : Stored) : (n.flagStored r).sw.flag e = true := by
  simp [Npx.flagStored, h]

@[simp] theorem Npx.stackOverflow_flag : n.stackOverflow.sw.flag e = true := by
  unfold Npx.stackOverflow
  split <;> simp [h]

@[simp] theorem Npx.push_flag (x : Ext) : (n.push x).sw.flag e = true := by
  obtain ⟨-, hp⟩ | ⟨-, -, hp⟩ | ⟨-, -, hp⟩ := n.push_cases x <;> simp [hp, h]

@[simp] theorem Npx.underflowInto_flag (k : BitVec 3) (p : Nat) : (n.underflowInto k p).sw.flag e = true := by
  unfold Npx.underflowInto
  split <;> simp [h]

@[simp] theorem Npx.invalidInto_flag (k : BitVec 3) (p : Nat) (x : Ext) :
    (n.invalidInto k p x).sw.flag e = true := by
  simp only [Npx.invalidInto]
  split <;> simp [h]

@[simp] theorem Npx.deliverInto_flag (k : BitVec 3) (p : Nat) (r : Delivered) :
    (n.deliverInto k p r).sw.flag e = true := by
  simp [Npx.deliverInto, h]

theorem Npx.checked_flag {a b : Opnd} {invalid : Bool} {dst : BitVec 3} {p : Nat} {k : Npx → Npx}
    (hk : ∀ m : Npx, m.sw.flag e = true → (k m).sw.flag e = true) :
    (n.checked a b invalid dst p k).sw.flag e = true := by
  obtain ⟨-, hc⟩ | ⟨-, -, hc⟩ | ⟨-, -, hc⟩ | ⟨-, -, hc⟩ | ⟨-, -, hc⟩ | ⟨-, hc⟩ :=
    n.checked_cases a b invalid dst p k <;> simp [hc, hk, h]

@[simp] theorem Npx.pairFault_flag : (n.pairFault d).sw.flag e = true := by
  unfold Npx.pairFault
  repeat' split
  all_goals simp [h]

@[simp] theorem Npx.remInto_flag (dst : BitVec 3) (neg : Bool) (r : RemStep) :
    (n.remInto dst neg r).sw.flag e = true := by
  unfold Npx.remInto
  dsimp only
  repeat' split
  all_goals simp [h]

/-! ### Arithmetic -/

@[simp] theorem arithFinite_flag (op : ArithOp) (a b : Opnd) (dst : BitVec 3) (p : Nat) :
    (arithFinite op a b dst p d n).sw.flag e = true := by
  unfold arithFinite
  dsimp only
  repeat' split
  all_goals simp [h]

theorem arith_flag (op : ArithOp) (a b : Option Opnd) (dst : BitVec 3) (p : Nat) :
    (arith op a b dst p d n).sw.flag e = true := by
  unfold arith
  rw [Npx.flag_drawC320]
  split
  · exact Npx.checked_flag h fun _ hm => arithFinite_flag hm ..
  · simp [h]

theorem fsqrt_flag : (fsqrt d n).sw.flag e = true := by
  unfold fsqrt
  rw [Npx.flag_drawC320]
  split
  · simp [h]
  · refine Npx.checked_flag h fun m hm => ?_
    split <;> simp [hm]

theorem fscale_flag : (fscale d n).sw.flag e = true := by
  unfold fscale
  rw [Npx.flag_drawC320]
  split
  · refine Npx.checked_flag h fun m hm => ?_
    repeat' split
    all_goals simp [hm]
  · simp [h]

theorem fpremStep_flag (nearest : Bool) : (fpremStep nearest d n).sw.flag e = true := by
  unfold fpremStep
  dsimp only
  repeat' split
  all_goals simp [h]

theorem frndint_flag : (frndint d n).sw.flag e = true := by
  unfold frndint
  rw [Npx.flag_drawC320]
  split
  · simp [h]
  · refine Npx.checked_flag h fun m hm => ?_
    split <;> simp [hm]

@[simp] theorem fxtractRule_flag (a : Opnd) : (fxtractRule a n).sw.flag e = true := by
  unfold fxtractRule
  dsimp only
  repeat' split
  all_goals simp [h]

theorem fxtract_flag : (fxtract d n).sw.flag e = true := by
  unfold fxtract
  rw [Npx.flag_drawC320]
  repeat' split
  all_goals simp [h]

theorem mapTop_flag (f : Ext → Ext) : (mapTop f d n).sw.flag e = true := by
  unfold mapTop
  rw [Npx.flag_drawC320]
  split <;> simp [h]

/-! ### Comparison and constants -/

theorem compareOperands_flag (quietNan : Bool) (p : Nat) (a b : Option Opnd) :
    (compareOperands quietNan p a b n).sw.flag e = true := by
  unfold compareOperands
  dsimp only
  repeat' split
  all_goals simp [h]

theorem examine_flag : (examine d n).sw.flag e = true := by
  unfold examine
  dsimp only
  split <;> simp [h]

theorem pushConstant_flag (k : RC → Ext) : (pushConstant k d n).sw.flag e = true := by
  simp [pushConstant, h]

/-! ### Data transfer -/

theorem fldReal_flag (f : Fmt) (v : Nat) : (fldReal f d v n).sw.flag e = true := by
  unfold fldReal
  dsimp only
  rw [Npx.flag_drawC320]
  repeat' split
  all_goals simp [h]

theorem pushImage_flag (x : Ext) : (pushImage x d n).sw.flag e = true := by
  simp [pushImage, h]

theorem fldStack_flag (i : StIndex) : (fldStack i d n).sw.flag e = true := by
  unfold fldStack
  rw [Npx.flag_drawC320]
  repeat' split
  all_goals simp [h]

theorem storeTop_flag (conv : Npx → Ext → Stored) (ind p : Nat) : (storeTop conv ind p d n).npx.sw.flag e = true := by
  unfold storeTop
  dsimp only
  repeat' split
  all_goals simp [h]

theorem fstStack_flag (i : StIndex) (p : Nat) : (fstStack i p d n).sw.flag e = true := by
  unfold fstStack
  rw [Npx.flag_drawC320]
  split <;> simp [h]

theorem fxchStack_flag (i : StIndex) : (fxchStack i d n).sw.flag e = true := by
  unfold fxchStack
  dsimp only
  rw [Npx.flag_drawC320]
  repeat' split
  all_goals simp [h]

/-! ### Transcendental instructions -/

theorem trigRule_flag {put : Npx → Ext → Npx} {k : Npx → Npx} {a : Opnd}
    (hput : ∀ m x, (put m x).sw.flag e = m.sw.flag e)
    (hk : ∀ m : Npx, m.sw.flag e = true → (k m).sw.flag e = true) : (trigRule put k d a n).sw.flag e = true := by
  unfold trigRule
  dsimp only
  repeat' split
  all_goals simp [hput, hk, h]

theorem trigTop_flag (f : Transc1) (atZero : Ext → Ext) : (trigTop f atZero d n).sw.flag e = true := by
  unfold trigTop
  rw [Npx.flag_drawC30]
  split
  · split <;> simp [h]
  · refine trigRule_flag h d (fun _ _ => rfl) fun m hm => ?_
    split <;> simp [hm]

@[simp] theorem trigPairFault_flag (y : Ext) : (trigPairFault y d n).sw.flag e = true := by
  unfold trigPairFault
  split <;> simp [h]

theorem fsincos_flag : (fsincos d n).sw.flag e = true := by
  unfold fsincos
  rw [Npx.flag_drawC30]
  split
  · refine trigRule_flag h d (fun _ _ => Npx.flag_pairInto ..) fun m hm => ?_
    split <;> simp [hm]
  · simp [h]

theorem fptan_flag : (fptan d n).sw.flag e = true := by
  unfold fptan
  rw [Npx.flag_drawC30]
  split
  · refine trigRule_flag h d (fun _ _ => Npx.flag_pairInto ..) fun m hm => ?_
    split <;> simp [hm]
  · simp [h]

theorem fpatan_flag : (fpatan d n).sw.flag e = true := by
  unfold fpatan
  rw [Npx.flag_drawC320]
  split
  · refine Npx.checked_flag h fun m hm => ?_
    split <;> simp [hm]
  · simp [h]

theorem f2xm1_flag : (f2xm1 d n).sw.flag e = true := by
  unfold f2xm1
  rw [Npx.flag_drawC320]
  split
  · simp [h]
  · refine Npx.checked_flag h fun m hm => ?_
    repeat' split
    all_goals simp [hm]

@[simp] theorem fyl2xRule_flag (y x : Opnd) : (fyl2xRule y x d n).sw.flag e = true := by
  unfold fyl2xRule
  dsimp only
  repeat' split
  all_goals simp [h]

theorem fyl2x_flag : (fyl2x d n).sw.flag e = true := by
  unfold fyl2x
  rw [Npx.flag_drawC320]
  split
  · exact Npx.checked_flag h fun _ hm => fyl2xRule_flag hm ..
  · simp [h]

@[simp] theorem fyl2xp1Rule_flag (y x : Opnd) : (fyl2xp1Rule y x d n).sw.flag e = true := by
  unfold fyl2xp1Rule
  dsimp only
  repeat' split
  all_goals simp [h]

theorem fyl2xp1_flag : (fyl2xp1 d n).sw.flag e = true := by
  unfold fyl2xp1
  rw [Npx.flag_drawC320]
  split
  · exact Npx.checked_flag h fun _ hm => fyl2xp1Rule_flag hm ..
  · simp [h]

end

end Sys2Proof.Machine
end

section
/-! What makes ERROR# inactive (R33, R372): the instructions that clear or load the flags or load the masks. -/

namespace Sys2Proof.Machine

/-! ### ERROR# stays active where no flag is cleared and the masks stay (R33, R52) -/

/-- The control word stays, and no exception flag is cleared. -/
def Npx.KeepsFlags (n m : Npx) : Prop := m.cw = n.cw ∧ ∀ e, n.sw.flag e = true → m.sw.flag e = true

section
variable {n m : Npx}

theorem Npx.masked_of_cw (h : m.cw = n.cw) (e : Exc) : m.masked e = n.masked e := by
  cases e <;> simp only [Npx.masked, h]

theorem Npx.KeepsFlags.es (h : n.KeepsFlags m) (hes : n.es = true) : m.es = true := by
  obtain ⟨hcw, hflag⟩ := h
  obtain ⟨e, hf, hm⟩ := n.es_iff.mp hes
  exact m.es_iff.mpr ⟨e, hflag e hf, (Npx.masked_of_cw hcw e).trans hm⟩

theorem Npx.KeepsFlags.of_eq (hcw : m.cw = n.cw) (hflag : ∀ e, m.sw.flag e = n.sw.flag e) : n.KeepsFlags m :=
  ⟨hcw, fun e h => (hflag e).trans h⟩

theorem Npx.keepsFlags_drawCC (n : Npx) (d : Nat) : n.KeepsFlags (n.drawCC d) := .of_eq rfl (n.flag_drawCC d)

end

/-! ### Interrupt 9 (R381) -/

/-- The opcode bits of a memory form. -/
def memOpcode (grp reg : BitVec 3) : BitVec 11 := grp ++ packByte 0 reg 0

theorem formWrites_of_fields {op op' : BitVec 11} (hgrp : op.extractLsb' 8 3 = op'.extractLsb' 8 3)
    (hreg : op.extractLsb' 3 3 = op'.extractLsb' 3 3) : formWrites op = formWrites op' := by
  unfold formWrites
  rw [hgrp, hreg]

/-- What a memory form may write does not depend on its operand. -/
theorem formWrites_modrm (grp reg : BitVec 3) (m : MemArg) :
    formWrites (grp ++ m.modrm reg) = formWrites (memOpcode grp reg) := by
  have hgrp (b : Byte) : (grp ++ b).extractLsb' 8 3 = grp := (bitVec_eq_append_iff.mp rfl).1
  have hreg (b : Byte) : (grp ++ b).extractLsb' 3 3 = bits53 b := by
    have hlow : (grp ++ b).extractLsb' 0 8 = b := (bitVec_eq_append_iff.mp rfl).2
    have hbits := extractLsb'_extractLsb'_of_le (grp ++ b) (i := 0) (w := 8) (j := 3) (v := 3) (by decide)
    rw [hlow] at hbits
    exact hbits.symm
  refine formWrites_of_fields ?_ ?_
  · rw [memOpcode, hgrp, hgrp]
  · rw [memOpcode, hreg, hreg, MemArg.modrm, bits53_packByte, bits53_packByte]

/-- A form that does not write the control word does not write the status word as a whole. -/
theorem formWrites_stack : ∀ grp reg : BitVec 3, (formWrites (memOpcode grp reg)).control = false →
    (formWrites (memOpcode grp reg)).stack ≠ .any := by decide

theorem StatusWord.flag_mergeFlags (w v : StatusWord) (e : Exc) :
    (w.mergeFlags v).flag e = (w.flag e || v.flag e) := by cases e <;> rfl

theorem StatusWord.flag_withTop (w : StatusWord) (a : BitVec 3) (e : Exc) :
    ({ w with top := a } : StatusWord).flag e = w.flag e := by cases e <;> rfl

/-- Interrupt 9 in a form that does not write the control word clears no flag (assumption 28). -/
theorem Npx.keepsFlags_overrun {op : BitVec 11} (hc : (formWrites op).control = false)
    (hs : (formWrites op).stack ≠ .any) (n : Npx) (p : Params) (d : Nat) : n.KeepsFlags (n.overrun p op d) := by
  refine ⟨by simp [Npx.overrun, hc], fun e h => ?_⟩
  unfold Npx.overrun
  cases hstack : (formWrites op).stack with
  | any => exact absurd hstack hs
  | _ => simp [hstack, StatusWord.flag_withTop, StatusWord.flag_mergeFlags, h]

/-! ### The instructions that keep it active -/

/-- From `s` to `t` ERROR# stays as it was, or rises. -/
def State.KeepsError (s t : State) : Prop := s.npx.es = true → t.npx.es = true

theorem Ends.keepsError {s t : State} (h : Ends s s.KeepsError t) : s.KeepsError t := by
  cases h with
  | trap v => intro hes; rwa [State.takeInterrupt_npx]
  | hold => exact id
  | overrun op r n w h => exact h
  | finish len t h => exact h

/-- However the instruction ends, ERROR# does not go inactive. -/
def InstrKeepsError (i : Instr) : Prop := ∀ s t, exec i s = .next t → Ends s s.KeepsError t

section
variable {i : Instr} {k : EscKind} {pre : List Prefix} {grp reg : BitVec 3} {b2 : Byte} {m : MemArg} {n : Nat}

theorem keepsError_regForm {body : State → State} (runs : ∀ s, exec i s = s.regForm k pre grp b2 body)
    (hb : ∀ t : State, t.npx.KeepsFlags (body t).npx) : InstrKeepsError i := by
  refine fun s _ h => State.escReg_ends ((runs s).symm.trans h) fun hes => ?_
  exact (hb _).es (by rwa [State.startEsc_npx])

theorem keepsError_memForm {w : Bool} {s t : State} {body : MemRef → State → State} (h : exec i s = .next t)
    (runs : exec i s = s.memForm k pre grp reg m n w body) (hc : (formWrites (memOpcode grp reg)).control = false)
    (hb : ∀ r (t : State), t.npx.KeepsFlags (body r t).npx) : Ends s s.KeepsError t := by
  refine State.escMem_ends (runs.symm.trans h) (fun hes => ?_) fun hes => ?_
  · rw [State.segmentOverrun_npx]
    have hs := formWrites_stack grp reg hc
    rw [← formWrites_modrm grp reg m] at hc hs
    exact (Npx.keepsFlags_overrun hc hs ..).es hes
  · exact (hb _ _).es (by rwa [State.startEsc_npx])

theorem keepsError_numReg {f : Nat → Npx → Npx} (runs : ∀ s, exec i s = s.numReg pre grp b2 f)
    (hcw : ∀ d n, (f d n).cw = n.cw) (hflag : ∀ d n e, n.sw.flag e = true → (f d n).sw.flag e = true) :
    InstrKeepsError i :=
  keepsError_regForm runs fun _ => ⟨hcw .., hflag _ _⟩

theorem keepsError_numLoad {f : Nat → Nat → Npx → Npx} (runs : ∀ s, exec i s = s.numLoad pre grp reg m n f)
    (hc : (formWrites (memOpcode grp reg)).control = false) (hcw : ∀ d v n, (f d v n).cw = n.cw)
    (hflag : ∀ d v n e, n.sw.flag e = true → (f d v n).sw.flag e = true) : InstrKeepsError i :=
  fun s _ h => keepsError_memForm h (runs s) hc fun _ _ => ⟨hcw .., hflag _ _ _⟩

theorem keepsError_numStore {f : Nat → Npx → StoreEffect} (runs : ∀ s, exec i s = s.numStore pre grp reg m n f)
    (hc : (formWrites (memOpcode grp reg)).control = false) (hcw : ∀ d n, (f d n).npx.cw = n.cw)
    (hflag : ∀ d n e, n.sw.flag e = true → (f d n).npx.sw.flag e = true) : InstrKeepsError i := by
  refine fun s _ h => keepsError_memForm h (runs s) hc fun r t => ?_
  rw [storeThen_npx]
  exact ⟨hcw .., hflag _ _⟩

end

/-- A numeric instruction keeps ERROR# active, by the lemmas of its rule. -/
theorem keepsError_of_numeric {i : Instr} {u : Option OperandUse} (tabled : TabledAs i false u) :
    InstrKeepsError i := by
  have h : (i.administrative || i.reserved) = false := by rw [tabled.administrative, tabled.reserved, Bool.or_false]
  cases i with
  | faddStSti | fmulStSti | fsubStSti | fsubrStSti | fdivStSti | fdivrStSti | faddStiSt | fmulStiSt | fsubrStiSt
  | fsubStiSt | fdivrStiSt | fdivStiSt | faddpStiSt | fmulpStiSt | fsubrpStiSt | fsubpStiSt | fdivrpStiSt
  | fdivpStiSt => exact keepsError_numReg (fun _ => rfl) (fun d n => arith_cw n d ..) fun d n e h => arith_flag h d ..
  | faddSingleReal | fmulSingleReal | fsubSingleReal | fsubrSingleReal | fdivSingleReal | fdivrSingleReal
  | faddDoubleReal | fmulDoubleReal | fsubDoubleReal | fsubrDoubleReal | fdivDoubleReal | fdivrDoubleReal
  | fiaddShortInteger | fimulShortInteger | fisubShortInteger | fisubrShortInteger | fidivShortInteger
  | fidivrShortInteger | fiaddWordInteger | fimulWordInteger | fisubWordInteger | fisubrWordInteger
  | fidivWordInteger | fidivrWordInteger =>
    exact keepsError_numLoad (fun _ => rfl) rfl (fun d _ n => arith_cw n d ..) fun d _ n e h => arith_flag h d ..
  | fcomSti | fcompSti | fcompp | fucomSti | fucompSti | fucompp | ftst =>
    exact keepsError_numReg (fun _ => rfl) (fun _ n => compareOperands_cw n ..)
      fun _ _ _ h => compareOperands_flag h ..
  | fcomSingleReal | fcompSingleReal | fcomDoubleReal | fcompDoubleReal | ficomShortInteger | ficompShortInteger
  | ficomWordInteger | ficompWordInteger =>
    exact keepsError_numLoad (fun _ => rfl) rfl (fun _ _ n => compareOperands_cw n ..)
      fun _ _ _ _ h => compareOperands_flag h ..
  | fld1 | fldl2t | fldl2e | fldpi | fldlg2 | fldln2 | fldz =>
    exact keepsError_numReg (fun _ => rfl) (fun d n => pushConstant_cw n d _) fun d _ _ h => pushConstant_flag h d _
  | fldSingleReal | fldDoubleReal =>
    exact keepsError_numLoad (fun _ => rfl) rfl (fun d v n => fldReal_cw n d _ v) fun d v _ _ h => fldReal_flag h d _ v
  | fldExtendedReal | fildShortInteger | fildWordInteger | fildLongInteger | fbldPackedDecimal =>
    exact keepsError_numLoad (fun _ => rfl) rfl (fun d _ n => pushImage_cw n d _) fun d _ _ _ h => pushImage_flag h d _
  | fstSingleReal | fstpSingleReal | fistShortInteger | fistpShortInteger | fstpExtendedReal | fstDoubleReal
  | fstpDoubleReal | fistWordInteger | fistpWordInteger | fbstpPackedDecimal | fistpLongInteger =>
    exact keepsError_numStore (fun _ => rfl) rfl (fun d n => storeTop_cw n d ..) fun d _ _ h => storeTop_flag h d ..
  | fldSti => exact keepsError_numReg (fun _ => rfl) (fun d n => fldStack_cw n d _) fun d _ _ h => fldStack_flag h d _
  | fstSti | fstpSti =>
    exact keepsError_numReg (fun _ => rfl) (fun d n => fstStack_cw n d ..) fun d _ _ h => fstStack_flag h d ..
  | fxchSti =>
    exact keepsError_numReg (fun _ => rfl) (fun d n => fxchStack_cw n d _) fun d _ _ h => fxchStack_flag h d _
  | fxam => exact keepsError_numReg (fun _ => rfl) (fun d n => examine_cw n d) fun d _ _ h => examine_flag h d
  | fchs | fabs => exact keepsError_numReg (fun _ => rfl) (fun d n => mapTop_cw n d _) fun d _ _ h => mapTop_flag h d _
  | fsqrt => exact keepsError_numReg (fun _ => rfl) (fun d n => fsqrt_cw n d) fun d _ _ h => fsqrt_flag h d
  | fscale => exact keepsError_numReg (fun _ => rfl) (fun d n => fscale_cw n d) fun d _ _ h => fscale_flag h d
  | fprem | fprem1 =>
    exact keepsError_numReg (fun _ => rfl) (fun d n => fpremStep_cw n d _) fun d _ _ h => fpremStep_flag h d _
  | frndint => exact keepsError_numReg (fun _ => rfl) (fun d n => frndint_cw n d) fun d _ _ h => frndint_flag h d
  | fxtract => exact keepsError_numReg (fun _ => rfl) (fun d n => fxtract_cw n d) fun d _ _ h => fxtract_flag h d
  | fsin | fcos =>
    exact keepsError_numReg (fun _ => rfl) (fun d n => trigTop_cw n d ..) fun d _ _ h => trigTop_flag h d ..
  | fsincos => exact keepsError_numReg (fun _ => rfl) (fun d n => fsincos_cw n d) fun d _ _ h => fsincos_flag h d
  | fptan => exact keepsError_numReg (fun _ => rfl) (fun d n => fptan_cw n d) fun d _ _ h => fptan_flag h d
  | fpatan => exact keepsError_numReg (fun _ => rfl) (fun d n => fpatan_cw n d) fun d _ _ h => fpatan_flag h d
  | f2xm1 => exact keepsError_numReg (fun _ => rfl) (fun d n => f2xm1_cw n d) fun d _ _ h => f2xm1_flag h d
  | fyl2x => exact keepsError_numReg (fun _ => rfl) (fun d n => fyl2x_cw n d) fun d _ _ h => fyl2x_flag h d
  | fyl2xp1 => exact keepsError_numReg (fun _ => rfl) (fun d n => fyl2xp1_cw n d) fun d _ _ h => fyl2xp1_flag h d
  | fincstp | fdecstp | ffreeSti | fnop | feni | fdisi | fsetpm =>
    exact keepsError_numReg (fun _ => rfl) (fun _ _ => rfl) fun _ _ e h => by cases e <;> exact h
  | _ => cases h

/-- The instructions that can make ERROR# inactive: those that clear the flags or set the masks, those that load flags
or masks, and reserved encodings by their draw (R372, assumption 16). -/
def CanLowerError (i : Instr) : Prop :=
  (∃ pre, i = .finit pre ∨ i = .fclex pre) ∨
  (∃ pre m, i = .fstenv pre m ∨ i = .fsave pre m ∨ i = .fldcw pre m ∨ i = .fldenv pre m ∨ i = .frstor pre m) ∨
  i.reserved = true

/-- Every other instruction keeps ERROR# active, interrupt 9 included. -/
theorem keepsError_or_canLowerError (i : Instr) : InstrKeepsError i ∨ CanLowerError i := by
  cases template_of i with
  | numReg pre grp b2 f _ _ tabled _ => exact .inl (keepsError_of_numeric tabled)
  | numLoad pre grp reg m n f _ _ tabled _ => exact .inl (keepsError_of_numeric tabled)
  | numStore pre grp reg m n f _ _ tabled _ => exact .inl (keepsError_of_numeric tabled)
  | reservedReg pre grp b2 _ _ tabled _ => exact .inr (.inr (.inr tabled.reserved))
  | reservedMem pre grp reg m _ _ tabled _ => exact .inr (.inr (.inr tabled.reserved))
  | fstswAx pre => exact .inl (keepsError_regForm (exec_fstswAx pre) fun t => t.npx.keepsFlags_drawCC _)
  | wait pre => exact .inl fun s t h => execWait_ends h id
  | fstcw pre m =>
    exact .inl fun s t h => keepsError_memForm h (exec_fstcw ..) rfl fun _ t => t.npx.keepsFlags_drawCC _
  | fstsw pre m =>
    exact .inl fun s t h => keepsError_memForm h (exec_fstsw ..) rfl fun _ t => t.npx.keepsFlags_drawCC _
  | finit pre => exact .inr (.inl ⟨pre, .inl rfl⟩)
  | fclex pre => exact .inr (.inl ⟨pre, .inr rfl⟩)
  | fstenv pre m => exact .inr (.inr (.inl ⟨pre, m, .inl rfl⟩))
  | fsave pre m => exact .inr (.inr (.inl ⟨pre, m, .inr (.inl rfl)⟩))
  | fldcw pre m => exact .inr (.inr (.inl ⟨pre, m, .inr (.inr (.inl rfl))⟩))
  | fldenv pre m => exact .inr (.inr (.inl ⟨pre, m, .inr (.inr (.inr (.inl rfl)))⟩))
  | frstor pre m => exact .inr (.inr (.inl ⟨pre, m, .inr (.inr (.inr (.inr rfl)))⟩))

theorem canLowerError_of_exec {i : Instr} {s t : State} (h : exec i s = .next t) (hs : s.errorPin = true)
    (ht : t.errorPin = false) : CanLowerError i := by
  refine (keepsError_or_canLowerError i).resolve_left fun hk => ?_
  exact absurd (((hk s t h).keepsError hs).symm.trans ht) nofun

/-! ### Making ERROR# inactive (R372) -/

theorem Npx.es_eq_false_iff {n : Npx} : n.es = false ↔ ∀ e, n.sw.flag e = true → n.masked e = true := by
  rw [← Bool.not_eq_true, Npx.es_iff]
  simp

theorem Npx.masked_maskAll (n : Npx) (e : Exc) : (maskAll n).masked e = true := by
  cases e <;> simp [Npx.masked, maskAll]

/-- FNCLEX leaves no flag. -/
theorem Npx.clearExceptions_es (n : Npx) (d : Nat) : ((clearExceptions n).drawCC d).es = false := by
  refine Npx.es_eq_false_iff.mpr fun e he => ?_
  rw [Npx.flag_drawCC] at he
  cases e <;> cases he

/-- FNSTENV masks every exception. -/
theorem Npx.maskAll_es (n : Npx) (d : Nat) : ((maskAll n).drawCC d).es = false :=
  Npx.es_eq_false_iff.mpr fun e _ => (Npx.drawCC_masked ..).trans (n.masked_maskAll e)

/-- On the standard connection ERROR#, while it is active, keeps every waiting instruction from executing. -/
theorem not_waits_of_errorPin_falls {i : Instr} {s t : State} (hp : s.params.platform = .standard)
    (h : exec i s = .next t) (hs : s.errorPin = true) (ht : t.errorPin = false) : i.waits s.params = false := by
  have herr : s.errorIn = true := by
    rw [State.errorIn, hp]
    exact hs
  by_contra hw
  have hrun : s.entryOf i ≠ .run := by
    rw [Ne, State.entryOf_run_iff]
    simp [State.proceeds, hw, herr]
  have hes : t.errorPin = s.errorPin := congrArg Npx.es (npx_of_not_run hrun h)
  exact absurd (hs.symm.trans (hes.symm.trans ht)) nofun

/-- Settles O22: on the standard connection the loads and the reserved encodings wait, so that they take interrupt 16
while ERROR# is active. -/
theorem errorDeassertion : Obligations.ErrorDeassertion := by
  unfold Obligations.ErrorDeassertion
  refine ⟨fun i s t hp h hs ht => ?_, fun i s hi h => ?_⟩
  · have hw : i.waits s.params = false := not_waits_of_errorPin_falls hp h hs ht
    rcases canLowerError_of_exec h hs ht with hi | ⟨pre, m, rfl | rfl | rfl | rfl | rfl⟩ | hr
    · exact .inl hi
    · exact .inr ⟨pre, m, .inl rfl⟩
    · exact .inr ⟨pre, m, .inr rfl⟩
    · cases hw
    · cases hw
    · cases hw
    · obtain ⟨hwaits, -⟩ := exec_of_reserved hr
      exact absurd ((hwaits _).symm.trans hw) nofun
  · rcases hi with ⟨pre, rfl | rfl⟩ | ⟨pre, m, rfl | rfl⟩
    · obtain ⟨_, he⟩ := exec_adminReg_of_ready (exec_finit pre s) rfl rfl rfl h
      exact ⟨_, he, s.npx.init_es⟩
    · obtain ⟨_, he⟩ := exec_adminReg_of_ready (exec_fclex pre s) rfl rfl rfl h
      exact ⟨_, he, s.npx.clearExceptions_es _⟩
    · obtain ⟨t, he, -, hn, -⟩ := exec_fstenv_of_ready h rfl
      exact ⟨t, he, (congrArg Npx.es hn).trans (s.npx.maskAll_es _)⟩
    · obtain ⟨_, he⟩ := exec_fsave_of_ready h rfl
      exact ⟨_, he, s.npx.init_es⟩

end Sys2Proof.Machine
end

section
/-! The PC/AT connection (R82, R392): what ERROR# latches when it rises, and what keeps instructions from
executing. -/

namespace Sys2Proof.Machine

/-! ### The request and the latches -/

/-- From `s` to `t` the request and the latches stay, and are set where ERROR# rises. -/
def State.Latched (s t : State) : Prop :=
  let rises := !s.errorPin && t.errorPin
  t.irq13 = (s.irq13 || rises) ∧ t.busyLatch = (s.busyLatch || rises) ∧ t.pereqLatch = (s.pereqLatch || rises)

section
variable {s t : State}

theorem State.latched_refl (s : State) : s.Latched s := by
  simp [State.Latched]

theorem State.Latched.takeInterrupt (h : s.Latched t) (v : Interrupt) (ret : FarPtr) :
    s.Latched (t.takeInterrupt v ret) := by
  simpa [State.Latched, State.errorPin] using h

variable (hp : s.params.platform = .pcAt)

include hp

/-- What ends by `State.latchError` latches, if nothing before it did. -/
theorem State.latched_latchError (hirq : t.irq13 = s.irq13) (hbusy : t.busyLatch = s.busyLatch)
    (hpereq : t.pereqLatch = s.pereqLatch) : s.Latched (s.latchError t) := by
  simp [State.Latched, State.latchError, State.errorPin, hp, hirq, hbusy, hpereq]

theorem State.latched_finish (h : t.hostPart = s.hostPart) (len : Nat) : s.Latched (s.finish len t) :=
  State.latched_latchError hp (congrArg HostPart.irq13 h) (congrArg HostPart.busyLatch h)
    (congrArg HostPart.pereqLatch h)

theorem State.latched_segmentOverrun (op : BitVec 11) (r : MemRef) (n : Nat) (w : Bool) :
    s.Latched (s.segmentOverrun op r n w) := by
  unfold State.segmentOverrun
  refine (State.latched_latchError hp ?_ ?_ ?_).takeInterrupt ..
  all_goals cases w <;> rfl

theorem State.latched_hardwareReset : s.Latched s.hardwareReset := State.latched_latchError hp rfl rfl rfl

theorem exec_latched {i : Instr} (h : exec i s = .next t) : s.Latched t := by
  have hx := exec_executes i s
  rw [h] at hx
  cases hx with
  | trap v => exact s.latched_refl.takeInterrupt ..
  | generalProtection => exact s.latched_refl.takeInterrupt ..
  | hold => exact s.latched_refl
  | overrun op r n w => exact State.latched_segmentOverrun hp ..
  | finish t _ host => exact State.latched_finish hp host _

/-! ### Entering an instruction -/

/-- ERROR# does not reach the 80386, so that no instruction takes interrupt 16. -/
theorem State.errorIn_pcAt : s.errorIn = false := by
  simp [State.errorIn, hp]

theorem exec_not_took_numericException {i : Instr} (h : exec i s = .next t) : ¬ s.Took t .numericException := by
  intro ht
  obtain ⟨-, entry | h13⟩ := exec_of_took h ht nofun
  · exact absurd ((State.errorIn_of_entryOf_trap entry).symm.trans (State.errorIn_pcAt hp)) nofun
  · cases h13

theorem exec_of_busyLatch {i : Instr} (hb : s.busyLatch = true) (ha : s.available i = true)
    (hw : i.waits s.params = true) : exec i s = .next s := by
  have hbusy : s.busyIn = true := by simp [State.busyIn, hp, hb]
  refine exec_of_hold ?_
  rw [State.entryOf_of_available ha, if_pos hw]
  exact State.waitEntry_hold.mpr hbusy

end

/-! ### FLDCW (R330) -/

/-- An FLDCW that masks every exception makes ERROR# inactive. -/
theorem exec_fldcw_masks {pre : List Prefix} {m : MemArg} {s : State} {r : MemRef} (h : s.ready (.fldcw pre m) = true)
    (hr : s.operandRef (.fldcw pre m) = some r) (hm : (s.wordAt r 0).extractLsb' 0 6 = 0x3F) :
    ∃ t, exec (.fldcw pre m) s = .next t ∧ t.errorPin = false := by
  obtain ⟨-, hfldcw⟩ := statusAndControlTransfers
  obtain ⟨t, he, hcw, -⟩ := hfldcw pre m s r h hr
  refine ⟨t, he, Npx.es_eq_false_iff.mpr fun e _ => ?_⟩
  have hmask : t.npx.masks = (s.wordAt r 0).extractLsb' 0 6 := by
    refine BitVec.eq_of_getLsbD_eq fun k hk => ?_
    have hk6 : k ≠ 6 ∧ ¬ (13 ≤ k ∨ k = 7) := by omega
    simp [Npx.masks, hk, hcw k (by omega), hk6]
  rw [← Npx.masks_place, hmask, hm]
  cases e <;> rfl

/-- Settles O24: each outcome of an instruction latches when ERROR# rises (`exec_latched`), and what makes ERROR#
inactive is known for either connection (`canLowerError_of_exec`). -/
theorem pcAtConnection : Obligations.PcAtConnection := by
  unfold Obligations.PcAtConnection
  intro s hp
  refine ⟨fun i t h => ⟨exec_latched hp h, exec_not_took_numericException hp h⟩, State.latched_hardwareReset hp,
    State.errorIn_pcAt hp, by simp [State.busyIn, hp], by simp [State.pereqIn, hp],
    fun i => exec_of_busyLatch hp, rfl, fun i t => canLowerError_of_exec, fun pre m r => exec_fldcw_masks⟩

end Sys2Proof.Machine
end

section
/-! The fetch of an instruction (R48, R101): the bytes of memory at CS:EIP decode to the instruction they encode. -/

namespace Sys2Proof.Machine

/-! ### The bytes at CS:EIP -/

theorem encode_length (i : Instr) : (encode i).length = i.length := by
  cases opcodeRow_of i with
  | wait pre => exact Laws.EncodeLength.wait pre
  | reg grp b2 pre opcode parts _ _ => exact length_regForm i pre grp b2 parts opcode
  | mem grp reg pre m opcode parts _ => exact length_memForm i pre m grp reg parts opcode

theorem fetchAddresses_length (base eip : BitVec 32) (n : Nat) : (fetchAddresses base eip n).length = n := by
  induction n generalizing eip with
  | zero => rfl
  | succ n ih => rw [fetchAddresses, List.length_cons, ih]

theorem fetchAddresses_getElem (base eip : BitVec 32) {n k : Nat} (hk : k < (fetchAddresses base eip n).length) :
    (fetchAddresses base eip n)[k] = (base + (eip + BitVec.ofNat 32 k)).toNat := by
  induction n generalizing eip k with
  | zero => cases hk
  | succ n ih =>
    cases k with
    | zero => simp [fetchAddresses]
    | succ k =>
      have hs : eip + 1 + BitVec.ofNat 32 k = eip + BitVec.ofNat 32 (k + 1) := by rw [BitVec.ofNat_add]; ac_rfl
      simp only [fetchAddresses, List.getElem_cons_succ, ih, hs]

/-- The bytes `bs` stand in memory at CS:EIP. -/
def State.CodeIs (s : State) (bs : List Byte) : Prop :=
  ∀ (k : Nat) (h : k < bs.length), s.mem.read (s.cpu.segs.cs.base + (s.cpu.eip + BitVec.ofNat 32 k)).toNat = bs[k]

/-- Bytes in memory at CS:EIP begin the fetch window. -/
theorem State.fetchWindow_of_codeIs {s : State} {bs : List Byte} (h : s.CodeIs bs) (hlen : bs.length ≤ maxLength) :
    ∃ rest, s.fetchWindow = bs ++ rest ∧ maxLength - rest.length = bs.length := by
  have hwindow : s.fetchWindow.length = maxLength := by simp [State.fetchWindow, fetchAddresses_length]
  refine ⟨s.fetchWindow.drop bs.length, ?_, ?_⟩
  · have htake : s.fetchWindow.take bs.length = bs := by
      refine List.ext_getElem (by simp [hwindow, hlen]) fun k _ hk => ?_
      rw [List.getElem_take, ← h k hk]
      simp [State.fetchWindow, fetchAddresses_getElem]
    conv_lhs => rw [← List.take_append_drop bs.length s.fetchWindow, htake]
  · rw [List.length_drop, hwindow]
    omega

/-- A well-formed instruction whose bytes stand at CS:EIP is fetched, with its length. -/
theorem State.fetch_of_codeIs {s : State} {i : Instr} (h : s.CodeIs (encode i)) (hwf : i.wf s.cpu.addressSize = true) :
    s.fetch = .ok (i, i.length) := by
  obtain ⟨hlen, -⟩ := Instr.wf_iff.mp hwf
  obtain ⟨rest, hwindow, hrest⟩ := s.fetchWindow_of_codeIs h (by rwa [encode_length])
  have hdecode := decodeEncode s.cpu.addressSize i rest hwf
  simp only [State.fetch, hwindow, hdecode, hrest, encode_length]

/-- Settles O5: the fetch answers the instruction, and neither the limit nor the record of stored bytes refuses it. -/
theorem stepRunsDecoded : Obligations.StepRunsDecoded := by
  unfold Obligations.StepRunsDecoded
  intro s i hs he hwf hlimit hstored hcode
  rw [step_of_fetch_ok hs he (s.fetch_of_codeIs hcode hwf), if_neg (by simp [hlimit]), if_neg]
  rw [State.selfModified_iff]
  rintro ⟨hp, k, hk, hm⟩
  exact hstored hp k hk hm

end Sys2Proof.Machine
end

section
/-! RESET (R60, R63 to R66), the status word and the tag word (R24, R30 to R33), BUSY# (R53), WAIT (R350), and FXAM
(R240). -/

namespace Sys2Proof.Machine

/-! ### RESET (R60, R63 to R66, R411) -/

/-- Settles O7: memory is empty, no signal is active, and the control word reads back as it is. -/
theorem resetInvariant : Obligations.ResetInvariant := by
  unfold Obligations.ResetInvariant
  exact { mem := rfl, busy := rfl, pereq := rfl, bus := rfl, control := by decide }

/-- The tag word of an NPX with every register tagged empty (R25). -/
theorem Npx.tagWord_of_empty {n : Npx} (h : n.empty = Vector.replicate 8 true) : n.tagWord = 0xFFFF := by
  have hk (k : BitVec 3) : n.isEmpty k = true := by simp [Npx.isEmpty, h]
  simp only [Npx.tagWord, hk, if_true]
  rfl

/-- After RESET IE is the one flag set, and not masked (R60). -/
theorem Npx.statusWord_of_reset {n : Npx} (hsw : n.sw = loadStatus 0x0001) (hcw : n.cw = 0x037E) :
    n.es = true ∧ n.statusWord = 0x8081 := by
  have hes : n.es = true := Npx.es_iff n |>.mpr ⟨.ie, by rw [hsw]; rfl, by rw [Npx.masked, hcw]; decide⟩
  exact ⟨hes, by rw [Npx.statusWord, hes, hsw]; decide⟩

/-- Settles O8: RESET and the start state have the same status word, control word and tags. -/
theorem resetValues : Obligations.ResetValues := by
  unfold Obligations.ResetValues
  rintro s t (rfl | rfl)
  · obtain ⟨hes, hsw⟩ := Npx.statusWord_of_reset (n := s.hardwareReset.npx) rfl rfl
    exact ⟨rfl, hsw, Npx.tagWord_of_empty rfl, rfl, hes, rfl, rfl, rfl⟩
  · obtain ⟨hes, hsw⟩ := Npx.statusWord_of_reset (n := State.reset.npx) (by decide) rfl
    exact ⟨rfl, hsw, Npx.tagWord_of_empty rfl, rfl, hes, rfl, rfl, rfl⟩

/-! ### The status word and the tag word (R24, R25, R30 to R33, R145) -/

/-- The status word bit by bit (R30). -/
theorem Npx.statusWord_eq (n : Npx) : n.statusWord =
    BitVec.ofBool n.es ++ BitVec.ofBool n.sw.c3 ++ n.sw.top ++ BitVec.ofBool n.sw.c2 ++ BitVec.ofBool n.sw.c1 ++
      BitVec.ofBool n.sw.c0 ++ BitVec.ofBool n.es ++ BitVec.ofBool n.sw.sf ++ BitVec.ofBool n.sw.pe ++
      BitVec.ofBool n.sw.ue ++ BitVec.ofBool n.sw.oe ++ BitVec.ofBool n.sw.ze ++ BitVec.ofBool n.sw.de ++
      BitVec.ofBool n.sw.ie := by
  refine BitVec.eq_of_getLsbD_eq fun k hk => ?_
  simp only [Npx.statusWord, packStatus, StatusWord.flags, BitVec.getLsbD_append, BitVec.getLsbD_ofBool]
  interval_cases k <;> rfl

/-- Field `k` of the tag word is the tag of register `k` (R24, R25). -/
theorem Npx.tagWord_field (n : Npx) (k : BitVec 3) :
    n.tagWord.extractLsb' (2 * k.toNat) 2 = if n.isEmpty k then 3 else tagOf (n.reg k) := by
  obtain ⟨k, hk⟩ := k
  interval_cases k
  all_goals
    ext i hi
    simp only [Npx.tagWord, BitVec.getElem_extractLsb', BitVec.getLsbD_append]
    interval_cases i <;> rfl

theorem tagOf_eq (x : Ext) : tagOf x = if classOf x = .zero then 1 else if classOf x = .normal then 0 else 2 := by
  unfold tagOf
  cases classOf x <;> rfl

/-- Settles O9: the two words by their fields, and ES by `Npx.es_iff`. -/
theorem statusAndTagWords : Obligations.StatusAndTagWords := by
  unfold Obligations.StatusAndTagWords
  exact ⟨fun n => ⟨n.statusWord_eq, n.es_iff⟩, fun _ => rfl, fun n k => by rw [n.tagWord_field, tagOf_eq]⟩

/-! ### BUSY# (R53, R350, R361) -/

/-- A waiting instruction that takes no interrupt 7 holds while BUSY# is active. -/
theorem exec_of_busyIn {i : Instr} {s : State} (ha : s.available i = true) (hw : i.waits s.params = true)
    (hb : s.busyIn = true) : exec i s = .next s := by
  refine exec_of_hold ?_
  rw [State.entryOf_of_available ha, if_pos hw]
  exact State.waitEntry_hold.mpr hb

theorem exec_wait_run {pre : List Prefix} {s : State} (h : s.cpu.ts = false ∨ s.cpu.mp = false)
    (hb : s.busyIn = false) (he : s.errorIn = false) :
    exec (.wait pre) s = .next (s.finish (pre.length + 1) s) := by
  have h7 : (s.cpu.ts && s.cpu.mp) = false := by rcases h with h | h <;> simp [h]
  rw [exec_wait, execWait, if_neg (by simp [h7]), State.waitEntry_run.mpr ⟨hb, he⟩]

/-- Settles O13: BUSY# holds what waits, and WAIT that is let through leaves the state it found but for EIP. -/
theorem waitsForBusy : Obligations.WaitsForBusy := by
  unfold Obligations.WaitsForBusy
  exact ⟨fun i s => exec_of_busyIn, fun pre s h hb he => ⟨_, exec_wait_run h hb he, rfl, rfl, rfl, rfl, rfl⟩⟩

/-! ### FXAM (R40, R240) -/

/-- The condition code of an operand class (R40). -/
theorem Npx.code_setClass (n : Npx) (c : Cls) : (n.setClass c).sw.code = match c with
    | .unsupported => (false, false, false)
    | .qnan => (false, false, true)
    | .snan => (false, false, true)
    | .normal => (false, true, false)
    | .infinity => (false, true, true)
    | .zero => (true, false, false)
    | .denormal => (true, true, false) := by
  cases c <;> rfl

theorem sameStack_examine (d : Nat) (n : Npx) : n.SameStack (examine d n) := by
  unfold examine
  dsimp only
  split
  · exact ⟨rfl, rfl, rfl⟩
  · simp [Npx.SameStack]

theorem flagged_examine (d : Nat) (n : Npx) : n.Flagged (examine d n) [] false := by
  unfold examine
  dsimp only
  split <;> simp [Npx.Flagged]

theorem examine_c1 (d : Nat) (n : Npx) : (examine d n).sw.c1 = (n.reg n.sw.top).getLsbD 79 := by
  unfold examine
  dsimp only
  split <;> simp [Npx.phys, extSign]

theorem examine_code (d : Nat) (n : Npx) : (examine d n).sw.code =
    if n.isEmpty n.sw.top then (true, false, true)
    else ((n.setC1 (extSign (n.reg n.sw.top))).setClass (classOf (n.reg n.sw.top))).sw.code := by
  have hphys : n.phys 0 = n.sw.top := by simp [Npx.phys]
  unfold examine
  dsimp only
  rw [hphys]
  split <;> rfl

/-- FXAM never sets C3, C2 and C0 together (R40). -/
theorem examine_code_ne (d : Nat) (n : Npx) : (examine d n).sw.code ≠ (true, true, true) := by
  rw [examine_code, Npx.code_setClass]
  split
  · decide
  · cases classOf (n.reg n.sw.top) <;> decide

/-- Settles O37: FXAM applies `examine`. -/
theorem examineOfReady : Obligations.Examine := by
  unfold Obligations.Examine
  intro pre s h
  obtain ⟨t, he, hn⟩ := exec_numReg_of_ready (i := .fxam pre) rfl rfl rfl h
  refine ⟨t, he, hn ▸ sameStack_examine .., hn ▸ flagged_examine .., hn ▸ examine_c1 .., ?_, ?_⟩
  · have hcode := examine_code s.draws s.npx
    rw [Npx.code_setClass] at hcode
    rw [hn]
    exact hcode
  · rintro ⟨h3, h2, h0⟩
    exact examine_code_ne s.draws s.npx (by rw [← hn, StatusWord.code, h3, h2, h0])

end Sys2Proof.Machine
end

section
/-! The frame of the 80386 (R26, R50, R327): what no instruction changes, and FSTSW AX. -/

namespace Sys2Proof.Machine

/-! ### A rule and the 80386 -/

/-- A rule leaves the 80386 but for the general registers `g`, and what the host and the launch own. -/
structure State.KeepsHost (s : State) (g : Gprs) (t : State) : Prop where
  cpu : t.cpu = { s.cpu with gprs := g }
  taken : t.taken = s.taken
  launch : t.launch = s.launch
  params : t.params = s.params
  irq13 : t.irq13 = s.irq13
  busyLatch : t.busyLatch = s.busyLatch
  pereqLatch : t.pereqLatch = s.pereqLatch

section
variable {s t : State} {g : Gprs}

/-- The rule starts from `State.startEsc`, which sets pointers only. -/
theorem State.KeepsHost.of_startEsc {k : EscKind} {op : BitVec 11} {r : Option MemRef}
    (h : (s.startEsc k op r).KeepsHost g t) : s.KeepsHost g t := by
  obtain ⟨hcpu, htaken, hlaunch, hparams, hirq, hbusy, hpereq⟩ := h
  simp only [State.startEsc_cpu, State.startEsc_taken, State.startEsc_launch, State.startEsc_params,
    State.startEsc_irq13, State.startEsc_busyLatch, State.startEsc_pereqLatch] at *
  exact ⟨hcpu, htaken, hlaunch, hparams, hirq, hbusy, hpereq⟩

/-- A rule that sets the NPX registers, the pointers and memory. -/
theorem State.keepsHost_of_eq {t : State}
    (h : t = { s with npx := t.npx, ptrs := t.ptrs, mem := t.mem, stored := t.stored }) : s.KeepsHost s.cpu.gprs t := by
  rw [h]
  exact ⟨rfl, rfl, rfl, rfl, rfl, rfl, rfl⟩

theorem keepsHost_drawReserved (t : State) : t.KeepsHost t.cpu.gprs (drawReserved t) := State.keepsHost_of_eq rfl

theorem keepsHost_storeThen (n : Nat) (f : Nat → Npx → StoreEffect) (r : MemRef) (t : State) :
    t.KeepsHost t.cpu.gprs (storeThen n f r t) := by
  obtain ⟨-, hcpu, htaken, hlaunch, hparams, hbusy, hpereq, hirq, -⟩ := storeThen_rest n f r t
  exact ⟨hcpu, htaken, hlaunch, hparams, hirq, hbusy, hpereq⟩

end

/-! ### An instruction and the 80386 -/

/-- What the instruction leaves in the general registers (R327). -/
def LeavesGprs (i : Instr) (s : State) (g : Gprs) : Prop :=
  g = s.cpu.gprs ∨
    ∃ pre, i = .fstswAx pre ∧ g = { s.cpu.gprs with eax := s.cpu.gprs.eax.extractLsb' 16 16 ++ s.npx.statusWord }

/-- The frame of the 80386 (R26, R50). -/
structure HostFramed (i : Instr) (s t : State) : Prop where
  cpu : t.cpu =
    { s.cpu with gprs := t.cpu.gprs, eip := t.cpu.eip, segs := { s.cpu.segs with cs := t.cpu.segs.cs } }
  code : t.taken = s.taken → t.cpu.segs.cs = s.cpu.segs.cs
  gprs : LeavesGprs i s t.cpu.gprs
  launch : t.launch = s.launch
  params : t.params = s.params
  latches : s.params.platform = .standard →
    t.irq13 = s.irq13 ∧ t.busyLatch = s.busyLatch ∧ t.pereqLatch = s.pereqLatch

section
variable {i : Instr} {s t : State} {g : Gprs}

theorem State.KeepsHost.framed (h : s.KeepsHost g t) (hg : LeavesGprs i s g) : HostFramed i s t where
  cpu := by rw [h.cpu]
  code _ := by rw [h.cpu]
  gprs := by rwa [h.cpu]
  launch := h.launch
  params := h.params
  latches _ := ⟨h.irq13, h.busyLatch, h.pereqLatch⟩

theorem hostFramed_refl (i : Instr) (s : State) : HostFramed i s s where
  cpu := rfl
  code _ := rfl
  gprs := .inl rfl
  launch := rfl
  params := rfl
  latches _ := ⟨rfl, rfl, rfl⟩

/-- ERROR# latches nothing on the standard connection. -/
theorem HostFramed.latchError (h : HostFramed i s t) : HostFramed i s (s.latchError t) where
  cpu := h.cpu
  code := h.code
  gprs := h.gprs
  launch := h.launch
  params := h.params
  latches hp := by rw [State.latchError_standard hp]; exact h.latches hp

theorem HostFramed.finish (h : HostFramed i s t) (len : Nat) : HostFramed i s (s.finish len t) :=
  HostFramed.latchError {
    cpu := by rw [h.cpu]
    code := h.code
    gprs := h.gprs
    launch := h.launch
    params := h.params
    latches := h.latches }

/-- An interrupt entry loads CS:EIP and leaves ESP (assumption 10). -/
theorem HostFramed.takeInterrupt (h : HostFramed i s t) (ht : t.taken = s.taken) (v : Interrupt) (ret : FarPtr) :
    HostFramed i s (t.takeInterrupt v ret) where
  cpu := by
    rw [State.takeInterrupt_cpu, h.cpu]
    cases t.launch.handler v <;> rfl
  code hs := by
    rw [State.takeInterrupt_taken, ht] at hs
    simp at hs
  gprs := by rw [State.takeInterrupt_gprs]; exact h.gprs
  launch := (State.takeInterrupt_launch ..).trans h.launch
  params := (State.takeInterrupt_params ..).trans h.params
  latches hp := by simpa using h.latches hp

theorem hostFramed_segmentOverrun (op : BitVec 11) (r : MemRef) (n : Nat) (w : Bool) :
    HostFramed i s (s.segmentOverrun op r n w) := by
  unfold State.segmentOverrun
  refine HostFramed.takeInterrupt (HostFramed.latchError (State.KeepsHost.framed ?_ (.inl rfl))) ?_ _ _
  · cases w <;> exact ⟨rfl, rfl, rfl, rfl, rfl, rfl, rfl⟩
  · cases w <;> rfl

theorem Ends.hostFramed (h : Ends s (HostFramed i s) t) : HostFramed i s t := by
  cases h with
  | trap v => exact (hostFramed_refl i s).takeInterrupt rfl ..
  | hold => exact hostFramed_refl i s
  | overrun op r n w h => exact h
  | finish len t h => exact h.finish len

/-! ### Every instruction -/

variable {k : EscKind} {pre : List Prefix} {grp reg : BitVec 3} {b2 : Byte} {m : MemArg} {n : Nat} {w : Bool}

theorem hostFramed_regForm {body : State → State} (h : exec i s = .next t)
    (runs : exec i s = s.regForm k pre grp b2 body) (hb : ∀ t : State, t.KeepsHost t.cpu.gprs (body t)) :
    Ends s (HostFramed i s) t :=
  State.escReg_ends (runs.symm.trans h) ((hb _).of_startEsc.framed (.inl (by rw [State.startEsc_cpu])))

theorem hostFramed_memForm {body : MemRef → State → State} (h : exec i s = .next t)
    (runs : exec i s = s.memForm k pre grp reg m n w body) (hb : ∀ r (t : State), t.KeepsHost t.cpu.gprs (body r t)) :
    Ends s (HostFramed i s) t :=
  State.escMem_ends (runs.symm.trans h) (hostFramed_segmentOverrun ..)
    ((hb _ _).of_startEsc.framed (.inl (by rw [State.startEsc_cpu])))

theorem hostFramed_reserved {op : BitVec 11} {len : Nat} (h : exec i s = .next t)
    (runs : exec i s = s.escReserved op len) : Ends s (HostFramed i s) t :=
  State.escReserved_ends (runs.symm.trans h)
    ((keepsHost_drawReserved _).of_startEsc.framed (.inl (by rw [State.startEsc_cpu])))

theorem hostFramed_fstswAx (h : exec (.fstswAx pre) s = .next t) : Ends s (HostFramed (.fstswAx pre) s) t :=
  State.escReg_ends ((exec_fstswAx ..).symm.trans h)
    (State.KeepsHost.framed (g := s.cpu.gprs.setAx s.npx.statusWord) ⟨rfl, rfl, rfl, rfl, rfl, rfl, rfl⟩
      (.inr ⟨pre, rfl, rfl⟩))

theorem exec_ends_host (h : exec i s = .next t) : Ends s (HostFramed i s) t := by
  cases template_of i with
  | numReg pre grp b2 f _ _ _ runs => exact hostFramed_regForm h (runs s) fun _ => State.keepsHost_of_eq rfl
  | numLoad pre grp reg m n f _ _ _ runs => exact hostFramed_memForm h (runs s) fun _ _ => State.keepsHost_of_eq rfl
  | numStore pre grp reg m n f _ _ _ runs => exact hostFramed_memForm h (runs s) (keepsHost_storeThen n f)
  | reservedReg pre grp b2 _ _ _ runs => exact hostFramed_reserved h (runs s)
  | reservedMem pre grp reg m _ _ _ runs => exact hostFramed_reserved h (runs s)
  | finit pre => exact hostFramed_regForm h (exec_finit ..) fun _ => State.keepsHost_of_eq rfl
  | fclex pre => exact hostFramed_regForm h (exec_fclex ..) fun _ => State.keepsHost_of_eq rfl
  | fstswAx pre => exact hostFramed_fstswAx h
  | wait pre => exact execWait_ends h (hostFramed_refl ..)
  | fldcw pre m => exact hostFramed_memForm h (exec_fldcw ..) fun _ _ => State.keepsHost_of_eq rfl
  | fstcw pre m => exact hostFramed_memForm h (exec_fstcw ..) fun _ _ => State.keepsHost_of_eq rfl
  | fstsw pre m => exact hostFramed_memForm h (exec_fstsw ..) fun _ _ => State.keepsHost_of_eq rfl
  | fldenv pre m => exact hostFramed_memForm h (exec_fldenv ..) fun _ _ => State.keepsHost_of_eq rfl
  | fstenv pre m => exact hostFramed_memForm h (exec_fstenv ..) fun _ _ => State.keepsHost_of_eq rfl
  | frstor pre m => exact hostFramed_memForm h (exec_frstor ..) fun _ _ => State.keepsHost_of_eq rfl
  | fsave pre m => exact hostFramed_memForm h (exec_fsave ..) fun _ _ => State.keepsHost_of_eq rfl

end

/-- Settles O18: each way an instruction ends keeps the frame. -/
theorem hostFrame : Obligations.HostFrame := by
  unfold Obligations.HostFrame
  intro i s t h
  have hf := (exec_ends_host h).hostFramed
  exact ⟨hf.cpu, hf.code, hf.gprs, hf.launch, hf.params, hf.latches⟩

end Sys2Proof.Machine
end

section
/-! The instruction and data pointers and the opcode register (R46, R47, R175). -/

namespace Sys2Proof.Machine

/-! ### The pointers of a numeric instruction (R47, R175) -/

/-- The eleven opcode bits are those of the two bytes after the prefixes. -/
theorem encode_opcodeBits {i : Instr} {pre : List Prefix} {k : Nat} {m : Option MemArg} {grp : BitVec 3} {b2 : Byte}
    {tail : List Byte} (parts : i.parts = (pre, k, m))
    (h : encode i = pre.map prefixByte ++ escByte grp :: b2 :: tail) :
    ((encode i).getD i.prefixes.length 0).extractLsb' 0 3 ++ (encode i).getD (i.prefixes.length + 1) 0 = grp ++ b2 := by
  have hpre : i.prefixes = pre := by rw [Instr.prefixes, parts]
  have hgrp : (escByte grp).extractLsb' 0 3 = grp := bits20_escByte grp
  rw [h, hpre]
  simp [hgrp]

/-- The pointers `p` are those of a numeric instruction at CS:EIP: its opcode, and its operand's address if it has an
operand of a known size. -/
def State.LeavesPointers (s : State) (i : Instr) (p : Pointers) : Prop :=
  ∃ op r, p = s.newPointers op r ∧
    op = ((encode i).getD i.prefixes.length 0).extractLsb' 0 3 ++ (encode i).getD (i.prefixes.length + 1) 0 ∧
    ∀ r' u, s.operand i = some (r', u) → r = some r'

/-- In protected mode an address is selector and offset, else linear with a zero selector (92 D11). -/
theorem pointer_of_pointerOf {md : CpuMode} {sel fs : BitVec 16} {off fo : BitVec 32}
    (h : (fs, fo) = pointerOf md sel off) :
    (md = .protectedMode → fs = sel ∧ fo = off) ∧
      (md ≠ .protectedMode → fs = 0 ∧ fo = (sel.setWidth 32 <<< 4) + off) := by
  cases md with
  | protectedMode => exact ⟨fun _ => Prod.ext_iff.mp h, fun hm => absurd rfl hm⟩
  | realAddress => exact ⟨nofun, fun _ => Prod.ext_iff.mp h⟩
  | virtual8086 => exact ⟨nofun, fun _ => Prod.ext_iff.mp h⟩

section
variable {s : State} {op : BitVec 11} {r : Option MemRef}

theorem State.newPointers_fop : (s.newPointers op r).fop = op := by
  cases r <;> rfl

/-- The instruction pointer does not depend on the operand. -/
theorem State.newPointers_instruction :
    ((s.newPointers op r).fcs, (s.newPointers op r).fip) =
      pointerOf s.cpu.mode s.cpu.segs.cs.selector s.cpu.eip := by
  cases r <;> rfl

theorem State.newPointers_data (r : MemRef) :
    ((s.newPointers op (some r)).fds, (s.newPointers op (some r)).fdp) =
      pointerOf s.cpu.mode (s.cpu.segs.get r.seg).selector r.off := rfl

end

/-! ### What an instruction leaves in the pointers -/

/-- A numeric instruction sets the pointers, FINIT and FSAVE make them zero, and the other administrative instructions
keep them but for those that load them (R47, R325, R340, 92 D6). -/
structure State.PointersLeft (s : State) (i : Instr) (p : Pointers) : Prop where
  numeric : i.administrative = false → s.LeavesPointers i p
  kept : i.administrative = true → i.writes.top ≠ .sets → p = s.ptrs
  finit : ∀ pre, i = .finit pre → p = ⟨0, 0, 0, 0, 0⟩
  fsave : ∀ pre m, i = .fsave pre m → p = ⟨0, 0, 0, 0, 0⟩

section
variable {s : State} {i : Instr} {p : Pointers}

theorem State.pointersLeft_of_numeric (hadm : i.administrative = false) (h : s.LeavesPointers i p) :
    s.PointersLeft i p where
  numeric _ := h
  kept ha := absurd (hadm.symm.trans ha) nofun
  finit pre hi := by subst hi; cases hadm
  fsave pre m hi := by subst hi; cases hadm

theorem State.pointersLeft_of_kept (hadm : i.administrative = true) (htop : i.writes.top ≠ .sets) :
    s.PointersLeft i s.ptrs where
  numeric ha := absurd (ha.symm.trans hadm) nofun
  kept _ _ := rfl
  finit pre hi := by subst hi; exact absurd rfl htop
  fsave pre m hi := by subst hi; exact absurd rfl htop

theorem State.pointersLeft_of_zero (hadm : i.administrative = true) (htop : i.writes.top = .sets) :
    s.PointersLeft i ⟨0, 0, 0, 0, 0⟩ where
  numeric ha := absurd (ha.symm.trans hadm) nofun
  kept _ ht := absurd htop ht
  finit _ _ := rfl
  fsave _ _ _ := rfl

/-- FLDENV and FRSTOR load the pointers. -/
theorem State.pointersLeft_of_load {pre : List Prefix} {m : MemArg} (hi : i = .fldenv pre m ∨ i = .frstor pre m) :
    s.PointersLeft i p := by
  rcases hi with rfl | rfl <;>
    exact { numeric := nofun, kept := fun _ ht => absurd rfl ht, finit := nofun, fsave := nofun }

/-! ### Entering an instruction that is ready -/

variable {pre : List Prefix} {grp reg : BitVec 3} {b2 : Byte} {m : MemArg}

theorem State.leavesPointers_reg (opcode : i.opcode = .reg grp b2) (parts : i.parts = (pre, 2, none)) :
    s.LeavesPointers i (s.newPointers (grp ++ b2) none) := by
  refine ⟨_, none, rfl, (encode_opcodeBits parts (encode_of_reg opcode parts)).symm, fun r u ho => ?_⟩
  simp [State.operand, State.operandRef, Instr.memArg?, parts] at ho

theorem State.leavesPointers_mem (opcode : i.opcode = .mem grp reg) (parts : i.parts = (pre, 2, some m)) :
    s.LeavesPointers i (s.newPointers (grp ++ m.modrm reg) (some (effectiveAddress s.cpu pre m))) := by
  refine ⟨_, _, rfl, (encode_opcodeBits parts (encode_of_mem opcode parts)).symm, fun r u ho => ?_⟩
  rw [s.operand_of_parts parts, Option.map_eq_some_iff] at ho
  obtain ⟨_, -, ho⟩ := ho
  cases ho
  rfl

/-- A reserved memory form has no operand of a known size (assumption 16). -/
theorem State.leavesPointers_reservedMem (opcode : i.opcode = .mem grp reg) (parts : i.parts = (pre, 2, some m))
    (tabled : TabledAs i true none) : s.LeavesPointers i (s.newPointers (grp ++ m.modrm reg) none) := by
  refine ⟨_, none, rfl, (encode_opcodeBits parts (encode_of_mem opcode parts)).symm, fun r u ho => ?_⟩
  rw [s.operand_of_parts parts, tabled.operandUse] at ho
  cases ho

theorem exec_wait_of_ready (h : s.ready (.wait pre) = true) :
    exec (.wait pre) s = .next (s.finish (pre.length + 1) s) := by
  simp only [State.ready, Bool.and_eq_true] at h
  obtain ⟨⟨⟨ha, hp⟩, -⟩, -⟩ := h
  have hrun : s.entryOf (.wait pre) = .run := State.entryOf_run_iff.mpr ⟨ha, hp⟩
  rw [State.entryOf, show (Instr.wait pre).isWait = true from rfl, if_pos rfl] at hrun
  rw [exec_wait, execWait]
  split at hrun
  · cases hrun
  · next h7 => rw [if_neg h7, hrun]

/-- A reserved encoding that is ready is run as a numeric instruction (assumption 16). -/
theorem exec_reserved_of_ready {op : BitVec 11} {len : Nat} {u : Option OperandUse} (hi : i.isWait = false)
    (tabled : TabledAs i true u) (runs : exec i s = s.escReserved op len) (h : s.ready i = true) :
    ∃ t, exec i s = .next t ∧ t.ptrs = s.newPointers op none := by
  have hrun : s.escEntry true = .run := tabled.waits s.params ▸ s.entry_of_ready hi h
  have hdraw : s.params.reservedEsc = .draw := by
    simp only [State.ready, Bool.and_eq_true] at h
    obtain ⟨-, hr⟩ := h
    simpa [tabled.reserved] using hr
  rw [runs, State.escReserved, hdraw]
  exact ⟨_, State.escReg_run hrun, State.startEsc_ptrs ..⟩

/-- The pointers every instruction that is ready leaves. -/
theorem exec_pointersLeft (h : s.ready i = true) : ∃ t, exec i s = .next t ∧ s.PointersLeft i t.ptrs := by
  cases template_of i with
  | numReg pre grp b2 f opcode parts tabled runs =>
    have hrun : s.escEntry true = .run :=
      tabled.waits s.params ▸ s.entry_of_ready (isWait_eq_false_of_parts parts) h
    refine ⟨_, (runs s).trans (State.escReg_run hrun), State.pointersLeft_of_numeric tabled.administrative ?_⟩
    exact State.startEsc_ptrs .. ▸ State.leavesPointers_reg opcode parts
  | numLoad pre grp reg m n f opcode parts tabled runs =>
    obtain ⟨-, _, he⟩ := exec_memForm_of_ready (runs s) parts tabled (operandUse_bytes (tabled.operandUse .s16)) h
    refine ⟨_, he, State.pointersLeft_of_numeric tabled.administrative ?_⟩
    exact State.startEsc_ptrs .. ▸ State.leavesPointers_mem opcode parts
  | numStore pre grp reg m n f opcode parts tabled runs =>
    obtain ⟨-, _, he⟩ := exec_memForm_of_ready (runs s) parts tabled (operandUse_bytes (tabled.operandUse .s16)) h
    refine ⟨_, he, State.pointersLeft_of_numeric tabled.administrative ?_⟩
    obtain ⟨hptrs, -⟩ := storeThen_rest n f (effectiveAddress s.cpu pre m)
      (s.startEsc numericKind (grp ++ m.modrm reg) (some (effectiveAddress s.cpu pre m)))
    exact (hptrs.trans (State.startEsc_ptrs ..)) ▸ State.leavesPointers_mem opcode parts
  | reservedReg pre grp b2 opcode parts tabled runs =>
    obtain ⟨t, he, hp⟩ := exec_reserved_of_ready (isWait_eq_false_of_parts parts) tabled (runs s) h
    exact ⟨t, he, State.pointersLeft_of_numeric tabled.administrative (hp ▸ State.leavesPointers_reg opcode parts)⟩
  | reservedMem pre grp reg m opcode parts tabled runs =>
    obtain ⟨t, he, hp⟩ := exec_reserved_of_ready (isWait_eq_false_of_parts parts) tabled (runs s) h
    exact ⟨t, he, State.pointersLeft_of_numeric tabled.administrative
      (hp ▸ State.leavesPointers_reservedMem opcode parts tabled)⟩
  | finit pre =>
    obtain ⟨_, he⟩ := exec_adminReg_of_ready (exec_finit pre s) rfl rfl rfl h
    exact ⟨_, he, State.pointersLeft_of_zero rfl rfl⟩
  | fclex pre =>
    obtain ⟨_, he⟩ := exec_adminReg_of_ready (exec_fclex pre s) rfl rfl rfl h
    exact ⟨_, he, State.pointersLeft_of_kept rfl nofun⟩
  | fstswAx pre =>
    obtain ⟨_, he⟩ := exec_adminReg_of_ready (exec_fstswAx pre s) rfl rfl rfl h
    exact ⟨_, he, State.pointersLeft_of_kept rfl nofun⟩
  | wait pre => exact ⟨_, exec_wait_of_ready h, State.pointersLeft_of_kept rfl nofun⟩
  | fldcw pre m =>
    obtain ⟨_, he⟩ := exec_adminMem_of_ready (exec_fldcw pre m s) rfl rfl rfl rfl (.inl rfl) h rfl
    exact ⟨_, he, State.pointersLeft_of_kept rfl nofun⟩
  | fstcw pre m =>
    obtain ⟨_, he⟩ := exec_adminMem_of_ready (exec_fstcw pre m s) (fstcwKind_numeric _) (fstcwKind_waiting _) rfl rfl
      (.inl rfl) h rfl
    exact ⟨_, he, State.pointersLeft_of_kept rfl nofun⟩
  | fstsw pre m =>
    obtain ⟨_, he⟩ := exec_adminMem_of_ready (exec_fstsw pre m s) rfl rfl rfl rfl (.inl rfl) h rfl
    exact ⟨_, he, State.pointersLeft_of_kept rfl nofun⟩
  | fldenv pre m =>
    obtain ⟨_, he, -⟩ := exec_fldenv_of_ready h rfl
    exact ⟨_, he, State.pointersLeft_of_load (.inl rfl)⟩
  | fstenv pre m =>
    obtain ⟨_, he, -, -, hp⟩ := exec_fstenv_of_ready h rfl
    exact ⟨_, he, hp ▸ State.pointersLeft_of_kept rfl nofun⟩
  | frstor pre m =>
    obtain ⟨_, he, -⟩ := exec_frstor_of_ready h rfl
    exact ⟨_, he, State.pointersLeft_of_load (.inr rfl)⟩
  | fsave pre m =>
    obtain ⟨_, he⟩ := exec_fsave_of_ready h rfl
    exact ⟨_, he, State.pointersLeft_of_zero rfl rfl⟩

end

/-- Settles O17: `State.newPointers` in either form of an address, by `exec_pointersLeft`. -/
theorem pointersUpdated : Obligations.PointersUpdated := by
  unfold Obligations.PointersUpdated
  intro i s h
  obtain ⟨t, he, hp⟩ := exec_pointersLeft h
  refine ⟨t, he, fun ha => ?_, hp.kept, hp.finit, hp.fsave⟩
  obtain ⟨op, r, hptrs, hop, hoperand⟩ := hp.numeric ha
  have hinstr := pointer_of_pointerOf (s.newPointers_instruction (op := op) (r := r))
  rw [← hptrs] at hinstr
  obtain ⟨hprotected, hlinear⟩ := hinstr
  refine ⟨by rw [hptrs, State.newPointers_fop, hop], hprotected, hlinear, fun r' u ho => ?_⟩
  obtain rfl := hoperand r' u ho
  rw [hptrs]
  exact pointer_of_pointerOf (s.newPointers_data r')

end Sys2Proof.Machine
end

section
/-! The frame of the NPX: which registers, tags and values of TOP an operation may change, and that SF is sticky (R22,
R23, R24, R32, R35). -/

namespace Sys2Proof.Machine

/-! ### Frames -/

/-- What TOP may be after an instruction, from what it was. -/
def TopAllowed : TopEffect → BitVec 3 → BitVec 3 → Prop
  | .keeps, a, b => b = a
  | .pushes, a, b => b = a ∨ b = a - 1
  | .pops k, a, b => b = a ∨ b = a + BitVec.ofNat 3 k
  | .increments, a, b => b = a ∨ b = a + 1
  | .decrements, a, b => b = a ∨ b = a - 1
  | .sets, _, _ => True

theorem topAllowed_refl (e : TopEffect) (a : BitVec 3) : TopAllowed e a a := by
  cases e with
  | keeps => exact rfl
  | sets => trivial
  | _ => exact .inl rfl

/-- The stack registers an operation may write, those whose tags it may change, and what it may do to TOP. -/
structure StackFrame where
  regs : List StIndex
  tags : List StIndex
  top : TopEffect

/-- What `k` pops do to TOP. -/
def popsTop : Nat → TopEffect
  | 0 => .keeps
  | k + 1 => .pops (k + 1)

/-- The top `k` registers. -/
def topIndices (k : Nat) : List StIndex := (List.range k).map (BitVec.ofNat 3)

/-- Nothing changes. -/
def StackFrame.same : StackFrame := ⟨[], [], .keeps⟩

/-- ST(j) is written, then the top `k` are popped. -/
def StackFrame.write (j : StIndex) (k : Nat) : StackFrame := ⟨[j], topIndices k ++ [j], popsTop k⟩

/-- The top `k` are popped. -/
def StackFrame.pop (k : Nat) : StackFrame := ⟨[], topIndices k, popsTop k⟩

def StackFrame.push : StackFrame := ⟨[7], [7], .pushes⟩

/-- ST(0) is written, then a second result is pushed. -/
def StackFrame.pair : StackFrame := ⟨[0, 7], [0, 7], .pushes⟩

/-- ST(0) and ST(j) are exchanged. -/
def StackFrame.exchange (j : StIndex) : StackFrame := ⟨[0, j], [0, j], .keeps⟩

/-- The change from `n` to `m` stays inside the frame `f`, and SF stays set (R35). -/
structure Npx.Framed (n m : Npx) (f : StackFrame) : Prop where
  reg : ∀ k, (∀ j ∈ f.regs, n.phys j ≠ k) → m.reg k = n.reg k
  tag : ∀ k, (∀ j ∈ f.tags, n.phys j ≠ k) → m.isEmpty k = n.isEmpty k
  top : TopAllowed f.top n.sw.top m.sw.top
  sf : n.sw.sf = true → m.sw.sf = true

section
variable {n m m' : Npx} {f : StackFrame}

@[simp] theorem Npx.framed_refl (n : Npx) (f : StackFrame) : n.Framed n f :=
  ⟨fun _ _ => rfl, fun _ _ => rfl, topAllowed_refl .., id⟩

theorem Npx.Framed.of_sameStack (h : n.Framed m f) (hs : m.SameStack m') (hsf : m.sw.sf = true → m'.sw.sf = true) :
    n.Framed m' f := by
  obtain ⟨hregs, hempty, htop⟩ := hs
  refine ⟨fun k hk => ?_, fun k hk => ?_, htop ▸ h.top, hsf ∘ h.sf⟩
  · rw [← h.reg k hk, Npx.reg, Npx.reg]
    simp only [hregs]
  · rw [← h.tag k hk, Npx.isEmpty, Npx.isEmpty]
    simp only [hempty]

/-- A step inside a frame after one that changes nothing of the stack. -/
theorem Npx.Framed.then (h : n.Framed m .same) (h' : m.Framed m' f) : n.Framed m' f := by
  have htop : m.sw.top = n.sw.top := h.top
  have hreg (k : BitVec 3) : m.reg k = n.reg k := h.reg k nofun
  have htag (k : BitVec 3) : m.isEmpty k = n.isEmpty k := h.tag k nofun
  have hphys (j : StIndex) : m.phys j = n.phys j := by rw [Npx.phys, htop, Npx.phys]
  obtain ⟨hreg', htag', htop', hsf'⟩ := h'
  simp only [hphys, hreg, htag, htop] at hreg' htag' htop'
  exact ⟨hreg', htag', htop', hsf' ∘ h.sf⟩

theorem Npx.Framed.of_same (h : n.Framed m .same) (f : StackFrame) : n.Framed m f := h.then (m.framed_refl f)

/-! ### Operations on the status word alone -/

/-- What keeps the stack and SF can be left out. -/
theorem Npx.framed_iff_of_sameStack (hs : m.SameStack m') (hsf : m'.sw.sf = m.sw.sf) :
    n.Framed m' f ↔ n.Framed m f := by
  obtain ⟨hregs, hempty, htop⟩ := hs
  exact ⟨fun h => h.of_sameStack ⟨hregs.symm, hempty.symm, htop.symm⟩ hsf.le,
    fun h => h.of_sameStack ⟨hregs, hempty, htop⟩ hsf.ge⟩

@[simp] theorem Npx.framed_signal (e : Exc) : n.Framed (m.signal e) f ↔ n.Framed m f :=
  Npx.framed_iff_of_sameStack (m.sameStack_signal e) (m.signal_sf e)

@[simp] theorem Npx.framed_signalIf (b : Bool) (e : Exc) : n.Framed (m.signalIf b e) f ↔ n.Framed m f :=
  Npx.framed_iff_of_sameStack (m.sameStack_signalIf b e) (m.signalIf_sf b e)

@[simp] theorem Npx.framed_setC1 (b : Bool) : n.Framed (m.setC1 b) f ↔ n.Framed m f :=
  Npx.framed_iff_of_sameStack ⟨rfl, rfl, rfl⟩ rfl

@[simp] theorem Npx.framed_setC2 (b : Bool) : n.Framed (m.setC2 b) f ↔ n.Framed m f :=
  Npx.framed_iff_of_sameStack ⟨rfl, rfl, rfl⟩ rfl

@[simp] theorem Npx.framed_setCC (c3 c2 c0 : Bool) : n.Framed (m.setCC c3 c2 c0) f ↔ n.Framed m f :=
  Npx.framed_iff_of_sameStack ⟨rfl, rfl, rfl⟩ rfl

@[simp] theorem Npx.framed_setOrder (o : Order) : n.Framed (m.setOrder o) f ↔ n.Framed m f :=
  Npx.framed_iff_of_sameStack (by simp [Npx.SameStack]) (m.setOrder_sf o)

@[simp] theorem Npx.framed_setQuotient (q : Nat) : n.Framed (m.setQuotient q) f ↔ n.Framed m f :=
  Npx.framed_iff_of_sameStack ⟨rfl, rfl, rfl⟩ rfl

@[simp] theorem Npx.framed_drawC320 (d : Nat) : n.Framed (m.drawC320 d) f ↔ n.Framed m f :=
  Npx.framed_iff_of_sameStack ⟨rfl, rfl, rfl⟩ rfl

@[simp] theorem Npx.framed_drawC30 (d : Nat) : n.Framed (m.drawC30 d) f ↔ n.Framed m f :=
  Npx.framed_iff_of_sameStack ⟨rfl, rfl, rfl⟩ rfl

@[simp] theorem Npx.framed_drawC2 (d : Nat) : n.Framed (m.drawC2 d) f ↔ n.Framed m f :=
  Npx.framed_iff_of_sameStack ⟨rfl, rfl, rfl⟩ rfl

@[simp] theorem Npx.framed_drawC1 (d : Nat) : n.Framed (m.drawC1 d) f ↔ n.Framed m f :=
  Npx.framed_iff_of_sameStack ⟨rfl, rfl, rfl⟩ rfl

@[simp] theorem Npx.framed_drawCC (d : Nat) : n.Framed (m.drawCC d) f ↔ n.Framed m f :=
  Npx.framed_iff_of_sameStack ⟨rfl, rfl, rfl⟩ rfl

@[simp] theorem Npx.framed_flagDelivered (r : Delivered) : n.Framed (m.flagDelivered r) f ↔ n.Framed m f :=
  Npx.framed_iff_of_sameStack (m.sameStack_flagDelivered r) (m.flagDelivered_sf r)

@[simp] theorem Npx.framed_flagStored (r : Stored) : n.Framed (m.flagStored r) f ↔ n.Framed m f :=
  Npx.framed_iff_of_sameStack (by simp [Npx.SameStack]) (m.flagStored_sf r)

@[simp] theorem Npx.framed_stackFault (h : n.Framed m f) (b : Bool) : n.Framed (m.stackFault b) f :=
  h.of_sameStack ⟨rfl, rfl, rfl⟩ fun _ => rfl

@[simp] theorem Npx.framed_pairFault (h : n.Framed m f) (d : Nat) : n.Framed (m.pairFault d) f := by
  unfold Npx.pairFault
  repeat' split
  all_goals simp [h]

end

/-! ### Writes, pops and pushes -/

section
variable {n m : Npx}

theorem topAllowed_pops (k : Nat) (a : BitVec 3) : TopAllowed (popsTop k) a (a + BitVec.ofNat 3 k) := by
  cases k with
  | zero => simp [popsTop, TopAllowed]
  | succ k => exact .inr rfl

/-- A register is popped only if it is among those on top. -/
theorem Npx.amongTop_eq_false {k : Nat} {a : BitVec 3} (h : ∀ j ∈ topIndices k, n.phys j ≠ a) :
    n.amongTop k a = false := by
  refine decide_eq_false fun hlt => h (a - n.sw.top) ?_ (add_sub_cancel ..)
  exact List.mem_map.mpr ⟨(a - n.sw.top).toNat, List.mem_range.mpr hlt, BitVec.ofNat_toNat ..⟩

theorem Npx.Popped.framed {k : Nat} (h : n.Popped m k) (hsf : n.sw.sf = true → m.sw.sf = true) :
    n.Framed m (.pop k) := by
  obtain ⟨hregs, htag, htop⟩ := h
  refine ⟨fun a _ => ?_, fun a ha => ?_, htop ▸ topAllowed_pops k _, hsf⟩
  · rw [Npx.reg, Npx.reg]
    simp only [hregs]
  · rw [htag, Npx.amongTop_eq_false ha, Bool.false_or]

theorem Npx.Wrote.framed {k : Nat} {j : StIndex} {x : Ext} (h : n.Wrote m (n.phys j) x k)
    (hsf : n.sw.sf = true → m.sw.sf = true) : n.Framed m (.write j k) := by
  obtain ⟨hreg, htag, htop⟩ := h
  refine ⟨fun a ha => ?_, fun a ha => ?_, htop ▸ topAllowed_pops k _, hsf⟩
  · rw [hreg, if_neg (ha j (List.mem_singleton_self j)).symm]
  · obtain ⟨hpop, hj⟩ := List.forall_mem_append.mp ha
    have hne : a ≠ n.phys j := (hj j (List.mem_singleton_self j)).symm
    simp [htag, Npx.amongTop_eq_false hpop, hne]

/-- The register below the top is ST(7). -/
theorem Npx.phys_seven (n : Npx) : n.phys 7 = n.sw.top - 1 := by
  rw [Npx.phys]
  bv_omega

theorem Npx.Pushed.framed {x : Ext} (h : n.Pushed m x) (hsf : n.sw.sf = true → m.sw.sf = true) :
    n.Framed m .push := by
  obtain ⟨hreg, htag, htop⟩ := h
  have hne {a : BitVec 3} (ha : ∀ j ∈ [(7 : StIndex)], n.phys j ≠ a) : a ≠ n.sw.top - 1 :=
    n.phys_seven ▸ (ha 7 (List.mem_singleton_self 7)).symm
  refine ⟨fun a ha => ?_, fun a ha => ?_, .inr htop, hsf⟩
  · rw [hreg, if_neg (hne ha)]
  · rw [htag, decide_eq_true (hne ha), Bool.true_and]

theorem Npx.WrotePushed.framed {x y : Ext} (h : n.WrotePushed m x y) (hsf : n.sw.sf = true → m.sw.sf = true) :
    n.Framed m .pair := by
  obtain ⟨hreg, htag, htop⟩ := h
  have hne {a : BitVec 3} (ha : ∀ j ∈ [(0 : StIndex), 7], n.phys j ≠ a) : a ≠ n.sw.top ∧ a ≠ n.sw.top - 1 := by
    rw [← n.phys_seven]
    exact ⟨fun h => ha 0 (by simp) (by simp [Npx.phys, h]), fun h => ha 7 (by simp) h.symm⟩
  refine ⟨fun a ha => ?_, fun a ha => ?_, .inr htop, hsf⟩
  · obtain ⟨htop, hbelow⟩ := hne ha
    rw [hreg, if_neg hbelow, if_neg htop]
  · obtain ⟨htop, hbelow⟩ := hne ha
    rw [htag, decide_eq_true hbelow, decide_eq_true htop, Bool.true_and, Bool.true_and]

end

section
variable {n m : Npx} {j : StIndex} {dst : BitVec 3} (h : n.Framed m .same) (p : Nat) (x y : Ext)

include h

@[simp] theorem Npx.framed_pops : n.Framed (Npx.pops p m) (.pop p) :=
  h.then ((m.popped_pops p).framed (by simp))

@[simp] theorem Npx.framed_pushRaw : n.Framed (m.pushRaw x) .push := h.then ((m.pushed_pushRaw x).framed id)

@[simp] theorem Npx.framed_pairInto : n.Framed (m.pairInto x y) .pair :=
  h.then ((m.wrotePushed_pairInto x y).framed id)

@[simp] theorem Npx.framed_stackOverflow : n.Framed m.stackOverflow .push := by
  unfold Npx.stackOverflow
  split
  · simp [h]
  · exact (Npx.framed_stackFault h true).of_same _

@[simp] theorem Npx.framed_push : n.Framed (m.push x) .push := by
  unfold Npx.push
  split <;> simp [h]

theorem Npx.Framed.phys (i : StIndex) : m.phys i = n.phys i := by
  rw [Npx.phys, Npx.phys, show m.sw.top = n.sw.top from h.top]

variable (hdst : dst = n.phys j)

include hdst

@[simp] theorem Npx.framed_write : n.Framed (Npx.pops p (m.setReg dst x)) (.write j p) := by
  rw [hdst, ← h.phys j]
  exact h.then ((m.wrote_pops_setReg p x (m.phys j)).framed (by simp))

@[simp] theorem Npx.framed_setReg : n.Framed (m.setReg dst x) (.write j 0) := Npx.framed_write h 0 x hdst

@[simp] theorem Npx.framed_exactInto : n.Framed (m.exactInto dst p x) (.write j p) :=
  Npx.framed_write ((Npx.framed_setC1 false).mpr h) p x hdst

@[simp] theorem Npx.framed_deliverInto (r : Delivered) : n.Framed (m.deliverInto dst p r) (.write j p) :=
  Npx.framed_write ((Npx.framed_flagDelivered r).mpr h) p r.img hdst

@[simp] theorem Npx.framed_underflowInto : n.Framed (m.underflowInto dst p) (.write j p) := by
  have hfault := Npx.framed_stackFault h false
  unfold Npx.underflowInto
  split
  · exact Npx.framed_write hfault p indefinite hdst
  · exact hfault.of_same _

@[simp] theorem Npx.framed_invalidInto : n.Framed (m.invalidInto dst p x) (.write j p) := by
  have hsignal : n.Framed ((m.signal .ie).setC1 false) .same := by simp [h]
  unfold Npx.invalidInto
  dsimp only
  split
  · exact Npx.framed_write hsignal p x hdst
  · exact hsignal.of_same _

end

/-! ### Arithmetic -/

section
variable {n : Npx} {j : StIndex} {dst : BitVec 3} (d p : Nat)

/-- The operand checks write what the rule after them writes. -/
theorem Npx.framed_checked {a b : Opnd} {invalid : Bool} {k : Npx → Npx} (hdst : dst = n.phys j)
    (hk : ∀ m, n.Framed m .same → n.Framed (k m) (.write j p)) :
    n.Framed (n.checked a b invalid dst p k) (.write j p) := by
  have hsame : n.Framed n .same := n.framed_refl _
  obtain ⟨-, hc⟩ | ⟨-, -, hc⟩ | ⟨-, -, hc⟩ | ⟨-, -, hc⟩ | ⟨-, -, hc⟩ | ⟨-, hc⟩ :=
    n.checked_cases a b invalid dst p k <;> rw [hc]
  · exact Npx.framed_invalidInto hsame p _ hdst
  · exact Npx.framed_exactInto hsame p _ hdst
  · exact Npx.framed_invalidInto hsame p _ hdst
  · simp
  · exact hk _ ((Npx.framed_signal .de).mpr hsame)
  · exact hk _ hsame

theorem framed_arithFinite {m : Npx} (h : n.Framed m .same) (hdst : dst = n.phys j) (op : ArithOp) (a b : Opnd) :
    n.Framed (arithFinite op a b dst p d m) (.write j p) := by
  have hze : n.Framed ((m.signal .ze).setC1 false) .same := by simp [h]
  unfold arithFinite
  dsimp only
  repeat' split
  · exact Npx.framed_write hze p _ hdst
  · exact hze.of_same _
  · exact Npx.framed_exactInto h p _ hdst
  · exact Npx.framed_exactInto h p _ hdst
  · exact Npx.framed_deliverInto h p hdst _

theorem framed_arith (hdst : dst = n.phys j) (op : ArithOp) (a b : Option Opnd) :
    n.Framed (arith op a b dst p d n) (.write j p) := by
  unfold arith
  rw [Npx.framed_drawC320]
  split
  · exact Npx.framed_checked p hdst fun m h => framed_arithFinite d p h hdst ..
  · exact Npx.framed_underflowInto (n.framed_refl _) p hdst

end

section
variable (n : Npx) (d : Nat)

theorem framed_fsqrt : n.Framed (fsqrt d n) (.write 0 0) := by
  unfold fsqrt
  rw [Npx.framed_drawC320]
  split
  · simp
  · refine Npx.framed_checked 0 rfl fun m h => ?_
    split <;> simp [h, h.phys]

theorem framed_fscale : n.Framed (fscale d n) (.write 0 0) := by
  unfold fscale
  rw [Npx.framed_drawC320]
  split
  · refine Npx.framed_checked 0 rfl fun m h => ?_
    repeat' split
    all_goals simp [h, h.phys]
  · simp

theorem Npx.framed_remInto {m : Npx} {j : StIndex} {dst : BitVec 3} (h : n.Framed m .same) (hdst : dst = n.phys j)
    (neg : Bool) (r : RemStep) : n.Framed (m.remInto dst neg r) (.write j 0) := by
  unfold Npx.remInto
  dsimp only
  repeat' split
  all_goals simp [h, hdst]

theorem framed_fpremStep (nearest : Bool) : n.Framed (fpremStep nearest d n) (.write 0 0) := by
  have hden (a b : Opnd) : n.Framed (n.signalIf (a.cls == .denormal || b.cls == .denormal) .de) .same := by simp
  unfold fpremStep
  dsimp only
  repeat' split
  all_goals simp [Npx.framed_remInto, hden, (hden _ _).of_same]

theorem framed_frndint : n.Framed (frndint d n) (.write 0 0) := by
  unfold frndint
  rw [Npx.framed_drawC320]
  split
  · simp
  · refine Npx.framed_checked 0 rfl fun m h => ?_
    split <;> simp [h, h.phys]

theorem framed_fxtractRule (a : Opnd) : n.Framed (fxtractRule a n) .pair := by
  unfold fxtractRule
  dsimp only
  repeat' split
  all_goals simp

theorem framed_fxtract : n.Framed (fxtract d n) .pair := by
  unfold fxtract
  rw [Npx.framed_drawC320]
  repeat' split
  · exact framed_fxtractRule n _
  · simp
  · simp

theorem framed_mapTop (g : Ext → Ext) : n.Framed (mapTop g d n) (.write 0 0) := by
  unfold mapTop
  rw [Npx.framed_drawC320]
  split <;> simp

/-! ### Comparison, constants and data transfer -/

theorem framed_compareOperands (quietNan : Bool) (p : Nat) (a b : Option Opnd) :
    n.Framed (compareOperands quietNan p a b n) (.pop p) := by
  unfold compareOperands
  dsimp only
  repeat' split
  all_goals simp

theorem framed_examine : n.Framed (examine d n) .same := by
  obtain ⟨-, hsf, -⟩ := flagged_examine d n
  exact (n.framed_refl _).of_sameStack (sameStack_examine d n) (by simp [hsf])

theorem framed_pushConstant (k : RC → Ext) : n.Framed (pushConstant k d n) .push := by simp [pushConstant]

theorem framed_pushImage (x : Ext) : n.Framed (pushImage x d n) .push := by simp [pushImage]

theorem framed_fldReal (f : Fmt) (v : Nat) : n.Framed (fldReal f d v n) .push := by
  unfold fldReal
  rw [Npx.framed_drawC320]
  repeat' split
  all_goals simp

theorem framed_fldStack (i : StIndex) : n.Framed (fldStack i d n) .push := by
  unfold fldStack
  rw [Npx.framed_drawC320]
  repeat' split
  all_goals simp

theorem framed_storeTop (conv : Npx → Ext → Stored) (ind p : Nat) :
    n.Framed (storeTop conv ind p d n).npx (.pop p) := by
  unfold storeTop
  dsimp only
  repeat' split
  all_goals simp [Npx.pops]

theorem framed_fstStack (i : StIndex) (p : Nat) : n.Framed (fstStack i p d n) (.write i p) := by
  unfold fstStack
  rw [Npx.framed_drawC320]
  split <;> simp

/-! ### Transcendental instructions -/

theorem framed_trigRule {f : StackFrame} {put : Npx → Ext → Npx} {k : Npx → Npx} (a : Opnd)
    (hput : ∀ m x, n.Framed m .same → n.Framed (put m x) f) (hk : ∀ m, n.Framed m .same → n.Framed (k m) f) :
    n.Framed (trigRule put k d a n) f := by
  unfold trigRule
  dsimp only
  repeat' split
  all_goals simp [hput, hk]

theorem framed_trigTop (f : Transc1) (atZero : Ext → Ext) : n.Framed (trigTop f atZero d n) (.write 0 0) := by
  unfold trigTop
  rw [Npx.framed_drawC30]
  split
  · split <;> simp
  · refine framed_trigRule n d _ (fun m x h => by simp [h, h.phys]) fun m h => ?_
    split <;> simp [h, h.phys]

theorem framed_trigPairFault (y : Ext) : n.Framed (trigPairFault y d n) .pair := by
  unfold trigPairFault
  split <;> simp

theorem framed_fsincos : n.Framed (fsincos d n) .pair := by
  unfold fsincos
  rw [Npx.framed_drawC30]
  split
  · refine framed_trigRule n d _ (fun m x h => Npx.framed_pairInto h x x) fun m h => ?_
    split <;> simp [h]
  · exact framed_trigPairFault n d _

theorem framed_fptan : n.Framed (fptan d n) .pair := by
  unfold fptan
  rw [Npx.framed_drawC30]
  split
  · refine framed_trigRule n d _ (fun m x h => Npx.framed_pairInto h x _) fun m h => ?_
    split <;> simp [h]
  · exact framed_trigPairFault n d _

theorem framed_fpatan : n.Framed (fpatan d n) (.write 1 1) := by
  unfold fpatan
  rw [Npx.framed_drawC320]
  split
  · refine Npx.framed_checked 1 rfl fun m h => ?_
    split <;> simp [h, h.phys]
  · simp

theorem framed_f2xm1 : n.Framed (f2xm1 d n) (.write 0 0) := by
  unfold f2xm1
  rw [Npx.framed_drawC320]
  split
  · simp
  · refine Npx.framed_checked 0 rfl fun m h => ?_
    repeat' split
    all_goals simp [h, h.phys]

theorem framed_fyl2xRule {m : Npx} (h : n.Framed m .same) (y x : Opnd) :
    n.Framed (fyl2xRule y x d m) (.write 1 1) := by
  unfold fyl2xRule
  dsimp only
  repeat' split
  all_goals simp [h, h.phys, h.of_same]

theorem framed_fyl2x : n.Framed (fyl2x d n) (.write 1 1) := by
  unfold fyl2x
  rw [Npx.framed_drawC320]
  split
  · exact Npx.framed_checked 1 rfl fun m h => framed_fyl2xRule n d h ..
  · simp

theorem framed_fyl2xp1Rule {m : Npx} (h : n.Framed m .same) (y x : Opnd) :
    n.Framed (fyl2xp1Rule y x d m) (.write 1 1) := by
  unfold fyl2xp1Rule
  dsimp only
  repeat' split
  all_goals simp [h, h.phys]

theorem framed_fyl2xp1 : n.Framed (fyl2xp1 d n) (.write 1 1) := by
  unfold fyl2xp1
  rw [Npx.framed_drawC320]
  split
  · exact Npx.framed_checked 1 rfl fun m h => framed_fyl2xp1Rule n d h ..
  · simp

end

end Sys2Proof.Machine
end

section
/-! What no instruction changes in the NPX (R22 to R24, R32, R42), and the flags and SF (R34, R35). -/

namespace Sys2Proof.Machine

/-! ### FXCH, FFREE and the moves of TOP (R211, R345 to R347) -/

section
variable {n m : Npx} {i : StIndex}

theorem Npx.Exchanged.framed (h : n.Exchanged (n.phys 0) (n.phys i) m) (htop : m.sw.top = n.sw.top)
    (hsf : n.sw.sf = true → m.sw.sf = true) : n.Framed m (.exchange i) := by
  obtain ⟨hreg, htag⟩ := h
  have hne {a : BitVec 3} (ha : ∀ j ∈ [0, i], n.phys j ≠ a) : a ≠ n.phys 0 ∧ a ≠ n.phys i :=
    ⟨(ha 0 (by simp)).symm, (ha i (by simp)).symm⟩
  refine ⟨fun a ha => ?_, fun a ha => ?_, htop, hsf⟩
  · obtain ⟨h0, hi⟩ := hne ha
    rw [hreg, if_neg h0, if_neg hi]
  · obtain ⟨h0, hi⟩ := hne ha
    rw [htag, decide_eq_true h0, decide_eq_true hi, Bool.true_and, Bool.true_and]

variable (n) (d : Nat)

theorem framed_fxchStack (i : StIndex) : n.Framed (fxchStack i d n) (.exchange i) := by
  obtain ⟨-, ⟨-, hsf, -⟩, htop, hexchanged, hsame⟩ := fxchStack_spec i d n
  have hsf' : n.sw.sf = true → (fxchStack i d n).sw.sf = true := fun h => by rw [hsf, h, Bool.true_or]
  by_cases hc : (n.isEmpty (n.phys 0) || n.isEmpty (n.phys i)) = false ∨ n.masked .ie = true
  · exact (hexchanged hc).framed htop hsf'
  · obtain ⟨hunder, him⟩ := not_or.mp hc
    exact (n.framed_refl _).of_sameStack (hsame (Bool.eq_true_of_not_eq_false hunder)
      (Bool.eq_false_of_not_eq_true him)) hsf'

theorem Npx.framed_free (i : StIndex) : n.Framed (n.free (n.phys i)) ⟨[], [i], .keeps⟩ where
  reg _ _ := rfl
  tag a ha := by rw [Npx.isEmpty_free, if_neg (ha i (List.mem_singleton_self i))]
  top := rfl
  sf := id

/-- FINCSTP and FDECSTP change TOP alone. -/
theorem Npx.framed_setTop {a : BitVec 3} {e : TopEffect} (h : TopAllowed e n.sw.top a) :
    n.Framed (n.setTop a) ⟨[], [], e⟩ where
  reg _ _ := rfl
  tag _ _ := rfl
  top := h
  sf := id

end

/-! ### The frame of an instruction -/

/-- The registers, tags and values of TOP that an instruction may change. -/
def frameOf (i : Instr) : StackFrame := ⟨i.writes.regs, i.tags, i.writes.top⟩

/-- No flag is cleared, nor SF (R34, R35). -/
def Npx.KeepsSticky (n m : Npx) : Prop :=
  (∀ e, n.sw.flag e = true → m.sw.flag e = true) ∧ (n.sw.sf = true → m.sw.sf = true)

/-- The change from `n` to `m` is one that the instruction may make. -/
structure NpxFramed (i : Instr) (n m : Npx) : Prop where
  reg : ∀ k, (∀ j ∈ i.writes.regs, n.phys j ≠ k) → m.reg k = n.reg k
  tag : ∀ k, (∀ j ∈ i.tags, n.phys j ≠ k) → m.isEmpty k = n.isEmpty k
  top : TopAllowed i.writes.top n.sw.top m.sw.top
  control : i.writes.control = false → m.cw = n.cw
  sticky : i.writes.flags = .sets → n.KeepsSticky m

section
variable {i : Instr} {n m : Npx} {f : StackFrame}

/-- An instruction that may write the control word. -/
theorem NpxFramed.of_control (hframe : frameOf i = f) (h : n.Framed m f) (hcontrol : i.writes.control = true)
    (hflag : ∀ e, n.sw.flag e = true → m.sw.flag e = true) : NpxFramed i n m := by
  subst hframe
  exact ⟨h.reg, h.tag, h.top, fun hc => absurd (hcontrol.symm.trans hc) nofun, fun _ => ⟨hflag, h.sf⟩⟩

/-- An instruction that leaves the control word and clears no flag. -/
theorem NpxFramed.of_keepsFlags (hframe : frameOf i = f) (h : n.Framed m f) (hkeeps : n.KeepsFlags m) :
    NpxFramed i n m := by
  subst hframe
  obtain ⟨hcw, hflag⟩ := hkeeps
  exact ⟨h.reg, h.tag, h.top, fun _ => hcw, fun _ => ⟨hflag, h.sf⟩⟩

theorem npxFramed_refl (i : Instr) (n : Npx) : NpxFramed i n n :=
  .of_keepsFlags rfl (n.framed_refl _) ⟨rfl, fun _ => id⟩

/-- Every register is a stack register. -/
theorem Npx.exists_phys_eq (n : Npx) (k : BitVec 3) : ∃ j ∈ everyRegister, n.phys j = k := by
  have hall : ∀ j : StIndex, j ∈ everyRegister := by decide
  exact ⟨k - n.sw.top, hall _, add_sub_cancel ..⟩

/-- An instruction that loads or sets all tags may change every one. -/
theorem tag_of_sets (htop : i.writes.top = .sets) (k : BitVec 3) (hk : ∀ j ∈ i.tags, n.phys j ≠ k) :
    m.isEmpty k = n.isEmpty k := by
  obtain ⟨j, hj, rfl⟩ := n.exists_phys_eq k
  rw [Instr.tags, htop] at hk
  exact absurd rfl (hk j hj)

/-- An instruction that loads or sets the status word, the tags and the control word. -/
theorem NpxFramed.of_sets (hwrites : i.writes = ⟨i.writes.regs, .sets, i.writes.flags, true⟩)
    (hflags : i.writes.flags ≠ .sets) (hreg : i.writes.regs = everyRegister ∨ m.regs = n.regs) : NpxFramed i n m := by
  have htop : i.writes.top = .sets := congrArg Writes.top hwrites
  have hcontrol : i.writes.control = true := congrArg Writes.control hwrites
  refine ⟨fun k hk => ?_, tag_of_sets htop, by rw [htop]; trivial, fun hc => absurd (hcontrol.symm.trans hc) nofun,
    fun hs => absurd hs hflags⟩
  rcases hreg with hreg | hreg
  · obtain ⟨j, hj, rfl⟩ := n.exists_phys_eq k
    exact absurd rfl (hk j (hreg ▸ hj))
  · rw [Npx.reg, Npx.reg]
    simp only [hreg]

/-- A reserved encoding may change everything (assumption 16). -/
theorem writes_of_reserved (h : i.reserved = true) : i.writes = ⟨everyRegister, .sets, .drawn, true⟩ := by
  -- the table of reserved encodings against the table of writes, row by row
  cases i <;> cases h <;> rfl

theorem NpxFramed.of_reserved (h : i.reserved = true) : NpxFramed i n m := by
  have hw := writes_of_reserved h
  exact .of_sets (by rw [hw]) (by rw [hw]; nofun) (.inl (by rw [hw]))

/-! ### Interrupt 9 (R381, assumption 28) -/

/-- The move of TOP that interrupt 9 may have made. -/
def moveOf : TopEffect → StackMove
  | .keeps => .stays
  | .pushes => .by 7
  | .pops k => .by (BitVec.ofNat 3 k)
  | .increments => .by 1
  | .decrements => .by 7
  | .sets => .any

theorem moveOf_ne_any {e : TopEffect} (h : e ≠ .sets) : moveOf e ≠ .any := by
  cases e with
  | sets => exact absurd rfl h
  | _ => nofun

/-- What interrupt 9 may write in a memory form with the frame of the instruction. -/
def formOf (i : Instr) : FormWrites := ⟨i.writes.regs, i.tags, moveOf i.writes.top, i.writes.control⟩

theorem Npx.reg_overrun {op : BitVec 11} {p : Params} {d : Nat} {k : BitVec 3}
    (hk : ∀ j ∈ (formWrites op).regs, n.phys j ≠ k) : (n.overrun p op d).reg k = n.reg k := by
  simp only [Npx.reg, Npx.overrun, Vector.getElem_ofFn]
  exact if_neg (by simpa using hk)

theorem Npx.isEmpty_overrun {op : BitVec 11} {p : Params} {d : Nat} {k : BitVec 3}
    (hk : ∀ j ∈ (formWrites op).tags, n.phys j ≠ k) : (n.overrun p op d).isEmpty k = n.isEmpty k := by
  simp only [Npx.isEmpty, Npx.overrun, Vector.getElem_ofFn]
  exact if_neg (by simpa using hk)

/-- Interrupt 9 makes the move of TOP or leaves TOP. -/
theorem Npx.topAllowed_overrun {op : BitVec 11} {e : TopEffect} (h : (formWrites op).stack = moveOf e) (p : Params)
    (d : Nat) : TopAllowed e n.sw.top (n.overrun p op d).sw.top := by
  have hmoved (delta : BitVec 3) :
      (if Config.drawBit .overrunMoved d then n.sw.top + delta else n.sw.top) = n.sw.top ∨
        (if Config.drawBit .overrunMoved d then n.sw.top + delta else n.sw.top) = n.sw.top + delta :=
    (ite_eq_or_eq ..).symm
  have hdown : n.sw.top - 1 = n.sw.top + 7 := by bv_omega
  simp only [Npx.overrun, h]
  cases e with
  | keeps => exact rfl
  | pushes | decrements =>
    rw [TopAllowed, hdown]
    exact hmoved 7
  | pops k => exact hmoved _
  | increments => exact hmoved 1
  | sets => trivial

theorem Npx.keepsSticky_overrun {op : BitVec 11} (h : (formWrites op).stack ≠ .any) (p : Params) (d : Nat) :
    n.KeepsSticky (n.overrun p op d) := by
  unfold Npx.overrun
  cases hstack : (formWrites op).stack with
  | any => exact absurd hstack h
  | _ =>
    refine ⟨fun e he => ?_, fun hsf => ?_⟩
    · simp [hstack, StatusWord.flag_withTop, StatusWord.flag_mergeFlags, he]
    · simp [hstack, StatusWord.mergeFlags, hsf]

/-- An instruction that writes TOP as a whole clears, loads or draws the flags. -/
theorem top_ne_sets_of_flags (h : i.writes.flags = .sets) : i.writes.top ≠ .sets := by
  intro htop
  -- the two columns of the table of writes, row by row
  cases i <;> cases h <;> cases htop

theorem npxFramed_overrun {op : BitVec 11} (h : formWrites op = formOf i) (p : Params) (d : Nat) :
    NpxFramed i n (n.overrun p op d) := by
  refine ⟨fun k hk => ?_, fun k hk => ?_, ?_, fun hc => ?_, fun hs => ?_⟩
  · exact Npx.reg_overrun (by rwa [h])
  · exact Npx.isEmpty_overrun (by rwa [h])
  · exact Npx.topAllowed_overrun (by rw [h]; rfl) p d
  · simp [Npx.overrun, h, formOf, hc]
  · refine Npx.keepsSticky_overrun ?_ p d
    rw [h]
    exact moveOf_ne_any (top_ne_sets_of_flags hs)

end

end Sys2Proof.Machine
end

section
/-! The frame of the NPX, instruction by instruction (R22 to R24, R32, R35, R42). -/

namespace Sys2Proof.Machine

/-! ### The ways an instruction ends -/

/-- However the instruction ends, it has changed nothing outside its frame. -/
def InstrFramed (i : Instr) : Prop := ∀ s t, exec i s = .next t → Ends s (fun u => NpxFramed i s.npx u.npx) t

theorem Ends.npxFramed {i : Instr} {s t : State} (h : Ends s (fun u => NpxFramed i s.npx u.npx) t) :
    NpxFramed i s.npx t.npx := by
  cases h with
  | trap v => rw [State.takeInterrupt_npx]; exact npxFramed_refl ..
  | hold => exact npxFramed_refl ..
  | overrun op r n w h => exact h
  | finish len t h => exact h

section
variable {i : Instr} {k : EscKind} {pre : List Prefix} {grp reg : BitVec 3} {b2 : Byte} {m : MemArg} {n : Nat}
  {f : StackFrame}

theorem framed_regForm {body : State → State} (runs : ∀ s, exec i s = s.regForm k pre grp b2 body)
    (hb : ∀ t : State, NpxFramed i t.npx (body t).npx) : InstrFramed i := by
  refine fun s _ h => State.escReg_ends ((runs s).symm.trans h) ?_
  simpa only [State.startEsc_npx] using hb (s.startEsc k (grp ++ b2) none)

/-- A memory form of known operand: interrupt 9 may write what the instruction may. -/
theorem framed_memForm {w : Bool} {s t : State} {body : MemRef → State → State} (h : exec i s = .next t)
    (runs : exec i s = s.memForm k pre grp reg m n w body) (hform : formWrites (memOpcode grp reg) = formOf i)
    (hb : ∀ r (t : State), NpxFramed i t.npx (body r t).npx) : Ends s (fun u => NpxFramed i s.npx u.npx) t := by
  refine State.escMem_ends (runs.symm.trans h) ?_ ?_
  · rw [State.segmentOverrun_npx]
    exact npxFramed_overrun ((formWrites_modrm ..).trans hform) ..
  · simpa only [State.startEsc_npx] using hb (effectiveAddress s.cpu pre m)
      (s.startEsc k (grp ++ m.modrm reg) (some (effectiveAddress s.cpu pre m)))

theorem framed_numReg {g : Nat → Npx → Npx} (runs : ∀ s, exec i s = s.numReg pre grp b2 g)
    (hframe : ∀ d (x : Npx), x.Framed (g d x) (frameOf i)) (hkeeps : ∀ d (x : Npx), x.KeepsFlags (g d x)) :
    InstrFramed i :=
  framed_regForm runs fun _ => .of_keepsFlags rfl (hframe ..) (hkeeps ..)

theorem framed_numLoad {g : Nat → Nat → Npx → Npx} (runs : ∀ s, exec i s = s.numLoad pre grp reg m n g)
    (hform : formWrites (memOpcode grp reg) = formOf i)
    (hframe : ∀ d v (x : Npx), x.Framed (g d v x) (frameOf i)) (hkeeps : ∀ d v (x : Npx), x.KeepsFlags (g d v x)) :
    InstrFramed i :=
  fun s _ h => framed_memForm h (runs s) hform fun _ _ => .of_keepsFlags rfl (hframe ..) (hkeeps ..)

theorem framed_numStore {g : Nat → Npx → StoreEffect} (runs : ∀ s, exec i s = s.numStore pre grp reg m n g)
    (hform : formWrites (memOpcode grp reg) = formOf i)
    (hframe : ∀ d (x : Npx), x.Framed (g d x).npx (frameOf i)) (hkeeps : ∀ d (x : Npx), x.KeepsFlags (g d x).npx) :
    InstrFramed i := by
  refine fun s _ h => framed_memForm h (runs s) hform fun r t => ?_
  rw [storeThen_npx]
  exact .of_keepsFlags rfl (hframe ..) (hkeeps ..)

theorem framed_reserved {op : BitVec 11} {len : Nat} (hr : i.reserved = true)
    (runs : ∀ s, exec i s = s.escReserved op len) : InstrFramed i :=
  fun s _ h => State.escReserved_ends ((runs s).symm.trans h) (.of_reserved hr)

end

/-! ### Numeric instructions -/

/-- A numeric instruction stays inside its frame, by the lemmas of its rule. -/
theorem framed_of_numeric {i : Instr} {u : Option OperandUse} (tabled : TabledAs i false u) : InstrFramed i := by
  have h : (i.administrative || i.reserved) = false := by rw [tabled.administrative, tabled.reserved, Bool.or_false]
  cases i with
  | faddStSti | fmulStSti | fsubStSti | fsubrStSti | fdivStSti | fdivrStSti | faddStiSt | fmulStiSt | fsubrStiSt
  | fsubStiSt | fdivrStiSt | fdivStiSt | faddpStiSt | fmulpStiSt | fsubrpStiSt | fsubpStiSt | fdivrpStiSt
  | fdivpStiSt =>
    exact framed_numReg (fun _ => rfl) (fun d n => framed_arith d _ rfl ..)
      fun d n => ⟨arith_cw n d .., fun _ h => arith_flag h d ..⟩
  | faddSingleReal | fmulSingleReal | fsubSingleReal | fsubrSingleReal | fdivSingleReal | fdivrSingleReal
  | faddDoubleReal | fmulDoubleReal | fsubDoubleReal | fsubrDoubleReal | fdivDoubleReal | fdivrDoubleReal
  | fiaddShortInteger | fimulShortInteger | fisubShortInteger | fisubrShortInteger | fidivShortInteger
  | fidivrShortInteger | fiaddWordInteger | fimulWordInteger | fisubWordInteger | fisubrWordInteger
  | fidivWordInteger | fidivrWordInteger =>
    exact framed_numLoad (fun _ => rfl) rfl (fun d _ n => framed_arith d 0 rfl ..)
      fun d _ n => ⟨arith_cw n d .., fun _ h => arith_flag h d ..⟩
  | fcomSti | fcompSti | fcompp | fucomSti | fucompSti | fucompp | ftst =>
    exact framed_numReg (fun _ => rfl) (fun _ n => framed_compareOperands n ..)
      fun _ n => ⟨compareOperands_cw n .., fun _ h => compareOperands_flag h ..⟩
  | fcomSingleReal | fcompSingleReal | fcomDoubleReal | fcompDoubleReal | ficomShortInteger | ficompShortInteger
  | ficomWordInteger | ficompWordInteger =>
    exact framed_numLoad (fun _ => rfl) rfl (fun _ _ n => framed_compareOperands n ..)
      fun _ _ n => ⟨compareOperands_cw n .., fun _ h => compareOperands_flag h ..⟩
  | fld1 | fldl2t | fldl2e | fldpi | fldlg2 | fldln2 | fldz =>
    exact framed_numReg (fun _ => rfl) (fun d n => framed_pushConstant n d _)
      fun d n => ⟨pushConstant_cw n d _, fun _ h => pushConstant_flag h d _⟩
  | fldSingleReal | fldDoubleReal =>
    exact framed_numLoad (fun _ => rfl) rfl (fun d v n => framed_fldReal n d _ v)
      fun d v n => ⟨fldReal_cw n d _ v, fun _ h => fldReal_flag h d _ v⟩
  | fldExtendedReal | fildShortInteger | fildWordInteger | fildLongInteger | fbldPackedDecimal =>
    exact framed_numLoad (fun _ => rfl) rfl (fun d _ n => framed_pushImage n d _)
      fun d _ n => ⟨pushImage_cw n d _, fun _ h => pushImage_flag h d _⟩
  | fstSingleReal | fstpSingleReal | fistShortInteger | fistpShortInteger | fstpExtendedReal | fstDoubleReal
  | fstpDoubleReal | fistWordInteger | fistpWordInteger | fbstpPackedDecimal | fistpLongInteger =>
    exact framed_numStore (fun _ => rfl) rfl (fun d n => framed_storeTop n d ..)
      fun d n => ⟨storeTop_cw n d .., fun _ h => storeTop_flag h d ..⟩
  | fldSti =>
    exact framed_numReg (fun _ => rfl) (fun d n => framed_fldStack n d _)
      fun d n => ⟨fldStack_cw n d _, fun _ h => fldStack_flag h d _⟩
  | fstSti | fstpSti =>
    exact framed_numReg (fun _ => rfl) (fun d n => framed_fstStack n d ..)
      fun d n => ⟨fstStack_cw n d .., fun _ h => fstStack_flag h d ..⟩
  | fxchSti =>
    exact framed_numReg (fun _ => rfl) (fun d n => framed_fxchStack n d _)
      fun d n => ⟨fxchStack_cw n d _, fun _ h => fxchStack_flag h d _⟩
  | fxam =>
    exact framed_numReg (fun _ => rfl) (fun d n => framed_examine n d)
      fun d n => ⟨examine_cw n d, fun _ h => examine_flag h d⟩
  | fchs | fabs =>
    exact framed_numReg (fun _ => rfl) (fun d n => framed_mapTop n d _)
      fun d n => ⟨mapTop_cw n d _, fun _ h => mapTop_flag h d _⟩
  | fsqrt =>
    exact framed_numReg (fun _ => rfl) (fun d n => framed_fsqrt n d)
      fun d n => ⟨fsqrt_cw n d, fun _ h => fsqrt_flag h d⟩
  | fscale =>
    exact framed_numReg (fun _ => rfl) (fun d n => framed_fscale n d)
      fun d n => ⟨fscale_cw n d, fun _ h => fscale_flag h d⟩
  | fprem | fprem1 =>
    exact framed_numReg (fun _ => rfl) (fun d n => framed_fpremStep n d _)
      fun d n => ⟨fpremStep_cw n d _, fun _ h => fpremStep_flag h d _⟩
  | frndint =>
    exact framed_numReg (fun _ => rfl) (fun d n => framed_frndint n d)
      fun d n => ⟨frndint_cw n d, fun _ h => frndint_flag h d⟩
  | fxtract =>
    exact framed_numReg (fun _ => rfl) (fun d n => framed_fxtract n d)
      fun d n => ⟨fxtract_cw n d, fun _ h => fxtract_flag h d⟩
  | fsin | fcos =>
    exact framed_numReg (fun _ => rfl) (fun d n => framed_trigTop n d ..)
      fun d n => ⟨trigTop_cw n d .., fun _ h => trigTop_flag h d ..⟩
  | fsincos =>
    exact framed_numReg (fun _ => rfl) (fun d n => framed_fsincos n d)
      fun d n => ⟨fsincos_cw n d, fun _ h => fsincos_flag h d⟩
  | fptan =>
    exact framed_numReg (fun _ => rfl) (fun d n => framed_fptan n d)
      fun d n => ⟨fptan_cw n d, fun _ h => fptan_flag h d⟩
  | fpatan =>
    exact framed_numReg (fun _ => rfl) (fun d n => framed_fpatan n d)
      fun d n => ⟨fpatan_cw n d, fun _ h => fpatan_flag h d⟩
  | f2xm1 =>
    exact framed_numReg (fun _ => rfl) (fun d n => framed_f2xm1 n d)
      fun d n => ⟨f2xm1_cw n d, fun _ h => f2xm1_flag h d⟩
  | fyl2x =>
    exact framed_numReg (fun _ => rfl) (fun d n => framed_fyl2x n d)
      fun d n => ⟨fyl2x_cw n d, fun _ h => fyl2x_flag h d⟩
  | fyl2xp1 =>
    exact framed_numReg (fun _ => rfl) (fun d n => framed_fyl2xp1 n d)
      fun d n => ⟨fyl2xp1_cw n d, fun _ h => fyl2xp1_flag h d⟩
  | fincstp | fdecstp =>
    exact framed_numReg (fun _ => rfl)
      (fun d n => (Npx.framed_drawC320 d).mpr ((Npx.framed_setC1 false).mpr (n.framed_setTop (.inr rfl))))
      fun d n => .of_eq rfl (by simp)
  | ffreeSti =>
    exact framed_numReg (fun _ => rfl) (fun d n => (Npx.framed_drawCC d).mpr (n.framed_free _))
      fun d n => .of_eq rfl (by simp)
  | fnop | feni | fdisi | fsetpm =>
    exact framed_numReg (fun _ => rfl) (fun d n => (Npx.framed_drawCC d).mpr (n.framed_refl _))
      fun d n => n.keepsFlags_drawCC d
  | _ => cases h

/-! ### Every instruction -/

/-- An administrative instruction that draws the condition code and changes nothing else of the NPX. -/
theorem npxFramed_drawCC (i : Instr) (n : Npx) (d : Nat) : NpxFramed i n (n.drawCC d) :=
  .of_keepsFlags rfl ((Npx.framed_drawCC d).mpr (n.framed_refl _)) (n.keepsFlags_drawCC d)

/-- FLDCW and FSTENV write the control word alone. -/
theorem npxFramed_setControl {i : Instr} (hcontrol : i.writes.control = true) (n : Npx) (cw : BitVec 16) (d : Nat) :
    NpxFramed i n (({ n with cw := cw } : Npx).drawCC d) :=
  .of_control rfl ((Npx.framed_drawCC d).mpr ((n.framed_refl _).of_sameStack ⟨rfl, rfl, rfl⟩ id)) hcontrol
    fun _ he => ((Npx.flag_drawCC ..).trans he :)

/-- FCLEX clears the flags and SF and changes nothing else. -/
theorem npxFramed_clearExceptions (pre : List Prefix) (n : Npx) (d : Nat) :
    NpxFramed (.fclex pre) n ((clearExceptions n).drawCC d) :=
  ⟨fun _ _ => rfl, fun _ _ => rfl, rfl, fun _ => rfl, nofun⟩

theorem exec_ends_framed (i : Instr) : InstrFramed i := by
  cases template_of i with
  | numReg pre grp b2 f _ _ tabled _ => exact framed_of_numeric tabled
  | numLoad pre grp reg m n f _ _ tabled _ => exact framed_of_numeric tabled
  | numStore pre grp reg m n f _ _ tabled _ => exact framed_of_numeric tabled
  | reservedReg pre grp b2 _ _ tabled runs => exact framed_reserved tabled.reserved runs
  | reservedMem pre grp reg m _ _ tabled runs => exact framed_reserved tabled.reserved runs
  | finit pre => exact framed_regForm (exec_finit pre) fun t => .of_sets rfl nofun (.inr rfl)
  | fclex pre => exact framed_regForm (exec_fclex pre) fun t => npxFramed_clearExceptions ..
  | fstswAx pre => exact framed_regForm (exec_fstswAx pre) fun t => npxFramed_drawCC ..
  | wait pre => exact fun s t h => execWait_ends h (npxFramed_refl ..)
  | fldcw pre m => exact fun s t h => framed_memForm h (exec_fldcw ..) rfl fun _ _ => npxFramed_setControl rfl ..
  | fstcw pre m => exact fun s t h => framed_memForm h (exec_fstcw ..) rfl fun _ _ => npxFramed_drawCC ..
  | fstsw pre m => exact fun s t h => framed_memForm h (exec_fstsw ..) rfl fun _ _ => npxFramed_drawCC ..
  | fldenv pre m => exact fun s t h => framed_memForm h (exec_fldenv ..) rfl fun _ _ => .of_sets rfl nofun (.inr rfl)
  | fstenv pre m => exact fun s t h => framed_memForm h (exec_fstenv ..) rfl fun _ _ => npxFramed_setControl rfl ..
  | frstor pre m => exact fun s t h => framed_memForm h (exec_frstor ..) rfl fun _ _ => .of_sets rfl nofun (.inl rfl)
  | fsave pre m => exact fun s t h => framed_memForm h (exec_fsave ..) rfl fun _ _ => .of_sets rfl nofun (.inr rfl)

theorem exec_npxFramed {i : Instr} {s t : State} (h : exec i s = .next t) : NpxFramed i s.npx t.npx :=
  (exec_ends_framed i s t h).npxFramed

/-- Settles O20: every instruction stays inside its frame. -/
theorem npxFrame : Obligations.NpxFrame := by
  unfold Obligations.NpxFrame
  refine ⟨fun i s t h => (exec_npxFramed h).reg, fun i s t h => ?_, fun i s t h => (exec_npxFramed h).tag,
    fun i s t h => (exec_npxFramed h).control⟩
  have htop := (exec_npxFramed h).top
  cases he : i.writes.top <;> rw [he] at htop <;> exact htop

/-! ### Clearing and loading the flags (R34, R35) -/

/-- FCLEX, FINIT and FSAVE clear every flag and SF. -/
theorem exec_clears {i : Instr} {s : State} (h : s.ready i = true) (hf : i.writes.flags = .clears) :
    ∃ t, exec i s = .next t ∧ (∀ e, t.npx.sw.flag e = false) ∧ t.npx.sw.sf = false := by
  cases i with
  | finit pre =>
    obtain ⟨_, he⟩ := exec_adminReg_of_ready (exec_finit pre s) rfl rfl rfl h
    exact ⟨_, he, fun e => by cases e <;> rfl, rfl⟩
  | fclex pre =>
    obtain ⟨_, he⟩ := exec_adminReg_of_ready (exec_fclex pre s) rfl rfl rfl h
    exact ⟨_, he, fun e => by cases e <;> rfl, rfl⟩
  | fsave pre m =>
    obtain ⟨_, he⟩ := exec_fsave_of_ready h rfl
    exact ⟨_, he, fun e => by cases e <;> rfl, rfl⟩
  | _ => cases hf

theorem State.operandRef_of_operand {s : State} {i : Instr} {r : MemRef} {u : OperandUse}
    (h : s.operand i = some (r, u)) : s.operandRef i = some r := by
  unfold State.operand at h
  split at h
  · next hr _ =>
    cases h
    exact hr
  · cases h

/-- FLDENV and FRSTOR load the status word from the image. -/
theorem exec_loads {i : Instr} {s : State} {r : MemRef} {u : OperandUse} (h : s.ready i = true)
    (hf : i.writes.flags = .loads) (ho : s.operand i = some (r, u)) :
    ∃ t, exec i s = .next t ∧
      t.npx.sw = loadStatus (s.wordAt r (if s.operandSize i.prefixes = .s16 then 2 else 4)) := by
  have hr : s.operandRef i = some r := State.operandRef_of_operand ho
  cases i with
  | fldenv pre m =>
    obtain ⟨t, he, hload, -⟩ := exec_fldenv_of_ready h hr
    exact ⟨t, he, hload.statusWord⟩
  | frstor pre m =>
    obtain ⟨t, he, hload, -⟩ := exec_frstor_of_ready h hr
    exact ⟨t, he, hload.statusWord⟩
  | _ => cases hf

/-- Settles O21: what sets flags only by `exec_npxFramed`, the others by the status word they leave. -/
theorem flagsAreSticky : Obligations.FlagsAreSticky := by
  unfold Obligations.FlagsAreSticky
  refine ⟨fun i s t h => (exec_npxFramed h).sticky, fun i s => exec_clears, fun i s r u h hf ho => ?_⟩
  obtain ⟨t, he, hsw⟩ := exec_loads h hf ho
  exact ⟨t, he, by rw [hsw]; exact ⟨rfl, rfl, rfl, rfl, rfl, rfl, rfl⟩⟩

end Sys2Proof.Machine
end
